-- ==== Sys2Proof/Word.lean ====
section
/-! DEFINITION. Word.lean: the byte and the two ways R203 carries a number in bytes. -/

namespace Sys2Proof

/-- A character of the host link, a byte of a crew frame, a byte of the profile image. -/
abbrev Byte := BitVec 8

/-- A two-byte field of R203. -/
abbrev Half := BitVec 16

/-- A raw 12-bit converter code (R4). Its value depends on the channel's input mode. -/
abbrev RawCode := BitVec 12

end Sys2Proof
end

