-- ==== Sys2Proof/Syntax.lean ====
section
/-! DEFINITION. Syntax.lean: the commands of the block, one constructor for each row of
spec/opcode_table.json, and the names its operands range over. The table gives its rows no fields; each
operand here is what the spec's rules make the event carry (a timer's owner, a code, a reading, the
fields of a frame). Fields of host frames are the raw bytes, so that the decode checks of R184 can fail. -/

namespace Sys2Proof

/-- The five axes (00_scope.md, Axes). LIFT, TILT and FOLD are hydraulic, KDOOR and RDOOR are doors. -/
inductive Axis
  | lift | tilt | fold | kdoor | rdoor
  deriving DecidableEq, Repr

/-- The four beacon channels B0 to B3 (R149). -/
inductive Lamp
  | b0 | b1 | b2 | b3
  deriving DecidableEq, Repr

/-- The eleven drive outputs DO0 to DO10 (R133). -/
inductive DriveOut
  | do0 | do1 | do2 | do3 | do4 | do5 | do6 | do7 | do8 | do9 | do10
  deriving DecidableEq, Repr

/-- Every output that has load and echo checks (R145 to R148). -/
inductive Output
  | drive (o : DriveOut)
  | lamp (l : Lamp)
  deriving DecidableEq, Repr

/-- The debounced discrete inputs (R18). -/
inductive Input
  | park | foot | edgeK | edgeR | night | speed
  deriving DecidableEq, Repr

/-- The discrete input pins (00_scope.md, Pin summary). -/
inductive Pin
  | input (i : Input)
  | estopN
  | holdoff
  | strap
  deriving DecidableEq, Repr

/-- The eight sense channels (R4): SC0 to SC4 feed the axes, SC5 is the body pitch, SC6 the hydraulic
pressure, SC7 the battery voltage. -/
inductive Channel
  | axis (a : Axis)
  | pitch
  | pressure
  | battery
  deriving DecidableEq, Repr

/-- What an output's driver senses at a period boundary (R145): the average current over the conducting
time of the period just ended, in 0.1 A, and whether the load is shorted to ground. -/
structure Sense where
  current : Nat
  shorted : Bool
  deriving DecidableEq, Repr

/-- The senses of all outputs of one time base at one of its boundaries (R133, R145). -/
inductive Readings
  | pump (d0 : Sense)
  | valve (d1 d2 d3 d4 d5 d6 : Sense)
  | bridge (d7 d8 d9 d10 : Sense)
  | lamp (l0 l1 l2 l3 : Sense)
  deriving DecidableEq, Repr

/-- The pin levels (true is high) of all outputs of one time base at a period centre (R148). -/
inductive Levels
  | pump (d0 : Bool)
  | valve (d1 d2 d3 d4 d5 d6 : Bool)
  | bridge (d7 d8 d9 d10 : Bool)
  | lamp (l0 l1 l2 l3 : Bool)
  deriving DecidableEq, Repr

/-- What is heard of a frame on the crew bus (R164): its whole bytes, each with its acknowledge bit, and how many bits of a
further byte, 0 to 8, stand before its STOP. -/
structure HeardFrame where
  bytes : List Byte
  rest : Nat
  deriving DecidableEq, Repr

/-- Why a host frame is bad (R179, R180): a LEN outside 2 to 60, a CHECK that does not sum to 00H, or a
character with a low stop bit inside the frame. -/
inductive BadFrame
  | len (c : Byte)
  | check
  | framing
  deriving DecidableEq, Repr

/-- The commands: one constructor for each row of spec/opcode_table.json, in its order. -/
inductive Instr
  | powerOnReset
  | profileLoadEnd (image : List Byte)
  | loadReadTimeout
  | strapSample
  | lampTestComplete
  | estopPinLow
  | holdoffAsserted
  | holdoffReleased
  | debounceStateChange (i : Input)
  | vehicleMoving
  | vehicleMovingExpiry
  | freeRunTimerExpiry (c : Channel)
  | controlIntervalEvent (a : Axis)
  | dualTrackPrimaryComplete (c : Channel) (code : RawCode)
  | conversionComplete (c : Channel) (code : RawCode)
  | stall (a : Axis)
  | overload
  | sensorDisagree (c : Channel)
  | supplyCut
  | supplyRecover
  | waitTimerExpiry (tag : Nat)
  | holdTimerExpiry (tag : Nat)
  | pauseWindowExpiry (tag : Nat)
  | prewarnTimerExpiry (tag : Nat)
  | periodBoundary (r : Readings)
  | hitPhaseEnd (o : DriveOut)
  | openFinding (o : Output)
  | doorCurrentObstruction (a : Axis)
  | periodCentre (l : Levels)
  | echoFinding (o : Output)
  | lampBoundary
  | stretchTimerExpiry (l : Lamp)
  | overridePulseExpiry (l : Lamp)
  | overrideExpiry (l : Lamp)
  | holdFrame (src dst : BitVec 4) (data : Byte)
  | clearFrame (src dst : BitVec 4)
  | haltFrame (src : BitVec 4)
  | crewFrameDiscard (frame : HeardFrame)
  | crewFrameTimeout
  | silenceTimerExpiry (station : Nat)
  | clearRefusedTimerExpiry (station : Nat)
  | lampsTimer
  | lampsFrameStart
  | lampsFrameSent
  | lampsNotAcknowledged
  | arbitrationLost
  | backoffEnd
  | busStuck
  | busRecover
  | hostFrameBad (why : BadFrame)
  | hostGapTimeout
  | frameOverrun
  | unknownKind (kind tag : Byte)
  | replySent
  | status (tag : Byte)
  | queryAxis (tag axis : Byte)
  | queryList (tag : Byte)
  | move (tag axis : Byte) (target : Half) (speed : Byte)
  | jog (tag axis dir speed : Byte)
  | jogRefresh (tag : Byte)
  | runSequence (tag seq held : Byte)
  | stop (tag axis recordTag : Byte)
  | stopAll (tag : Byte)
  | estop (tag : Byte)
  | estopClear (tag : Byte)
  | faultClear (tag axis channel : Byte)
  | beaconOverride (tag channel pattern : Byte) (seconds : Half)
  | readNotices (tag : Byte)
  | profileRead (tag region : Byte) (offset : Half) (length : Byte)
  | profileStage (tag region : Byte) (offset : Half) (bytes : List Byte)
  | profileDiscard (tag : Byte)
  | profileCommit (tag : Byte)
  | lockEnvelopes (tag : Byte)
  | restart (tag : Byte)
  | restartTakesEffect
  | commitEraseDone
  | commitPageDone
  | commitVerifyDone (readBack : List Byte)
  | commitStepTimeout
  | discretePinChange (p : Pin) (level : Bool)
  | crewFrameStart
  | crewFrameIgnored (bytes : List Byte)
  | hostCharacterReceived (c : Byte) (stopBit : Bool)
  deriving DecidableEq, Repr

end Sys2Proof
end

