-- ==== Sys2Proof/Decode.lean ====
section
/-! DEFINITION. Decode.lean: the command that a word of the opcode table spells. The table gives no row any
bits (every row's list of fields is empty and none has fixed bits), so no word spells a command. The bytes of
host and crew frames are decoded where they arrive: Machine/HostLink.lean (R179, R184) and
Machine/Operands.lean (R164). -/

namespace Sys2Proof

/-- No row of spec/opcode_table.json has bits: no word spells a command (notes/assumptions/5.md). -/
def decodeTableWord (_nbits _w : Nat) : Option Instr := none

end Sys2Proof
end

