-- ==== Sys2Proof/Config.lean ====
section
/-! DEFINITION. Config.lean: the figures fixed in the part. Times are in µs, the unit of the model's clock.
One free value stands beside them, where the rules contradict each other (notes/assumptions/30.md and 47.md). -/

namespace Sys2Proof.Config

/-- One millisecond of the model's clock. -/
def ms : Nat := 1000

/-- Margin beyond travel (R2). -/
def margin : Int := 20

/-- Free-running timer and control interval, 10 ms (R6, R144). -/
def conversionPeriod : Nat := 10 * ms

/-- A conversion completes 25 µs after it begins (R5). -/
def conversionTime : Nat := 25

/-- Debounce, HOLDOFF release and strap filters, 20 ms (R18, R20, R21). -/
def filterTime : Nat := 20 * ms

/-- The vehicle-moving window, 500 ms (R19). -/
def vehicleWindow : Nat := 500 * ms

/-- The wait timer, 30,000 ms (R43). -/
def waitLimit : Nat := 30000 * ms

/-- The hold timer, 250 ms (R93). -/
def holdLimit : Nat := 250 * ms

/-- The pause window, 5000 ms (R100). -/
def pauseLimit : Nat := 5000 * ms

/-- The stall window, 1000 ms (R86). -/
def stallLimit : Nat := 1000 * ms

/-- The overload run, 200 ms (R87). -/
def overloadLimit : Nat := 200 * ms

/-- The door over-current run, 100 ms (R89). -/
def doorCurrentLimit : Nat := 100 * ms

/-- The low run, 500 ms, and the recovery run, 1000 ms (R125). -/
def lowRunLimit : Nat := 500 * ms
def recoveryRunLimit : Nat := 1000 * ms

/-- The supply thresholds in 0.1 V (R125). -/
def cutBelow : Int := 190
def recoverFrom : Int := 210

/-- Start-up blanking of the load checks, 20 ms, and the bridge open window, 200 ms (R146, R147). -/
def loadBlank : Nat := 20 * ms
def bridgeOpenWindow : Nat := 200 * ms

/-- Periods of the time bases in µs (R133, R150). -/
def pumpPeriod : Nat := 1000
def valvePeriod : Nat := 5000
def bridgePeriod : Nat := 50
def lampPeriod : Nat := 1000

/-- Half ticks of the 4 MHz clock in a µs, and the dead time of 8 ticks of a bridge half (R133, R134, R142). -/
def halfTicks : Nat := 8
def deadTime : Nat := 16

/-- Valve boundaries of a hit phase (R80). -/
def hitPeriods : Nat := 20

/-- Off-state diagnostic of a load shorted to ground, 400.0 A in 0.1 A (R145). -/
def shortedReading : Nat := 4000

/-- The lamp test, 1000 lamp periods, in phases of 250 (R160). -/
def lampTestPeriods : Nat := 1000
def lampTestPhase : Nat := 250

/-- Station silence and clear-refused timers, 1000 ms (R168, R172). -/
def silenceLimit : Nat := 1000 * ms
def clearRefusedLimit : Nat := 1000 * ms

/-- The LAMPS timer, 200 ms (R174), and the bus-free time, 200 µs (R163). -/
def lampsInterval : Nat := 200 * ms
def busFreeTime : Nat := 200

/-- The longest gap allowed inside a host frame, 694 µs, and the whole µs of a character, a quarter of the four
character times that the gap stands for (R180). -/
def hostGap : Nat := 694
def hostCharacter : Nat := 173

/-- The flash read limit, 50 ms (R193), and the commit step limit, 500 ms (R200). -/
def loadReadLimit : Nat := 50 * ms
def commitStepLimit : Nat := 500 * ms

/-- Bytes of the profile image, and bytes under its CRC (R192). -/
def imageSize : Nat := 4096
def crcSpan : Nat := 4094

/-- Pages of a commit (R200). -/
def commitPages : Nat := 16

/-- Capacities: notice queue (R189), reply FIFO (R183), GOOD and BAD counters (R181). -/
def noticeCapacity : Nat := 16
def replyCapacity : Nat := 4
def goodModulus : Nat := 10000
def badLimit : Nat := 255

/-- Whether an SC7 sample ends a SEQUENCE that waits for budget between its steps with a failed interlock: R104 has it end
INTERLOCK at the next sample, where R40, R46, R57 and R102 have it wait until an attempt reaches its interlocks past the
budget. No rule says which holds, so this is a free value, with no body (notes/assumptions/47.md). -/
opaque endsShortOfBudget : Bool

end Sys2Proof.Config
end

