-- ==== Sys2Proof/Machine/Types.lean ====
section
/-! DEFINITION. Machine/Types.lean: the data the block holds. Every enumeration, record and table the
spec names, as plain data; State.lean puts them together. -/

namespace Sys2Proof.Machine

open Sys2Proof

/-! ### Tables by name -/

/-- One entry for each axis. -/
structure PerAxis (α : Type) where
  lift : α
  tilt : α
  fold : α
  kdoor : α
  rdoor : α
  deriving DecidableEq, Repr

def PerAxis.get {α : Type} (p : PerAxis α) : Axis → α
  | .lift => p.lift
  | .tilt => p.tilt
  | .fold => p.fold
  | .kdoor => p.kdoor
  | .rdoor => p.rdoor

def PerAxis.set {α : Type} (p : PerAxis α) (a : Axis) (x : α) : PerAxis α :=
  match a with
  | .lift => { p with lift := x }
  | .tilt => { p with tilt := x }
  | .fold => { p with fold := x }
  | .kdoor => { p with kdoor := x }
  | .rdoor => { p with rdoor := x }

def PerAxis.ofFn {α : Type} (f : Axis → α) : PerAxis α :=
  ⟨f .lift, f .tilt, f .fold, f .kdoor, f .rdoor⟩

/-- The axes in their fixed order. -/
def axes : List Axis := [.lift, .tilt, .fold, .kdoor, .rdoor]

/-- One entry for each sense channel. -/
structure PerChannel (α : Type) where
  axis : PerAxis α
  pitch : α
  pressure : α
  battery : α
  deriving DecidableEq, Repr

def PerChannel.get {α : Type} (p : PerChannel α) : Channel → α
  | .axis a => p.axis.get a
  | .pitch => p.pitch
  | .pressure => p.pressure
  | .battery => p.battery

def PerChannel.set {α : Type} (p : PerChannel α) (c : Channel) (x : α) : PerChannel α :=
  match c with
  | .axis a => { p with axis := p.axis.set a x }
  | .pitch => { p with pitch := x }
  | .pressure => { p with pressure := x }
  | .battery => { p with battery := x }

def PerChannel.ofFn {α : Type} (f : Channel → α) : PerChannel α :=
  ⟨.ofFn (fun a => f (.axis a)), f .pitch, f .pressure, f .battery⟩

/-- One entry for each drive output. -/
structure PerDrive (α : Type) where
  do0 : α
  do1 : α
  do2 : α
  do3 : α
  do4 : α
  do5 : α
  do6 : α
  do7 : α
  do8 : α
  do9 : α
  do10 : α
  deriving DecidableEq, Repr

def PerDrive.get {α : Type} (p : PerDrive α) : DriveOut → α
  | .do0 => p.do0
  | .do1 => p.do1
  | .do2 => p.do2
  | .do3 => p.do3
  | .do4 => p.do4
  | .do5 => p.do5
  | .do6 => p.do6
  | .do7 => p.do7
  | .do8 => p.do8
  | .do9 => p.do9
  | .do10 => p.do10

def PerDrive.set {α : Type} (p : PerDrive α) (o : DriveOut) (x : α) : PerDrive α :=
  match o with
  | .do0 => { p with do0 := x }
  | .do1 => { p with do1 := x }
  | .do2 => { p with do2 := x }
  | .do3 => { p with do3 := x }
  | .do4 => { p with do4 := x }
  | .do5 => { p with do5 := x }
  | .do6 => { p with do6 := x }
  | .do7 => { p with do7 := x }
  | .do8 => { p with do8 := x }
  | .do9 => { p with do9 := x }
  | .do10 => { p with do10 := x }

def PerDrive.ofFn {α : Type} (f : DriveOut → α) : PerDrive α :=
  ⟨f .do0, f .do1, f .do2, f .do3, f .do4, f .do5, f .do6, f .do7, f .do8, f .do9, f .do10⟩

/-- The drive outputs in order. -/
def driveOuts : List DriveOut :=
  [.do0, .do1, .do2, .do3, .do4, .do5, .do6, .do7, .do8, .do9, .do10]

/-- One entry for each beacon channel. -/
structure PerLamp (α : Type) where
  b0 : α
  b1 : α
  b2 : α
  b3 : α
  deriving DecidableEq, Repr

def PerLamp.get {α : Type} (p : PerLamp α) : Lamp → α
  | .b0 => p.b0
  | .b1 => p.b1
  | .b2 => p.b2
  | .b3 => p.b3

def PerLamp.set {α : Type} (p : PerLamp α) (l : Lamp) (x : α) : PerLamp α :=
  match l with
  | .b0 => { p with b0 := x }
  | .b1 => { p with b1 := x }
  | .b2 => { p with b2 := x }
  | .b3 => { p with b3 := x }

def PerLamp.ofFn {α : Type} (f : Lamp → α) : PerLamp α := ⟨f .b0, f .b1, f .b2, f .b3⟩

/-- The beacon channels in order. -/
def lamps : List Lamp := [.b0, .b1, .b2, .b3]

/-- One entry for each debounced input. -/
structure PerInput (α : Type) where
  park : α
  foot : α
  edgeK : α
  edgeR : α
  night : α
  speed : α
  deriving DecidableEq, Repr

def PerInput.get {α : Type} (p : PerInput α) : Input → α
  | .park => p.park
  | .foot => p.foot
  | .edgeK => p.edgeK
  | .edgeR => p.edgeR
  | .night => p.night
  | .speed => p.speed

def PerInput.set {α : Type} (p : PerInput α) (i : Input) (x : α) : PerInput α :=
  match i with
  | .park => { p with park := x }
  | .foot => { p with foot := x }
  | .edgeK => { p with edgeK := x }
  | .edgeR => { p with edgeR := x }
  | .night => { p with night := x }
  | .speed => { p with speed := x }

def PerInput.ofFn {α : Type} (f : Input → α) : PerInput α :=
  ⟨f .park, f .foot, f .edgeK, f .edgeR, f .night, f .speed⟩

/-- The six pendant buttons. -/
inductive Button
  | b1 | b2 | b3 | b4 | b5 | b6
  deriving DecidableEq, Repr

/-- One entry for each pendant button. -/
structure PerButton (α : Type) where
  b1 : α
  b2 : α
  b3 : α
  b4 : α
  b5 : α
  b6 : α
  deriving DecidableEq, Repr

def PerButton.get {α : Type} (p : PerButton α) : Button → α
  | .b1 => p.b1
  | .b2 => p.b2
  | .b3 => p.b3
  | .b4 => p.b4
  | .b5 => p.b5
  | .b6 => p.b6

def PerButton.set {α : Type} (p : PerButton α) (b : Button) (x : α) : PerButton α :=
  match b with
  | .b1 => { p with b1 := x }
  | .b2 => { p with b2 := x }
  | .b3 => { p with b3 := x }
  | .b4 => { p with b4 := x }
  | .b5 => { p with b5 := x }
  | .b6 => { p with b6 := x }

def PerButton.ofFn {α : Type} (f : Button → α) : PerButton α :=
  ⟨f .b1, f .b2, f .b3, f .b4, f .b5, f .b6⟩

/-- The buttons in order. -/
def buttons : List Button := [.b1, .b2, .b3, .b4, .b5, .b6]

/-! ### Enumerations (R203) -/

/-- Source and role (R203). -/
inductive Role
  | cab | rear | kerb | road
  deriving DecidableEq, Repr

inductive Dir
  | inc | dec
  deriving DecidableEq, Repr

inductive Speed
  | slow | normal
  deriving DecidableEq, Repr

inductive Perm
  | none | hold | target
  deriving DecidableEq, Repr

inductive RecordKind
  | move | jog | sequence
  deriving DecidableEq, Repr

inductive RecordState
  | waiting | prewarn | starting | moving | stopping | paused
  deriving DecidableEq, Repr

inductive WaitReason
  | bank | budget
  deriving DecidableEq, Repr

/-- Record results (R25, R203). -/
inductive Result
  | arrived | limited | stopped | released | holdLapse | interlock | obstructed | overload
  | fault | expired | estop | holdoff | supplyLow | vehicle | noReference
  deriving DecidableEq, Repr

/-- Axis fault kinds (R127). -/
inductive FaultKind
  | sensorRange | sensorDisagree | overtravel | stall | loadOpen | loadShort | echo
  deriving DecidableEq, Repr

/-- Lamp fault kinds (R149). -/
inductive LampFault
  | open | short | echo
  deriving DecidableEq, Repr

inductive SupplyState
  | normal | cut
  deriving DecidableEq, Repr

inductive BusState
  | idle | receiving | transmitting | backoff | stuck
  deriving DecidableEq, Repr

inductive DeviceMode
  | loading | lampTest | run
  deriving DecidableEq, Repr

inductive Source
  | flash | limp
  deriving DecidableEq, Repr

/-- ESTOP causes (R118). HALT names its source station. -/
inductive EstopCause
  | pin
  | cab
  | halt (station : Nat)
  deriving DecidableEq, Repr

/-- The stages of a commit (R200). -/
inductive CommitStage
  | erase | program | verify
  deriving DecidableEq, Repr

/-- Status codes of a reply, in the order that numbers them (R184, R203). -/
inductive Status
  | ok | amended | badKind | badLength | badField | starting | holdoff | estopActive | supplyLow
  | notPermitted | faulted | stillFaulted | dupTag | owned | committed | interlock | envelope | held
  | profileBusy | locked | badProfile | notEmpty
  deriving DecidableEq, Repr

/-! ### The profile (R192, R203) -/

/-- A 4,096-byte image: the bytes that are not 00H, addresses strictly rising. -/
abbrev Image := List Host.Cell

inductive TargetKind
  | absolute | bed | ground | level
  deriving DecidableEq, Repr

/-- One step slot (R97). -/
structure Step where
  axis : Axis
  kind : TargetKind
  value : Int
  speed : Speed
  deriving DecidableEq, Repr

/-- Beacon conditions (R151). -/
inductive Condition
  | off | on | anyMotion | hydMotion | doorMotion | deployed | kdoorOpen | rdoorOpen | notStowed | anyFault
  deriving DecidableEq, Repr

inductive Pattern
  | steady | blink | stretch
  deriving DecidableEq, Repr

/-- Blink rates 1, 2, 4 and 8 Hz (R150). -/
inductive Rate
  | hz1 | hz2 | hz4 | hz8
  deriving DecidableEq, Repr

/-- A channel's configuration in the BEACONS region (R149). -/
structure BeaconConfig where
  primary : Condition
  secondary : Condition
  combine : Bool
  pattern : Pattern
  deriving DecidableEq, Repr

structure BeaconSettings where
  channel : PerLamp BeaconConfig
  rate : Rate
  stretch : Nat
  lampTest : Bool
  dim : Bool
  deriving DecidableEq, Repr

/-- A button's function (R167). -/
inductive ButtonFunction
  | unused
  | jog (a : Axis) (d : Dir) (sp : Speed)
  | seq (n : Nat)
  | stop
  deriving DecidableEq, Repr

/-- A used entry of the station table (R167). -/
structure Station where
  address : Nat
  role : Role
  function : PerButton ButtonFunction
  deriving DecidableEq, Repr

/-- The block of one axis in the LIMITS region (R203). -/
structure AxisLimits where
  low : Int
  high : Int
  dmaxNormal : Nat
  dmaxSlow : Nat
  dmin : Nat
  approach : Nat
  deadband : Nat
  stall : Nat
  stepUp : Nat
  stepDown : Nat
  prewarn : Nat
  drawInc : Nat
  drawDec : Nat
  deriving DecidableEq, Repr

structure Limits where
  axis : PerAxis AxisLimits
  bNom : Nat
  vZero : Int
  vFull : Int
  pRef : Nat
  pMax : Nat
  holdDuty : Nat
  bed : Int
  doorCurrent : Nat
  deriving DecidableEq, Repr

/-- A used entry of the envelope table (R62). -/
structure Envelope where
  guarded : Axis
  dir : Dir
  guard : Axis
  low : Int
  high : Int
  limit : Int
  deriving DecidableEq, Repr

inductive InputMode
  | unsigned | signed
  deriving DecidableEq, Repr

/-- Two calibration points (R10). -/
structure Points where
  c1 : Int
  u1 : Int
  c2 : Int
  u2 : Int
  deriving DecidableEq, Repr

/-- A channel's block in the CALIBRATION region (R4, R10). -/
structure ChannelCal where
  mode : InputMode
  clo : Int
  chi : Int
  points : Points
  deriving DecidableEq, Repr

structure Calibration where
  channel : PerChannel ChannelCal
  liftAlt : Points
  tiltAlt : Points
  liftTol : Int
  tiltTol : Int
  deriving DecidableEq, Repr

/-- One role's column of the permission map (R32). -/
structure PermMap where
  cab : PerAxis Perm
  rear : PerAxis Perm
  kerb : PerAxis Perm
  road : PerAxis Perm
  deriving DecidableEq, Repr

/-- The tables of a profile as the blocks read them. Entries of the envelope table are `none` when
unused; a sequence entry is the list of its steps (R97). -/
structure Profile where
  stations : List Station
  beacons : BeaconSettings
  sequences : List (List Step)
  permissions : PermMap
  limits : Limits
  envelopes : List (Option Envelope)
  calibration : Calibration
  deriving DecidableEq, Repr

/-! ### Pins and inputs (R18 to R21) -/

/-- The levels of the discrete input pins; true is high. -/
structure PinLevels where
  input : PerInput Bool
  estopN : Bool
  holdoff : Bool
  strap : Bool
  deriving DecidableEq, Repr

/-- A debounce filter (R18): its state, and the clock at which its stable timer last restarted, absent
once the timer has run out. -/
structure Debounce where
  active : Bool
  since : Option Nat
  deriving DecidableEq, Repr

/-- The Sense Unit's filters of the discrete pins. -/
structure Pins where
  level : PinLevels
  filter : PerInput Debounce
  /-- HOLDOFF as delivered (R20). -/
  holdoff : Bool
  /-- Clock of the last fall of the HOLDOFF pin while it is low and HOLDOFF is still asserted. -/
  holdoffLow : Option Nat
  /-- The strap has changed level since reset release (R21). -/
  strapChanged : Bool
  /-- The strap sample has been taken (R21). -/
  strapTaken : Bool
  /-- The last rising edge of the raw SPEED pin (R19). -/
  rawEdge : Option Nat
  /-- The last edge that held the vehicle-moving condition true; present while it is true (R19). -/
  movingEdge : Option Nat
  deriving DecidableEq, Repr

/-! ### Sense Unit (R4 to R17) -/

inductive Trigger
  | freeRunning | synchronised | snapshot
  deriving DecidableEq, Repr

/-- A conversion in progress: its trigger, when it began, the input mode in which its code comes (that in force as
it began, R4, R17), and the primary code once a dual-track channel has gone on to its alternate input (R5). -/
structure Conversion where
  trigger : Trigger
  began : Nat
  mode : InputMode
  primary : Option Int
  deriving DecidableEq, Repr

/-- A sense channel (R4). -/
structure SenseChannel where
  code : Option Int
  alternate : Option Int
  value : Option Int
  valid : Bool
  disagree : Nat
  healthy : Bool
  timer : Option Nat
  conversion : Option Conversion
  /-- Synchronised with the control-interval events (R7). -/
  sync : Bool
  /-- The next synchronised conversion is the start snapshot (R8). -/
  snapshotDue : Bool
  /-- The latest completed sample passed every check of R16; false before the first one. -/
  clearable : Bool
  deriving DecidableEq, Repr

/-! ### Motion Sequencer -/

/-- An axis fault record (R2, R128). -/
structure FaultRecord where
  kind : FaultKind
  position : Option Int
  tag : Option Nat
  deriving DecidableEq, Repr

/-- An axis record (R2). Its axis state is computed from the fault record and the motion list. -/
structure AxisRecord where
  position : Option Int
  rawCode : Option Int
  fault : Option FaultRecord
  deriving DecidableEq, Repr

/-- The fields a SEQUENCE record holds besides those of R25 (R100). `formed` says that the current step
has been formed before (R99 stage 3). -/
structure SeqFields where
  number : Nat
  index : Nat
  claimed : PerAxis Bool
  needsBank : Bool
  limited : Bool
  pause : Bool
  granted : Bool
  formed : Bool
  deriving DecidableEq, Repr

/-- The stall watch (R86). -/
structure StallWatch where
  reference : Int
  since : Nat
  deriving DecidableEq, Repr

/-- A motion record (R25), with its marks (R61, R64), last staged duty (R73) and watches (R86 to R91).
The class and bank held of R25 are computed (R23, R35). `seq` is present on SEQUENCE records. -/
structure Record where
  tag : Nat
  source : Role
  station : Option Nat
  kind : RecordKind
  axis : Axis
  target : Int
  limitMark : Bool
  dir : Dir
  speed : Speed
  clamped : Bool
  degraded : Bool
  held : Bool
  lastRefresh : Nat
  arrival : Nat
  state : RecordState
  waitReason : Option WaitReason
  draw : Nat
  pendingResult : Option Result
  waitSince : Nat
  pauseSince : Nat
  dPrev : Nat
  road : Bool
  warned : Bool
  stall : Option StallWatch
  overload : Option Nat
  stripArmed : Bool
  currentSince : Option Nat
  reversing : Bool
  seq : Option SeqFields
  deriving DecidableEq, Repr

/-- The Motion Sequencer. -/
structure Motion where
  axis : PerAxis AxisRecord
  records : List Record
  /-- The tag holding the valve bank (R35). -/
  bank : Option Nat
  nextTag : Nat
  arrivals : Nat
  estop : Bool
  supply : SupplyState
  lowRun : Option Nat
  recoveryRun : Option Nat
  budget : Nat
  /-- The grant attempts that are owed (R39): the model's own count, raised by the events of R39 within a
  command and taken by the attempts that command then makes. -/
  attemptsDue : Nat
  deriving DecidableEq, Repr

/-! ### Drive Unit (R135) -/

inductive Phase
  | off | hit | hold
  deriving DecidableEq, Repr

/-- The causes forcing an output off. -/
structure Force where
  immediate : Bool
  faultHold : Bool
  holdoff : Bool
  deriving DecidableEq, Repr

/-- A drive output's record (R135). On-time and Dmin timer are in µs, absent when stopped. `lowFrom` is the end of
the latest dead time of a bridge half that runs into a period's start or follows a force (R139, R142), in half
ticks of the 4 MHz clock since reset release. -/
structure DriveRecord where
  active : Nat
  staged : Nat
  updatePending : Bool
  hitMark : Bool
  phase : Phase
  hitCount : Nat
  claim : Option Nat
  force : Force
  onTime : Option Nat
  openCount : Nat
  echoCount : Nat
  reading : Nat
  echoMatch : Bool
  dminTimer : Option Nat
  lowFrom : Nat
  conducted : Bool
  deriving DecidableEq, Repr

/-- A lamp output's record (R135). `duty` is the duty the Beacon Unit drives (R150). -/
structure LampRecord where
  duty : Nat
  onTime : Option Nat
  openCount : Nat
  echoCount : Nat
  reading : Nat
  echoMatch : Bool
  shortForce : Bool
  conducted : Bool
  drivenFrom : Nat
  deriving DecidableEq, Repr

/-- The Drive Unit. The period counts of R133 are kept as the clock at which each base's present period
began (`lampBase` for the readings of the lamp outputs); control keeps the clock of each axis's latest
control-interval event. -/
structure Drive where
  out : PerDrive DriveRecord
  lamp : PerLamp LampRecord
  pumpBase : Nat
  valveBase : Nat
  bridgeBase : Nat
  lampBase : Nat
  control : PerAxis (Option Nat)
  deriving DecidableEq, Repr

/-! ### Beacon Unit (R149) -/

inductive OverridePattern
  | off | on | blink | stretch
  deriving DecidableEq, Repr

/-- An override: its pattern and its remaining time in ms, absent when it has no limit (R157). -/
structure Override where
  pattern : OverridePattern
  remaining : Option Nat
  deriving DecidableEq, Repr

/-- The levels of R154. -/
inductive Level
  | holdoff | estop | prewarn | road | vehicle | override | configuration | lampTest
  deriving DecidableEq, Repr

/-- A channel record (R149). `shown` says the present override has been the level in force since it was
taken or since a higher level let go, so that a STRETCH override pulses once (R158). -/
structure Beacon where
  override : Option Override
  stretch : Nat
  pulse : Nat
  shown : Bool
  fault : Option LampFault
  level : Option Level
  lit : Bool
  deriving DecidableEq, Repr

/-- The timer of a prewarn entry with the axis and direction of the request that started it (R155). -/
structure PrewarnTimer where
  began : Nat
  time : Nat
  axis : Axis
  dir : Dir
  deriving DecidableEq, Repr

/-- A prewarn duty entry (R155). -/
structure PrewarnEntry where
  tag : Nat
  set : PerLamp Bool
  timer : Option PrewarnTimer
  deriving DecidableEq, Repr

/-- The lamp test (R160): not run since reset, running with the periods driven so far, or over. -/
inductive LampTest
  | notRun
  | running (periods : Nat)
  | over
  deriving DecidableEq, Repr

structure Beacons where
  channel : PerLamp Beacon
  prewarn : List PrewarnEntry
  /-- The blink clock, 0 to 999 (R150). -/
  blink : Nat
  test : LampTest
  /-- The clock at which the present lamp period began (R150). -/
  base : Nat
  /-- A lamp boundary has come since LOADING ended, from which on levels 3 to 8 are judged (R154). -/
  judged : Bool
  deriving DecidableEq, Repr

/-! ### Crew Bus Port (R167, R176) -/

inductive LampState
  | off | on | slow | fast
  deriving DecidableEq, Repr

/-- A station record (R167). Timers are the clock at which they last restarted, absent when stopped. -/
structure StationRecord where
  address : Nat
  role : Role
  function : PerButton ButtonFunction
  lastSet : PerButton Bool
  tags : PerButton (Option Nat)
  refused : PerButton Bool
  releasePending : Bool
  silence : Option Nat
  clearRefused : Option Nat
  lampsDue : Bool
  deriving DecidableEq, Repr

/-- The LAMPS frame being sent (R173, R174). -/
structure LampsFrame where
  station : Nat
  lamps : PerButton LampState
  deriving DecidableEq, Repr

structure Crew where
  bus : BusState
  /-- A frame from another device is in progress. -/
  inFrame : Bool
  /-- The clock from which the bus counts as free (R163). -/
  freeAt : Nat
  sending : Option LampsFrame
  stations : List StationRecord
  /-- The clock of the LAMPS timer's last tick; absent before LOADING ends (R174). -/
  lampsTick : Option Nat
  /-- The acknowledge bits that the part drove low in the last frame that reached its STOP, one for each byte
  (R165). -/
  acks : List Bool
  deriving DecidableEq, Repr

/-- A crew frame as R164 lays it out. -/
inductive CrewKind
  | hold (data : Byte)
  | clear
  | halt
  | lamps (first second : Byte)
  deriving DecidableEq, Repr

structure CrewFrame where
  src : BitVec 4
  dst : BitVec 4
  kind : CrewKind
  deriving DecidableEq, Repr

/-! ### Host Link (R179 to R191) -/

/-- The framing state (R179): HUNTING, or inside a frame with the characters after SYNC taken so far and the clock at
the end of the last character's stop bit, from which the gap is timed (R180). -/
inductive Framing
  | hunting
  | inside (taken : List Byte) (last : Nat)
  deriving DecidableEq, Repr

/-- A reply waiting in the FIFO (R183). -/
structure Reply where
  kind : Byte
  tag : Byte
  status : Status
  content : List Byte
  deriving DecidableEq, Repr

/-- A notice (R189). A RECORD_END holds its axis, or the sequence number for a SEQUENCE. -/
inductive Notice
  | recordEnd (tag : Nat) (kind : RecordKind) (subject : Nat) (result : Result)
      (claimed : PerAxis Bool) (positions : PerAxis (Option Int))
  | axisFault (a : Axis) (kind : FaultKind)
  | estop (cause : EstopCause)
  | estopCleared
  | supply (state : SupplyState) (volts : Option Int)
  | beaconFault (l : Lamp) (kind : LampFault)
  | busState (state : BusState)
  | vehicleMoving
  | profileDone (failed : Option CommitStage)
  deriving DecidableEq, Repr

structure Link where
  framing : Framing
  fifo : List Reply
  good : Nat
  bad : Nat
  overrun : Bool
  notices : List Notice
  lost : Bool
  /-- A RESTART has been accepted and has not yet taken effect (R188). -/
  restarting : Bool
  deriving DecidableEq, Repr

/-! ### Profile Store (R192 to R202) -/

/-- The commit state with the stage of a commit in progress; PROGRAM counts the pages written. -/
inductive Commit
  | idle
  | erase
  | program (pages : Nat)
  | verify
  deriving DecidableEq, Repr

structure Store where
  mode : DeviceMode
  source : Source
  service : Bool
  lock : Bool
  /-- LOCK-ENVELOPES came during a commit and takes effect at its end (R201). -/
  lockDue : Bool
  loadEnded : Bool
  inForce : Option Image
  staging : Option Image
  commit : Commit
  /-- The clock at which the present commit step began. -/
  stepSince : Nat
  deriving DecidableEq, Repr

end Sys2Proof.Machine
end

