-- ==== Sys2Proof/Machine/Builtin.lean ====
section
/-! DEFINITION. Machine/Builtin.lean: the built-in profile LIMP as its blocks read it, and the values the
load and echo checks compare with. -/

namespace Sys2Proof.Machine.Builtin

open Sys2Proof

/-- R167: the built-in station table (entries 5 and 6 unused). -/
def stations : List Station :=
  [ { address := 2, role := .rear,
      function := ⟨.jog .fold .dec .normal, .seq 1, .seq 2, .seq 3, .seq 4, .stop⟩ },
    { address := 3, role := .rear,
      function := ⟨.jog .lift .inc .normal, .jog .lift .dec .normal, .jog .tilt .inc .normal,
        .jog .tilt .dec .normal, .jog .fold .inc .normal, .stop⟩ },
    { address := 4, role := .kerb,
      function := ⟨.jog .kdoor .inc .normal, .jog .kdoor .dec .normal, .unused, .unused, .unused, .stop⟩ },
    { address := 6, role := .road,
      function := ⟨.jog .rdoor .inc .normal, .jog .rdoor .dec .normal, .unused, .unused, .unused, .stop⟩ } ]

/-- R151: the built-in beacon configuration and global defaults. -/
def beacons : BeaconSettings where
  channel :=
    { b0 := ⟨.deployed, .anyMotion, true, .blink⟩
      b1 := ⟨.kdoorOpen, .off, false, .blink⟩
      b2 := ⟨.rdoorOpen, .off, false, .blink⟩
      b3 := ⟨.deployed, .hydMotion, true, .stretch⟩ }
  rate := .hz2
  stretch := 200
  lampTest := true
  dim := true

/-- R97: the built-in sequence table: UNFOLD, LOWER, RAISE, STOW and two empty entries. -/
def sequences : List (List Step) :=
  [ [⟨.fold, .absolute, 0, .normal⟩, ⟨.tilt, .level, 0, .slow⟩],
    [⟨.lift, .ground, 0, .normal⟩, ⟨.tilt, .absolute, -30, .slow⟩],
    [⟨.tilt, .level, 0, .slow⟩, ⟨.lift, .bed, 0, .normal⟩],
    [⟨.tilt, .absolute, 0, .slow⟩, ⟨.lift, .bed, 0, .normal⟩, ⟨.fold, .absolute, 900, .normal⟩],
    [], [] ]

/-- R33: the LIMP map. -/
def limpPermissions : PermMap where
  cab := ⟨.none, .none, .none, .none, .none⟩
  rear := ⟨.hold, .hold, .hold, .none, .none⟩
  kerb := ⟨.none, .none, .none, .hold, .none⟩
  road := ⟨.none, .none, .none, .none, .hold⟩

/-- R33: the default map of the PERMISSIONS region, which a flash profile may leave in place. -/
def defaultPermissions : PermMap where
  cab := ⟨.none, .none, .none, .target, .target⟩
  rear := ⟨.hold, .hold, .hold, .none, .none⟩
  kerb := ⟨.none, .none, .none, .target, .none⟩
  road := ⟨.none, .none, .none, .none, .hold⟩

/-- R2, R37, R68, R75: the built-in block of each axis. -/
def axisLimits : PerAxis AxisLimits where
  lift := ⟨0, 1300, 1000, 400, 200, 120, 3, 2, 50, 100, 1000, 150, 0⟩
  tilt := ⟨-100, 100, 1000, 400, 200, 30, 2, 2, 50, 100, 0, 150, 150⟩
  fold := ⟨0, 900, 1000, 400, 200, 60, 5, 3, 50, 100, 500, 150, 150⟩
  kdoor := ⟨0, 1100, 1000, 400, 200, 150, 5, 5, 100, 200, 0, 20, 20⟩
  rdoor := ⟨0, 1100, 1000, 400, 200, 150, 5, 5, 100, 200, 2000, 20, 20⟩

/-- R2, R36, R75, R89: the built-in LIMITS. -/
def limits : Limits where
  axis := axisLimits
  bNom := 180
  vZero := 210
  vFull := 240
  pRef := 600
  pMax := 1800
  holdDuty := 600
  bed := 1250
  doorCurrent := 250

/-- R62: the built-in envelope entries E1 and E2; E3 to E8 are unused. -/
def envelopes : List (Option Envelope) :=
  [ some ⟨.tilt, .dec, .lift, 100, 1300, -30⟩, some ⟨.lift, .inc, .tilt, -100, -31, 1000⟩,
    none, none, none, none, none, none ]

/-- R4, R10, R13: the built-in calibration. -/
def calibration : Calibration where
  channel :=
    { axis :=
        { lift := ⟨.unsigned, 100, 3995, ⟨410, 0, 3686, 1300⟩⟩
          tilt := ⟨.signed, -1948, 1947, ⟨-1600, -100, 1600, 100⟩⟩
          fold := ⟨.unsigned, 100, 3995, ⟨600, 0, 3600, 900⟩⟩
          kdoor := ⟨.unsigned, 100, 3995, ⟨300, 0, 3800, 1100⟩⟩
          rdoor := ⟨.unsigned, 100, 3995, ⟨300, 0, 3800, 1100⟩⟩ }
      pitch := ⟨.signed, -1948, 1947, ⟨-1500, -150, 1500, 150⟩⟩
      pressure := ⟨.unsigned, 100, 3995, ⟨410, 0, 3686, 2500⟩⟩
      battery := ⟨.unsigned, 100, 3995, ⟨0, 0, 4000, 400⟩⟩ }
  liftAlt := ⟨3686, 0, 410, 1300⟩
  tiltAlt := ⟨-800, -100, 800, 100⟩
  liftTol := 15
  tiltTol := 10

/-- The built-in LIMP profile (R192, R193). -/
def limp : Profile where
  stations := stations
  beacons := beacons
  sequences := sequences
  permissions := limpPermissions
  limits := limits
  envelopes := envelopes
  calibration := calibration

/-- The current thresholds of a class in 0.1 A: open below, short above (R146). -/
structure Thresholds where
  openBelow : Nat
  shortAbove : Nat
  deriving DecidableEq, Repr

/-- R146: the thresholds of the pump, valve and bridge classes. -/
def driveThresholds : DriveOut → Thresholds
  | .do0 => ⟨50, 2500⟩
  | .do1 | .do2 | .do3 | .do4 | .do5 | .do6 => ⟨2, 40⟩
  | .do7 | .do8 | .do9 | .do10 => ⟨5, 400⟩

/-- R146: the thresholds of the beacon class. -/
def lampThresholds : Thresholds := ⟨3, 60⟩

end Sys2Proof.Machine.Builtin
end

