-- ==== Sys2Proof/Machine/State.lean ====
section
/-! DEFINITION. Machine/State.lean: the state of the block, why a step can stop, and the state after
power-on reset. -/

namespace Sys2Proof.Machine

open Sys2Proof

/-- Why the machine stops with a fault. -/
inductive Fault
  /-- A PROFILE-READ or PROFILE-STAGE would reach a byte beyond the 4,096 of the image (R192). Raised by the
  accesses to the image through a region map that names such a byte, which no image that passed the load
  (R193 stage 3) holds. Safe: the machine stops where no part that obeys R193 can be. -/
  | imageAddress
  deriving DecidableEq, Repr

/-- Why a step has no meaning. -/
inductive Refusal
  /-- Raised by exec's arms of commands with no meaning yet. Safe. There is none. -/
  | notModelled (mnemonic : String)
  deriving DecidableEq, Repr

/-- The block. One field for each block of 00_scope.md (the Sense Unit's filters stand in `pins`), the
tables of the profile as LOADING's end or a commit handed them out (R195, R200), the clock, and the queue
of waiting commands. -/
structure State where
  /-- µs since reset release; the model's measure of the time every timer of the part runs on. -/
  clock : Nat
  /-- The commands that wait, first in, first out. -/
  pending : List Instr
  pins : Pins
  sense : PerChannel SenseChannel
  motion : Motion
  drive : Drive
  beacon : Beacons
  crew : Crew
  link : Link
  store : Store
  profile : Profile
  deriving DecidableEq, Repr

/-- No pin asks for anything: ESTOP_N high, every other discrete pin low. -/
def quietPins : PinLevels where
  input := .ofFn (fun _ => false)
  estopN := true
  holdoff := false
  strap := false

/-- R18, R19, R20, R21 at reset release, over the pin levels standing then. -/
def Pins.reset (level : PinLevels) : Pins where
  level := level
  filter := .ofFn (fun _ => { active := false, since := some 0 })
  holdoff := false
  holdoffLow := none
  strapChanged := false
  strapTaken := false
  rawEdge := none
  movingEdge := none

/-- R4 after reset. -/
def SenseChannel.reset : SenseChannel where
  code := none
  alternate := none
  value := none
  valid := false
  disagree := 0
  healthy := true
  timer := none
  conversion := none
  sync := false
  snapshotDue := false
  clearable := false

/-- R2, R22, R24, R27, R47, R118, R125 after reset. -/
def Motion.reset : Motion where
  axis := .ofFn (fun _ => { position := none, rawCode := none, fault := none })
  records := []
  bank := none
  nextTag := 200
  arrivals := 0
  estop := false
  supply := .normal
  lowRun := none
  recoveryRun := none
  budget := 0
  attemptsDue := 0

/-- R135 after reset. -/
def DriveRecord.reset : DriveRecord where
  active := 0
  staged := 0
  updatePending := false
  hitMark := false
  phase := .off
  hitCount := 0
  claim := none
  force := { immediate := false, faultHold := false, holdoff := false }
  onTime := none
  openCount := 0
  echoCount := 0
  reading := 0
  echoMatch := true
  dminTimer := none
  lowFrom := 0
  conducted := false

/-- R135 after reset, for a lamp output. -/
def LampRecord.reset : LampRecord where
  duty := 0
  onTime := none
  openCount := 0
  echoCount := 0
  reading := 0
  echoMatch := true
  shortForce := false
  conducted := false
  drivenFrom := 0

/-- R133 after reset. -/
def Drive.reset : Drive where
  out := .ofFn (fun _ => .reset)
  lamp := .ofFn (fun _ => .reset)
  pumpBase := 0
  valveBase := 0
  bridgeBase := 0
  lampBase := 0
  control := .ofFn (fun _ => none)

/-- R149 after reset. -/
def Beacons.reset : Beacons where
  channel := .ofFn (fun _ =>
    { override := none, stretch := 0, pulse := 0, shown := false, fault := none, level := none, lit := false })
  prewarn := []
  blink := 0
  test := .notRun
  base := 0
  judged := false

/-- R167, R176 after reset; the bus is free 200 µs after reset release (R163). -/
def Crew.reset : Crew where
  bus := .idle
  inFrame := false
  freeAt := Config.busFreeTime
  sending := none
  stations := []
  lampsTick := none
  acks := []

/-- R179, R181 to R183, R189 after reset. -/
def Link.reset : Link where
  framing := .hunting
  fifo := []
  good := 0
  bad := 0
  overrun := false
  notices := []
  lost := false
  restarting := false

/-- R195, R199, R201, R202 after reset. -/
def Store.reset : Store where
  mode := .loading
  source := .limp
  service := false
  lock := false
  lockDue := false
  loadEnded := false
  inForce := none
  staging := none
  commit := .idle
  stepSince := 0

/-- The machine at reset release over given pin levels, before a low ESTOP_N or a high HOLDOFF acts. No
profile is in force; `profile` stands at the built-in tables and nothing reads it before LOADING ends
(DESIGN CHOICE, notes/assumptions/4.md). -/
def State.released (level : PinLevels) (pending : List Instr) : State where
  clock := 0
  pending := pending
  pins := .reset level
  sense := .ofFn (fun _ => .reset)
  motion := .reset
  drive := .reset
  beacon := .reset
  crew := .reset
  link := .reset
  store := .reset
  profile := Builtin.limp

/-- The machine right after power-on reset with quiet pins (DESIGN CHOICE, notes/assumptions/3.md) and no
command waiting. -/
def State.reset : State := State.released quietPins []

end Sys2Proof.Machine
end

