-- ==== Sys2Proof/Machine/Gates.lean ====
section
/-! DEFINITION. Machine/Gates.lean: when an output is on within its period. Periods, compare values and alignment
(R133, R134, R150), the gates of a bridge half with their dead times (R139, R141, R142), and what an output commands
at an instant (R148). Instants within a period are counted in half ticks of the 4 MHz clock, on which every edge
of R134 falls. -/

namespace Sys2Proof.Machine

open Sys2Proof

/-! ### Periods and compare values -/

/-- R133: the ticks of an output's period at 4 MHz. -/
def periodTicks : DriveOut → Nat
  | .do0 => 4000
  | .do1 | .do2 | .do3 | .do4 | .do5 | .do6 => 20000
  | .do7 | .do8 | .do9 | .do10 => 200

/-- R133: an output's period in µs. -/
def periodTime : DriveOut → Nat
  | .do0 => Config.pumpPeriod
  | .do1 | .do2 | .do3 | .do4 | .do5 | .do6 => Config.valvePeriod
  | .do7 | .do8 | .do9 | .do10 => Config.bridgePeriod

/-- R133: the clock at which the present period of an output's base began. -/
def Drive.baseOf (d : Drive) : DriveOut → Nat
  | .do0 => d.pumpBase
  | .do1 | .do2 | .do3 | .do4 | .do5 | .do6 => d.valveBase
  | .do7 | .do8 | .do9 | .do10 => d.bridgeBase

def isBridge : DriveOut → Bool
  | .do7 | .do8 | .do9 | .do10 => true
  | .do0 | .do1 | .do2 | .do3 | .do4 | .do5 | .do6 => false

/-- R134: the compare value of a duty on an output. -/
def compareValue (o : DriveOut) (d : Nat) : Nat := d * periodTicks o / 1000

/-- R134: a pulse of c ticks centred on the centre of a period of p ticks is on at half tick h. -/
def centred (p c h : Nat) : Bool := p ≤ h + c && h < p + c

/-- R134: a pump or valve output with compare value c is on at half tick h of its period. DO0 is edge-aligned. -/
def onAt (o : DriveOut) (c h : Nat) : Bool :=
  if o = .do0 then h < 2 * c else centred (periodTicks o) c h

/-- R150: the compare value of a duty on a lamp output, whose period is 4,000 ticks. -/
def lampCompare (d : Nat) : Nat := d * 4000 / 1000

/-- R150: a lamp output at a duty is on at half tick h of its period: the whole period at 1000, ticks 1,500 to 2,500
at 250. -/
def lampOnAt (d h : Nat) : Bool := centred 4000 (lampCompare d) h

/-- R134, R150: whether an output that is on from half tick `first` to half tick `last` of each period of p half ticks is
on at some time from half tick a of a period to the half tick b counted from the start of that period. -/
def onWithin (p first last a b : Nat) : Bool := (if a < last then max a first else p + first) < b

/-! ### Gates of a bridge half -/

/-- The ticks in a period for which the gates of a bridge half are on (R142). -/
structure GateTimes where
  high : Nat
  low : Nat
  neither : Nat
  deriving DecidableEq, Repr

/-- R142: the gate times of a half under no HOLDOFF, by its compare value. -/
def gateTimes (c : Nat) : GateTimes :=
  if c = 0 then ⟨0, 200, 0⟩
  else if c < 8 then ⟨0, 192 - c, c + 8⟩
  else if c < 192 then ⟨c - 8, 192 - c, 16⟩
  else if c < 200 then ⟨c - 8, 0, 208 - c⟩
  else ⟨192, 0, 8⟩

/-- Which gate of a bridge half is on. -/
inductive Gate
  | high | low | neither
  deriving DecidableEq, Repr

/-- R134, R142: the gate of a half with compare value c at half tick h of its period, but for the dead time that
runs over from the period before. The command is high from half tick 200 − c to 200 + c, and each gate turns on 16
half ticks after the change of command that calls for it. -/
def gateIn (c h : Nat) : Gate :=
  if c = 0 then .low
  else if 216 ≤ h + c ∧ h < 200 + c then .high
  else if h + c < 200 ∨ 216 + c ≤ h then .low
  else .neither

/-- R142: the half ticks of a period in which the dead time after the fall of the period before, with compare value
c, still runs. -/
def carriedDead (c : Nat) : Nat := c - 184

/-- R142: the gate of a half that keeps compare value c from period to period. -/
def steadyGate (c h : Nat) : Gate := if gateIn c h = .low ∧ h < carriedDead c then .neither else gateIn c h

/-- R141, R142, R139: the gate of a half in half tick `now` since reset release, h half ticks into its period. Under
HOLDOFF both gates are off; until `lowFrom` a dead time holds the low gate off. -/
def DriveRecord.gate (o : DriveOut) (now h : Nat) (r : DriveRecord) : Gate :=
  if r.force.holdoff then .neither
  else if gateIn (compareValue o r.active) h = .low ∧ now < r.lowFrom then .neither
  else gateIn (compareValue o r.active) h

/-- R142, R148: the gate of a half that is on at an instant, the start of half tick `now`. A gate that turns on or off at
that very instant counts as off, so that a half with a compare value from 1 to 16 has its centre in the dead time. -/
def DriveRecord.gateAt (o : DriveOut) (now h : Nat) (r : DriveRecord) : Gate :=
  if r.gate o (now - 1) (h - 1) = r.gate o now h then r.gate o now h else .neither

/-- Half ticks since reset release at a clock value. -/
def halfTicksAt (t : Nat) : Nat := Config.halfTicks * t

/-- The half ticks from the start of an output's present period to a clock value. -/
def phaseAt (o : DriveOut) (base t : Nat) : Nat := halfTicksAt ((t - base) % periodTime o)

/-- R134, R148: what an output commands at a clock value, its present period having begun at `base`: its pin high or
low, or nothing while both gates of a half are off. -/
def commandAt (o : DriveOut) (base t : Nat) (r : DriveRecord) : Option Bool :=
  if isBridge o then
    match r.gateAt o (halfTicksAt t) (phaseAt o base t) with
    | .high => some true
    | .low => some false
    | .neither => none
  else some (onAt o (compareValue o r.active) (phaseAt o base t))

/-- R134, R141: what an output commands now. -/
def State.commanded (s : State) (o : DriveOut) : Option Bool :=
  commandAt o (s.drive.baseOf o) s.clock (s.drive.out.get o)

/-- R139: the dead time of a half that a force takes from a duty: its low gate turns on 8 ticks after the force, unless
it is on already (R142 has no dead time without a change of gates: DEDUCED, notes/assumptions/45.md). -/
def DriveRecord.lowAfterForce (o : DriveOut) (base t : Nat) (r : DriveRecord) : Nat :=
  if isBridge o ∧ r.active ≠ 0 ∧ r.gate o (halfTicksAt t) (phaseAt o base t) ≠ .low then
    halfTicksAt t + Config.deadTime
  else r.lowFrom

/-- R142: the dead time that runs over into a half's new period, which begins at clock value t. -/
def DriveRecord.lowAfterBoundary (o : DriveOut) (t : Nat) (r : DriveRecord) : Nat :=
  if isBridge o then max r.lowFrom (halfTicksAt t + carriedDead (compareValue o r.active)) else r.lowFrom

/-! ### Conduction within a period (R145) -/

/-- R145: whether an output conducts in a whole period at a duty: for a bridge half, whether its high gate is on. -/
def conducts (o : DriveOut) (d : Nat) : Bool :=
  if isBridge o then 0 < (gateTimes (compareValue o d)).high else 0 < d

/-- R134, R142: the half tick of its period at which an output with compare value c begins to conduct, if it does. -/
def firstOn (o : DriveOut) (c : Nat) : Nat :=
  if o = .do0 then 0 else if isBridge o then 216 - c else periodTicks o - c

/-- R145: whether an output has conducted in its present period, which began at `base`, by clock value t. -/
def DriveRecord.conductedBy (o : DriveOut) (base t : Nat) (r : DriveRecord) : Bool :=
  r.conducted || (conducts o r.active && firstOn o (compareValue o r.active) < halfTicksAt (t - base))

/-- R145: whether an output has conducted in a period that ends now. -/
def DriveRecord.conductedAll (o : DriveOut) (r : DriveRecord) : Bool := r.conducted || conducts o r.active

/-- R145, R150: whether a lamp output has conducted in its present period, which began at `base`, by clock value t. Its
duty has been driven since `drivenFrom`, and `conducted` stands for the duties before it in the same period. -/
def LampRecord.conductedBy (base t : Nat) (r : LampRecord) : Bool :=
  let c := lampCompare r.duty
  let a := halfTicksAt ((r.drivenFrom - base) % Config.lampPeriod)
  r.conducted || (r.duty != 0 && onWithin 8000 (4000 - c) (4000 + c) a (a + halfTicksAt (t - r.drivenFrom)))

end Sys2Proof.Machine
end

