-- ==== Sys2Proof/Machine/Ops.lean ====
section
/-! DEFINITION. Machine/Ops.lean: the named operations on the state that the meanings share: the clock, the
notice queue, the motion list, the output records, the sense channels, the prewarn entries, and the common
end of a record (R45). -/

namespace Sys2Proof.Machine

open Sys2Proof

/-! ### Clock -/

/-- An event that falls at time t brings the clock up to it (DESIGN CHOICE, notes/assumptions/1.md). -/
def State.upTo (s : State) (t : Nat) : State := { s with clock := max s.clock t }

/-- What a step does when no command waits: time goes on by 1 µs (DESIGN CHOICE, notes/assumptions/2.md). -/
def State.idle (s : State) : State := { s with clock := s.clock + 1 }

/-- The first multiple of a period that is later than `last` and not before `now`. -/
def nextMultiple (period last now : Nat) : Nat :=
  let t := max (last + 1) now
  (t + period - 1) / period * period

/-! ### One change of each block -/

def State.onPins (s : State) (f : Pins → Pins) : State := { s with pins := f s.pins }
def State.onMotion (s : State) (f : Motion → Motion) : State := { s with motion := f s.motion }
def State.onDrive (s : State) (f : Drive → Drive) : State := { s with drive := f s.drive }
def State.onBeacon (s : State) (f : Beacons → Beacons) : State := { s with beacon := f s.beacon }
def State.onCrew (s : State) (f : Crew → Crew) : State := { s with crew := f s.crew }
def State.onLink (s : State) (f : Link → Link) : State := { s with link := f s.link }
def State.onStore (s : State) (f : Store → Store) : State := { s with store := f s.store }

/-- Change one sense channel. -/
def State.onChannel (s : State) (c : Channel) (f : SenseChannel → SenseChannel) : State :=
  { s with sense := s.sense.set c (f (s.sense.get c)) }

/-- Change one axis record. -/
def State.onAxis (s : State) (a : Axis) (f : AxisRecord → AxisRecord) : State :=
  s.onMotion (fun m => { m with axis := m.axis.set a (f (m.axis.get a)) })

/-- Change one drive output's record. -/
def State.onOut (s : State) (o : DriveOut) (f : DriveRecord → DriveRecord) : State :=
  s.onDrive (fun d => { d with out := d.out.set o (f (d.out.get o)) })

/-- Change one lamp output's record. -/
def State.onLampOut (s : State) (l : Lamp) (f : LampRecord → LampRecord) : State :=
  s.onDrive (fun d => { d with lamp := d.lamp.set l (f (d.lamp.get l)) })

/-- Change one beacon channel record. -/
def State.onLamp (s : State) (l : Lamp) (f : Beacon → Beacon) : State :=
  s.onBeacon (fun b => { b with channel := b.channel.set l (f (b.channel.get l)) })

/-- Change the station record of an address. -/
def State.onStation (s : State) (address : Nat) (f : StationRecord → StationRecord) : State :=
  s.onCrew (fun c => { c with stations := c.stations.map (fun st => if st.address = address then f st else st) })

/-- Change the record holding a tag. -/
def State.onRecord (s : State) (tag : Nat) (f : Record → Record) : State :=
  s.onMotion (fun m => { m with records := m.records.map (fun r => if r.tag = tag then f r else r) })

/-! ### Notices (R189) -/

/-- The notice joins the tail, or is discarded and sets LOST when the queue holds 16. -/
def appendNotice (n : Notice) (s : State) : State :=
  s.onLink (fun l =>
    if l.notices.length < Config.noticeCapacity then { l with notices := l.notices ++ [n] }
    else { l with lost := true })

/-- The ATTN pin (R191). -/
def State.attn (s : State) : Bool := !s.link.notices.isEmpty

/-! ### Reading the motion list -/

def State.find (s : State) (tag : Nat) : Option Record := s.motion.records.find? (fun r => r.tag = tag)

/-- The record claims an axis (R22). -/
def Record.claims (r : Record) (a : Axis) : Bool :=
  match r.seq with
  | some q => q.claimed.get a
  | none => r.axis = a

/-- The record is charged with its draw (R37). -/
def Record.charged (r : Record) : Bool :=
  match r.state with
  | .prewarn | .starting | .moving | .stopping => true
  | .waiting | .paused => false

/-- The record drives its current motion's axis: STARTING, MOVING or STOPPING. -/
def Record.inMotion (r : Record) : Bool :=
  match r.state with
  | .starting | .moving | .stopping => true
  | .waiting | .prewarn | .paused => false

def State.claimant (s : State) (a : Axis) : Option Record := s.motion.records.find? (fun r => r.claims a)

/-- The record in STARTING, MOVING or STOPPING whose current motion is on the axis. -/
def State.mover (s : State) (a : Axis) : Option Record :=
  s.motion.records.find? (fun r => r.axis = a && r.inMotion)

/-- The granted draw sum (R37). -/
def State.drawSum (s : State) : Nat := ((s.motion.records.filter Record.charged).map Record.draw).sum

def State.position (s : State) (a : Axis) : Option Int := (s.motion.axis.get a).position

def State.faulted (s : State) (a : Axis) : Bool := (s.motion.axis.get a).fault.isSome

/-- Class 1 holds the held records, class 2 the others (R23). -/
def Record.cls (r : Record) : Nat := if r.held then 1 else 2

def isHydraulic : Axis → Bool
  | .lift | .tilt | .fold => true
  | .kdoor | .rdoor => false

/-- The record needs the valve bank (R35). -/
def Record.needsBank (r : Record) : Bool :=
  match r.seq with
  | some q => q.needsBank
  | none => isHydraulic r.axis

/-- The bank is withheld while a hydraulic axis is FAULTED (R128). -/
def State.bankWithheld (s : State) : Bool := s.faulted .lift || s.faulted .tilt || s.faulted .fold

/-- The limits of an axis in the profile handed out. -/
def State.limits (s : State) (a : Axis) : AxisLimits := s.profile.limits.axis.get a

/-- V, the SC7 figure, absent before the first sample with a value (R36, R185). -/
def State.volts (s : State) : Option Int := s.sense.battery.value

/-- One more grant attempt is owed (R39). -/
def State.oweAttempt (s : State) : State := s.onMotion (fun m => { m with attemptsDue := m.attemptsDue + 1 })

/-- R45: the records that one event ends together owe one attempt after the last. -/
def State.asOneEvent (f : State → State) (s : State) : State :=
  (f s).onMotion (fun m => { m with attemptsDue := min m.attemptsDue (s.motion.attemptsDue + 1) })

/-! ### Outputs of an axis (R72) -/

def outputsOf : Axis → List DriveOut
  | .lift => [.do0, .do1, .do2]
  | .tilt => [.do0, .do3, .do4]
  | .fold => [.do0, .do5, .do6]
  | .kdoor => [.do7, .do8]
  | .rdoor => [.do9, .do10]

/-- The axes of which a drive output is an output (R127). -/
def axesOf : DriveOut → List Axis
  | .do0 => [.lift, .tilt, .fold]
  | .do1 | .do2 => [.lift]
  | .do3 | .do4 => [.tilt]
  | .do5 | .do6 => [.fold]
  | .do7 | .do8 => [.kdoor]
  | .do9 | .do10 => [.rdoor]

/-- The drive output of a motion (R72). -/
def driveOutput : Axis → Dir → DriveOut
  | .lift, .inc => .do0
  | .lift, .dec => .do2
  | .tilt, _ => .do0
  | .fold, _ => .do0
  | .kdoor, .inc => .do7
  | .kdoor, .dec => .do8
  | .rdoor, .inc => .do9
  | .rdoor, .dec => .do10

/-- The directional valve of a motion, where it has one (R72). -/
def valveOf : Axis → Dir → Option DriveOut
  | .lift, .inc => some .do1
  | .lift, .dec => none
  | .tilt, .inc => some .do3
  | .tilt, .dec => some .do4
  | .fold, .inc => some .do6
  | .fold, .dec => some .do5
  | .kdoor, _ => none
  | .rdoor, _ => none

/-- The held-off outputs of a motion (R72). -/
def heldOff : Axis → Dir → List DriveOut
  | .lift, .inc => [.do2]
  | .lift, .dec => [.do0, .do1]
  | .tilt, .inc => [.do4]
  | .tilt, .dec => [.do3]
  | .fold, .inc => [.do5]
  | .fold, .dec => [.do6]
  | .kdoor, .inc => [.do8]
  | .kdoor, .dec => [.do7]
  | .rdoor, .inc => [.do10]
  | .rdoor, .dec => [.do9]

/-- DO1, DO3, DO4, DO5 and DO6 open with a hit phase (R80). -/
def isDirectional : DriveOut → Bool
  | .do1 | .do3 | .do4 | .do5 | .do6 => true
  | .do0 | .do2 | .do7 | .do8 | .do9 | .do10 => false

/-! ### Claims, stagings and forces (R136, R137, R139, R140) -/

def Force.any (f : Force) : Bool := f.immediate || f.faultHold || f.holdoff

/-- R136: a claim takes the tag and lifts an IMMEDIATE force. -/
def claimOut (tag : Nat) (s : State) (o : DriveOut) : State :=
  s.onOut o (fun r => { r with claim := some tag, force := { r.force with immediate := false } })

/-- R136: a release takes the claim away and lifts an IMMEDIATE force. -/
def releaseOut (s : State) (o : DriveOut) : State :=
  s.onOut o (fun r => { r with claim := none, force := { r.force with immediate := false } })

/-- R137: a staging is taken when the output's claim holds the tag and no force stands on it. -/
def DriveRecord.takes (r : DriveRecord) (tag : Nat) : Bool := r.claim == some tag && !r.force.any

/-- R137: a staging of a duty, with its hit mark, by a record. -/
def stageOut (tag duty : Nat) (hit : Bool) (s : State) (o : DriveOut) : State :=
  s.onOut o (fun r =>
    if r.takes tag then { r with staged := duty, hitMark := hit, updatePending := true } else r)

/-- R139: the condition of an output under any force. -/
def DriveRecord.forcedOff (r : DriveRecord) : DriveRecord :=
  { r with
    active := 0, staged := 0, updatePending := false, hitMark := false, phase := .off, hitCount := 0
    onTime := none, openCount := 0, dminTimer := none }

/-- R139, R145: an output's record as a force takes its duty at the clock's time; that it has conducted in the period
stands on to the period's end. -/
def State.dutyTaken (s : State) (o : DriveOut) (r : DriveRecord) : DriveRecord :=
  { r.forcedOff with conducted := r.conductedBy o (s.drive.baseOf o) s.clock }

/-- R139: an output's record as a force other than HOLDOFF turns it off at the clock's time. -/
def State.turnedOff (s : State) (o : DriveOut) (r : DriveRecord) : DriveRecord :=
  { s.dutyTaken o r with lowFrom := r.lowAfterForce o (s.drive.baseOf o) s.clock }

/-- R139, R140: an IMMEDIATE force; on an output with no claim it is lifted as soon as it is made. -/
def forceImmediate (s : State) (o : DriveOut) : State :=
  s.onOut o (fun r => { s.turnedOff o r with force := { r.force with immediate := r.claim.isSome } })

/-- R139: a FAULT HOLD. -/
def forceFault (s : State) (o : DriveOut) : State :=
  s.onOut o (fun r => { s.turnedOff o r with force := { r.force with faultHold := true } })

/-- R139, R141: the HOLDOFF force, under which a half has both gates off at once. -/
def forceHoldoff (s : State) (o : DriveOut) : State :=
  s.onOut o (fun r => { s.dutyTaken o r with force := { r.force with holdoff := true } })

/-- R141: the HOLDOFF force is lifted; a half's low gate turns on at once. -/
def liftHoldoff (s : State) (o : DriveOut) : State :=
  s.onOut o (fun r =>
    { r with force := { r.force with holdoff := false }, lowFrom := min r.lowFrom (halfTicksAt s.clock) })

/-- R145 to R147, R150: a lamp output, whose period began at `base`, takes a duty at clock value t. Its on-time runs while
the duty is above 0; a lamp that a release of HOLDOFF lights mid-period starts its on-time there (DESIGN CHOICE,
notes/assumptions/37.md). -/
def LampRecord.drive (base t d : Nat) (r : LampRecord) : LampRecord :=
  { r with
    duty := d
    onTime := if d = 0 then none else if r.duty = 0 then some 0 else r.onTime
    openCount := if d = 0 then 0 else r.openCount
    conducted := r.conductedBy base t
    drivenFrom := t }

/-- A lamp output takes a duty at the clock's time. -/
def driveLamp (l : Lamp) (d : Nat) (s : State) : State :=
  s.onLampOut l (LampRecord.drive s.drive.lampBase s.clock d)

/-- 0 is staged on every output of an axis. -/
def stageZero (tag : Nat) (a : Axis) (s : State) : State :=
  (outputsOf a).foldl (stageOut tag 0 false) s

/-! ### Synchronised channels (R7, R8) -/

/-- A snapshot-marked conversion that began before a fresh entry to STARTING is no snapshot (R8). -/
def Conversion.unmarked (c : Conversion) : Conversion :=
  match c.trigger with
  | .snapshot => { c with trigger := .synchronised }
  | .freeRunning => c
  | .synchronised => c

/-- The axis enters STARTING: its free-running timer stops and the next control-interval event begins its
snapshot. -/
def synchronise (a : Axis) (s : State) : State :=
  s.onChannel (.axis a) (fun c =>
    { c with timer := none, sync := true, snapshotDue := true, conversion := c.conversion.map Conversion.unmarked })

/-- The axis leaves the synchronised states: the free-running timer restarts with 10 ms to run. -/
def unsynchronise (a : Axis) (s : State) : State :=
  s.onChannel (.axis a) (fun c => { c with timer := some s.clock, sync := false, snapshotDue := false })

/-- What R45 stage 3, R105 stage 1 and R110 tell the Drive Unit and the Sense Unit when a record or step leaves
STARTING, MOVING or STOPPING: the outputs of its axis are released (R136) and its channel free-runs (R7). -/
def leaveMotion (r : Record) (s : State) : State :=
  if r.inMotion then unsynchronise r.axis ((outputsOf r.axis).foldl releaseOut s) else s

/-! ### Prewarn entries (R155) -/

def axisLamps : Axis → List Lamp
  | .lift => [.b0, .b3]
  | .tilt => [.b3]
  | .fold => [.b3]
  | .kdoor => [.b1]
  | .rdoor => [.b2]

/-- R155: a prewarn request adds the axis's channels to the tag's entry and starts its timer. -/
def prewarnRequest (tag : Nat) (a : Axis) (d : Dir) (time : Nat) (s : State) : State :=
  let timer : PrewarnTimer := { began := s.clock, time := time, axis := a, dir := d }
  let add (p : PerLamp Bool) : PerLamp Bool := (axisLamps a).foldl (fun p l => p.set l true) p
  s.onBeacon (fun b =>
    if b.prewarn.any (fun e => e.tag = tag) then
      { b with prewarn := b.prewarn.map (fun e => if e.tag = tag then { e with set := add e.set, timer := some timer } else e) }
    else
      { b with prewarn := b.prewarn ++ [{ tag := tag, set := add (.ofFn (fun _ => false)), timer := some timer }] })

/-- R155: a prewarn cancel stops the timer and keeps the set. -/
def prewarnCancel (tag : Nat) (s : State) : State :=
  s.onBeacon (fun b =>
    { b with prewarn := b.prewarn.map (fun e => if e.tag = tag then { e with timer := none } else e) })

/-- R155: a duty end removes the entry. -/
def dutyEnd (tag : Nat) (s : State) : State :=
  s.onBeacon (fun b => { b with prewarn := b.prewarn.filter (fun e => e.tag ≠ tag) })

/-! ### The end of a record (R45) -/

/-- R171: a button's tag is cleared as its record leaves the list. -/
def clearButtonTags (tag : Nat) (s : State) : State :=
  s.onCrew (fun c =>
    { c with stations := c.stations.map (fun st =>
        { st with tags := .ofFn (fun b => if st.tags.get b = some tag then none else st.tags.get b) }) })

/-- The axis or the sequence number that a RECORD_END names. -/
def Record.subject (r : Record) : Nat :=
  match r.seq, r.axis with
  | some q, _ => q.number
  | none, .lift => 0
  | none, .tilt => 1
  | none, .fold => 2
  | none, .kdoor => 3
  | none, .rdoor => 4

/-- The RECORD_END notice of a record (R45, R189). -/
def recordEndNotice (r : Record) (res : Result) (s : State) : Notice :=
  .recordEnd r.tag r.kind r.subject res (.ofFn r.claims)
    (.ofFn (fun a => if r.claims a then s.position a else none))

/-- The record leaves the list and gives up the bank (R45 stages 1 and 2); its draw goes with it. -/
def removeRecord (tag : Nat) (s : State) : State :=
  s.onMotion (fun m =>
    { m with
      records := m.records.filter (fun r => r.tag ≠ tag)
      bank := if m.bank = some tag then none else m.bank })

/-- R45: the end of the record holding a tag; the grant attempt of stage 5 is owed. -/
def endRecord (tag : Nat) (res : Result) (s : State) : State :=
  match s.find tag with
  | none => s
  | some r =>
      (appendNotice (recordEndNotice r res s)
        (dutyEnd tag (clearButtonTags tag (removeRecord tag (leaveMotion r s))))).oweAttempt

/-- R85: the immediate stop of a record's current motion. -/
def immediateStop (r : Record) (s : State) : State :=
  ((outputsOf r.axis).foldl forceImmediate s).onRecord r.tag (fun r => { r with dPrev := 0 })

/-- The end of a record for a fault, ESTOP or HOLDOFF: an immediate stop where it was driving (R85), then R45. -/
def cutRecord (res : Result) (s : State) (tag : Nat) : State :=
  match s.find tag with
  | none => s
  | some r => endRecord tag res (if r.inMotion then immediateStop r s else s)

/-- The tags of the list in its order. -/
def State.tags (s : State) : List Nat := s.motion.records.map Record.tag

end Sys2Proof.Machine
end

