-- ==== Sys2Proof/Machine/Operands.lean ====
section
/-! DEFINITION. Machine/Operands.lean: how R203 carries values in bytes. Numbers high byte first, signed
values in 16-bit two's complement, an absent position or raw code as 8000H, and the code of every
enumeration. -/

namespace Sys2Proof.Machine

open Sys2Proof

/-- R203: two bytes, high byte first, of a number in two's complement. -/
def be16 (x : Int) : List Byte :=
  let w := BitVec.ofInt 16 x
  [w.extractLsb' 8 8, w.extractLsb' 0 8]

/-- R203: an absent position, voltage or raw code is 8000H. -/
def be16? : Option Int → List Byte
  | some x => be16 x
  | none => [0x80, 0x00]

/-- R203: yes, set or on is 1. -/
def flag (b : Bool) : Byte := if b then 1 else 0

/-- A number carried as itself in one byte. -/
def byte (n : Nat) : Byte := BitVec.ofNat 8 n

/-- R203: the number two bytes carry, high byte first, in two's complement. -/
def signed16 (hi lo : Byte) : Int := (hi ++ lo : BitVec 16).toInt

/-- The same two bytes without a sign. -/
def unsigned16 (hi lo : Byte) : Nat := hi.toNat * 256 + lo.toNat

def axisNumber : Axis → Nat
  | .lift => 0
  | .tilt => 1
  | .fold => 2
  | .kdoor => 3
  | .rdoor => 4

def axisOf : Nat → Option Axis
  | 0 => some .lift
  | 1 => some .tilt
  | 2 => some .fold
  | 3 => some .kdoor
  | 4 => some .rdoor
  | _ => none

def lampNumber : Lamp → Nat
  | .b0 => 0
  | .b1 => 1
  | .b2 => 2
  | .b3 => 3

def lampOf : Nat → Option Lamp
  | 0 => some .b0
  | 1 => some .b1
  | 2 => some .b2
  | 3 => some .b3
  | _ => none

def DeviceMode.code : DeviceMode → Byte
  | .loading => 1
  | .lampTest => 2
  | .run => 3

def Source.code : Source → Byte
  | .flash => 1
  | .limp => 2

def SupplyState.code : SupplyState → Byte
  | .normal => 1
  | .cut => 2

def BusState.code : BusState → Byte
  | .idle => 1
  | .receiving => 2
  | .transmitting => 3
  | .backoff => 4
  | .stuck => 5

def Commit.code : Commit → Byte
  | .idle => 1
  | .erase => 2
  | .program _ => 2
  | .verify => 2

def RecordState.code : RecordState → Byte
  | .waiting => 2
  | .prewarn => 3
  | .starting => 4
  | .moving => 5
  | .stopping => 6
  | .paused => 7

def Role.code : Role → Byte
  | .cab => 1
  | .rear => 2
  | .kerb => 3
  | .road => 4

/-- The roles a station entry may have. -/
def stationRoleOf : Nat → Option Role
  | 2 => some .rear
  | 3 => some .kerb
  | 4 => some .road
  | _ => none

def RecordKind.code : RecordKind → Byte
  | .move => 1
  | .jog => 2
  | .sequence => 3

def Dir.code : Dir → Byte
  | .inc => 1
  | .dec => 2

def dirOf : Nat → Option Dir
  | 1 => some .inc
  | 2 => some .dec
  | _ => none

def Speed.code : Speed → Byte
  | .slow => 1
  | .normal => 2

def speedOf : Nat → Option Speed
  | 1 => some .slow
  | 2 => some .normal
  | _ => none

def WaitReason.code : WaitReason → Byte
  | .bank => 1
  | .budget => 2

def Result.code : Result → Byte
  | .arrived => 1
  | .limited => 2
  | .stopped => 3
  | .released => 4
  | .holdLapse => 5
  | .interlock => 6
  | .obstructed => 7
  | .overload => 8
  | .fault => 9
  | .expired => 10
  | .estop => 11
  | .holdoff => 12
  | .supplyLow => 13
  | .vehicle => 14
  | .noReference => 15

def FaultKind.code : FaultKind → Byte
  | .sensorRange => 1
  | .sensorDisagree => 2
  | .overtravel => 3
  | .stall => 4
  | .loadOpen => 5
  | .loadShort => 6
  | .echo => 7

def LampFault.code : LampFault → Byte
  | .open => 1
  | .short => 2
  | .echo => 3

def CommitStage.code : CommitStage → Byte
  | .erase => 1
  | .program => 2
  | .verify => 3

/-- R157: an override pattern, or CLEAR as none. -/
def overrideOf : Nat → Option (Option OverridePattern)
  | 1 => some (some .off)
  | 2 => some (some .on)
  | 3 => some (some .blink)
  | 4 => some (some .stretch)
  | 5 => some none
  | _ => none

def Perm.code : Perm → Byte
  | .none => 1
  | .hold => 2
  | .target => 3

def permOf : Nat → Option Perm
  | 1 => some .none
  | 2 => some .hold
  | 3 => some .target
  | _ => none

def TargetKind.code : TargetKind → Byte
  | .absolute => 1
  | .bed => 2
  | .ground => 3
  | .level => 4

def targetKindOf : Nat → Option TargetKind
  | 1 => some .absolute
  | 2 => some .bed
  | 3 => some .ground
  | 4 => some .level
  | _ => none

def Condition.code : Condition → Byte
  | .off => 1
  | .on => 2
  | .anyMotion => 3
  | .hydMotion => 4
  | .doorMotion => 5
  | .deployed => 6
  | .kdoorOpen => 7
  | .rdoorOpen => 8
  | .notStowed => 9
  | .anyFault => 10

def conditionOf : Nat → Option Condition
  | 1 => some .off
  | 2 => some .on
  | 3 => some .anyMotion
  | 4 => some .hydMotion
  | 5 => some .doorMotion
  | 6 => some .deployed
  | 7 => some .kdoorOpen
  | 8 => some .rdoorOpen
  | 9 => some .notStowed
  | 10 => some .anyFault
  | _ => none

def Pattern.code : Pattern → Byte
  | .steady => 1
  | .blink => 2
  | .stretch => 3

def patternOf : Nat → Option Pattern
  | 1 => some .steady
  | 2 => some .blink
  | 3 => some .stretch
  | _ => none

def Rate.code : Rate → Byte
  | .hz1 => 1
  | .hz2 => 2
  | .hz4 => 3
  | .hz8 => 4

def rateOf : Nat → Option Rate
  | 1 => some .hz1
  | 2 => some .hz2
  | 3 => some .hz4
  | 4 => some .hz8
  | _ => none

def InputMode.code : InputMode → Byte
  | .unsigned => 1
  | .signed => 2

def inputModeOf : Nat → Option InputMode
  | 1 => some .unsigned
  | 2 => some .signed
  | _ => none

/-- The status byte, numbered from 00H in the order of R203. -/
def Status.code : Status → Byte
  | .ok => 0x00
  | .amended => 0x01
  | .badKind => 0x02
  | .badLength => 0x03
  | .badField => 0x04
  | .starting => 0x05
  | .holdoff => 0x06
  | .estopActive => 0x07
  | .supplyLow => 0x08
  | .notPermitted => 0x09
  | .faulted => 0x0A
  | .stillFaulted => 0x0B
  | .dupTag => 0x0C
  | .owned => 0x0D
  | .committed => 0x0E
  | .interlock => 0x0F
  | .envelope => 0x10
  | .held => 0x11
  | .profileBusy => 0x12
  | .locked => 0x13
  | .badProfile => 0x14
  | .notEmpty => 0x15

/-- The value of a raw 12-bit code in an input mode (R4). -/
def codeValue (m : InputMode) (c : RawCode) : Int :=
  match m with
  | .unsigned => c.toNat
  | .signed => c.toInt

/-- The set of claimed axes of a RECORD_END, bit n for axis n (R203). -/
def axisSet (p : PerAxis Bool) : Byte :=
  byte ((if p.lift then 1 else 0) + (if p.tilt then 2 else 0) + (if p.fold then 4 else 0)
    + (if p.kdoor then 8 else 0) + (if p.rdoor then 16 else 0))

/-- The buttons of a HOLD data byte: bit n − 1 for button n, the two spare bits not read (R164, R203). -/
def buttonSet (d : Byte) : PerButton Bool :=
  ⟨d.getLsbD 0, d.getLsbD 1, d.getLsbD 2, d.getLsbD 3, d.getLsbD 4, d.getLsbD 5⟩

/-- A lamp state in a LAMPS frame (R203). -/
def LampState.code : LampState → Byte
  | .off => 0
  | .on => 1
  | .slow => 2
  | .fast => 3

/-- The two data bytes of a LAMPS frame, two bits a button from bit 7 down (R203). -/
def lampBytes (p : PerButton LampState) : Byte × Byte :=
  ((p.b1.code <<< 6) ||| (p.b2.code <<< 4) ||| (p.b3.code <<< 2) ||| p.b4.code,
   (p.b5.code <<< 6) ||| (p.b6.code <<< 4))

/-- The bytes a notice fills from its kind on (R203), before the padding to 16. -/
def Notice.fields : Notice → List Byte
  | .recordEnd tag kind subject result claimed positions =>
      [1, byte tag, kind.code, byte subject, result.code, axisSet claimed]
        ++ axes.flatMap (fun a => be16? (if claimed.get a then positions.get a else none))
  | .axisFault a kind => [2, byte (axisNumber a), kind.code]
  | .estop .pin => [3, 1, 0]
  | .estop .cab => [3, 2, 0]
  | .estop (.halt n) => [3, 3, byte n]
  | .estopCleared => [4]
  | .supply state volts => [5, state.code] ++ be16? volts
  | .beaconFault l kind => [6, byte (lampNumber l), kind.code]
  | .busState state => [7, state.code]
  | .vehicleMoving => [8]
  | .profileDone none => [9, 1, 0]
  | .profileDone (some stage) => [9, 2, stage.code]

/-- A notice in the 16 bytes of a READ-NOTICES reply; unused bytes are 00H (R203). -/
def Notice.bytes (n : Notice) : List Byte :=
  n.fields ++ List.replicate (16 - n.fields.length) 0

/-- The characters of a reply from LEN to the last content character (R179, R203). -/
def Reply.body (r : Reply) : List Byte :=
  byte (3 + r.content.length) :: r.kind :: r.tag :: r.status.code :: r.content

/-- CHECK makes the 8-bit sum from LEN to CHECK 00H (R179). -/
def checkOf (body : List Byte) : Byte := - body.foldl (· + ·) 0

/-- The frame that carries a reply on TXD: SYNC, LEN to content, CHECK (R179, R183). -/
def Reply.frame (r : Reply) : List Byte := 0xC3 :: (r.body ++ [checkOf r.body])

/-- The bytes of a crew frame before its check byte (R164, R203). -/
def CrewFrame.body (f : CrewFrame) : List Byte :=
  (f.src ++ f.dst : BitVec 8) ::
    match f.kind with
    | .hold d => [0x01, d]
    | .clear => [0x02]
    | .halt => [0x03]
    | .lamps a b => [0x04, a, b]

/-- A crew frame's check byte is the XOR of every byte before it (R164). -/
def xorOf (bytes : List Byte) : Byte := bytes.foldl (· ^^^ ·) 0

/-- The bytes of a crew frame, check byte included. -/
def CrewFrame.bytes (f : CrewFrame) : List Byte := f.body ++ [xorOf f.body]

/-- The frame that the bytes taken before a STOP form, when it is good (R164): a kind of the four with its
count of bytes, the check byte the XOR of those before it, a source of 1 to 14 (or 15 for the part's own
frame), and destination 0 for a HALT. -/
def crewFrameOf (bytes : List Byte) : Option CrewFrame :=
  let frame? : Option (CrewFrame × Byte) :=
    match bytes with
    | [h, 0x01, d, c] => some (⟨h.extractLsb' 4 4, h.extractLsb' 0 4, .hold d⟩, c)
    | [h, 0x02, c] => some (⟨h.extractLsb' 4 4, h.extractLsb' 0 4, .clear⟩, c)
    | [h, 0x03, c] => some (⟨h.extractLsb' 4 4, h.extractLsb' 0 4, .halt⟩, c)
    | [h, 0x04, a, b, c] => some (⟨h.extractLsb' 4 4, h.extractLsb' 0 4, .lamps a b⟩, c)
    | _ => none
  match frame? with
  | some (f, c) =>
      if c = xorOf f.body ∧ f.src ≠ 0 ∧ (f.kind = .halt → f.dst = 0) then some f else none
  | none => none

/-- R165: whether the part acknowledges byte n (counted from 1, the header) of a frame that it receives and whose
second byte is `kind`, for a source that is enabled or not. -/
def acknowledges (src dst : BitVec 4) (kind : Byte) (enabled : Bool) (n : Nat) : Bool :=
  let header := (dst == 15 || dst == 0) && src != 0 && src != 15 && (enabled || dst == 0)
  if n ≤ 1 then header else header && (enabled || kind == 0x03) && n ≤ 5

end Sys2Proof.Machine
end

