-- ==== Sys2Proof/Machine/Profile.lean ====
section
/-! DEFINITION. Machine/Profile.lean: the 4,096-byte profile image: its bytes, its CRC, its region map, the
ranges and relations of its fields, and the tables the blocks read from it (R192 to R194, R199, R203). -/

namespace Sys2Proof.Machine

open Sys2Proof

/-! ### The image as memory -/

/-- A byte of an image. A byte not listed is 00H. -/
def Image.read : Image → Nat → Byte
  | [], _ => 0
  | (a, b) :: rest, k => if k = a then b else if k < a then 0 else Image.read rest k

/-- Write a byte and keep the canonical form: writing 00H takes the entry out. -/
def Image.write : Image → Nat → Byte → Image
  | [], k, v => if v = 0 then [] else [(k, v)]
  | (a, b) :: rest, k, v =>
      if k < a then (if v = 0 then (a, b) :: rest else (k, v) :: (a, b) :: rest)
      else if k = a then (if v = 0 then rest else (k, v) :: rest)
      else (a, b) :: Image.write rest k v

/-- The entries lie at rising addresses from `lo` on, inside the image, and none holds 00H. -/
def Image.wfFrom (lo : Nat) : Image → Bool
  | [] => true
  | (a, b) :: rest => decide (lo ≤ a) && decide (a < Config.imageSize) && decide (b ≠ 0) && Image.wfFrom (a + 1) rest

/-- The canonical form of an image. -/
def Image.wf (m : Image) : Bool := Image.wfFrom 0 m

/-- Write bytes one after another from an address on. -/
def Image.writeAll (m : Image) (k : Nat) : List Byte → Image
  | [] => m
  | b :: rest => Image.writeAll (m.write k b) (k + 1) rest

/-- n bytes from an address on. -/
def Image.readAll (m : Image) (k : Nat) : Nat → List Byte
  | 0 => []
  | n + 1 => m.read k :: Image.readAll m (k + 1) n

/-- The image that bytes lying from an address on make. -/
def imageFrom (k : Nat) : List Byte → Image
  | [] => []
  | b :: rest => if b = 0 then imageFrom (k + 1) rest else (k, b) :: imageFrom (k + 1) rest

/-- The image read from or written to flash address 0 (R192). -/
def imageOf (bytes : List Byte) : Image := imageFrom 0 (bytes.take Config.imageSize)

/-- The n bytes of an image from address k on, in one pass. -/
def Image.dense (m : Image) (k : Nat) : Nat → List Byte
  | 0 => []
  | n + 1 =>
      match m with
      | [] => 0 :: Image.dense [] (k + 1) n
      | (a, b) :: rest => if a = k then b :: Image.dense rest (k + 1) n else 0 :: Image.dense ((a, b) :: rest) (k + 1) n

/-! ### CRC -/

/-- One bit of the CRC: polynomial 1021H, most significant bit first (R192). -/
def crcBit (crc : Half) : Half := if crc.msb then (crc <<< 1) ^^^ 0x1021 else crc <<< 1

/-- One byte of the CRC. -/
def crcByte (crc : Half) (b : Byte) : Half :=
  crcBit (crcBit (crcBit (crcBit (crcBit (crcBit (crcBit (crcBit (crc ^^^ (b ++ (0 : Byte))))))))))

/-- CRC-16 from FFFFH (R192). -/
def crc16 (bytes : List Byte) : Half := bytes.foldl crcByte 0xFFFF

/-- The CRC of an image: over bytes 0 to 4093. -/
def Image.crc (m : Image) : Half := crc16 (m.dense 0 Config.crcSpan)

/-- The image with its CRC in bytes 4094 and 4095, high byte first (R192, R200). -/
def Image.sealed (m : Image) : Image :=
  (m.write 4094 (m.crc.extractLsb' 8 8)).write 4095 (m.crc.extractLsb' 0 8)

/-! ### Regions -/

/-- The regions in number order (R192). -/
def regions : List Nat := [0, 1, 2, 3, 4, 5, 6]

/-- A region's fixed length (R192); region 7 is the descriptor, 40 bytes (R197). -/
def regionLength : Nat → Nat
  | 0 => 120
  | 1 => 20
  | 2 => 240
  | 3 => 20
  | 4 => 160
  | 5 => 72
  | 6 => 124
  | 7 => 40
  | _ => 0

/-- A region's write class is SERVICE (R192). -/
def regionService (r : Nat) : Bool := 3 ≤ r && r ≤ 6

/-- The offset of a region in an image by its region map; the descriptor lies at 0 (R192, R203). -/
def Image.offset (m : Image) (r : Nat) : Nat :=
  if r < 7 then unsigned16 (m.read (5 + 5 * r)) (m.read (6 + 5 * r)) else 0

/-- A reader of one region's bytes by their offsets. -/
abbrev Reader := Nat → Byte

def Image.region (m : Image) (r : Nat) : Reader := fun k => m.read (m.offset r + k)

def Reader.u8 (rd : Reader) (k : Nat) : Nat := (rd k).toNat
def Reader.s16 (rd : Reader) (k : Nat) : Int := signed16 (rd k) (rd (k + 1))

/-! ### Ranges -/

/-- A numeric field: its offset in the region, whether it takes two bytes, and its range (R203). -/
structure Field where
  offset : Nat
  wide : Bool
  lo : Int
  hi : Int
  deriving DecidableEq, Repr

def Field.value (f : Field) (rd : Reader) : Int := if f.wide then rd.s16 f.offset else rd.u8 f.offset

def Field.inRange (f : Field) (rd : Reader) : Bool := f.lo ≤ f.value rd && f.value rd ≤ f.hi

/-- The nearer bound when a value lies outside. -/
def clampTo (lo hi x : Int) : Int := if x < lo then lo else if hi < x then hi else x

/-- The bytes of a field brought into its range (R194). -/
def Field.clamped (f : Field) (rd : Reader) : List Byte :=
  let v := clampTo f.lo f.hi (f.value rd)
  if f.wide then be16 v else [BitVec.ofInt 8 v]

/-- The slots of a sequence entry that are read: those before the first whose axis is 255 (R97). Of that slot only the axis
byte is looked at: its kind, value and speed are neither judged nor clamped (DESIGN CHOICE, notes/assumptions/63.md). -/
def slotsRead (rd : Reader) (e : Nat) : List Nat :=
  (List.range 8).takeWhile (fun s => rd (40 * e + 5 * s) ≠ 255)

/-- The numeric fields of an axis block (R203). -/
def axisFields (a : Nat) : List Field :=
  [ ⟨20 * a, true, -2000, 4000⟩, ⟨20 * a + 2, true, -2000, 4000⟩, ⟨20 * a + 4, true, 1, 1000⟩,
    ⟨20 * a + 6, true, 1, 1000⟩, ⟨20 * a + 8, true, 1, 1000⟩, ⟨20 * a + 10, true, 1, 2000⟩,
    ⟨20 * a + 12, false, 0, 50⟩, ⟨20 * a + 13, false, 1, 100⟩, ⟨20 * a + 14, true, 1, 1000⟩,
    ⟨20 * a + 16, true, 1, 1000⟩, ⟨20 * a + 18, true, 0, 10000⟩, ⟨100 + 4 * a, true, 0, 500⟩,
    ⟨102 + 4 * a, true, 0, 500⟩ ]

/-- The code range of a channel in its input mode (R203). -/
def codeRange (rd : Reader) (k : Nat) : Int × Int :=
  if rd (13 * k) = 2 then (-2048, 2047) else (0, 4095)

/-- The numeric fields of a channel block, and those of an alternate track at `at` (R203). -/
def channelFields (rd : Reader) (k : Nat) : List Field :=
  let (lo, hi) := codeRange rd k
  [ ⟨13 * k + 1, true, lo, hi⟩, ⟨13 * k + 3, true, lo, hi⟩, ⟨13 * k + 5, true, lo, hi⟩,
    ⟨13 * k + 7, true, -2000, 4000⟩, ⟨13 * k + 9, true, lo, hi⟩, ⟨13 * k + 11, true, -2000, 4000⟩ ]

def alternateFields (rd : Reader) (k base : Nat) : List Field :=
  let (lo, hi) := codeRange rd k
  [ ⟨base, true, lo, hi⟩, ⟨base + 2, true, -2000, 4000⟩, ⟨base + 4, true, lo, hi⟩,
    ⟨base + 6, true, -2000, 4000⟩ ]

/-- The numeric fields of a region, as far as they are read (R203). The value of a slot that is not ABSOLUTE is not read,
and is neither clamped nor checked, where R199 applies the ranges of every field (DESIGN CHOICE,
notes/assumptions/53.md). -/
def numericFields (rd : Reader) : Nat → List Field
  | 1 => [⟨17, true, 0, 800⟩]
  | 2 => (List.range 6).flatMap (fun e =>
      (slotsRead rd e).flatMap (fun s =>
        if rd (40 * e + 5 * s + 1) = 1 then [⟨40 * e + 5 * s + 2, true, -2000, 4000⟩] else []))
  | 4 => (List.range 5).flatMap axisFields ++
      [ ⟨120, true, 0, 500⟩, ⟨122, true, 0, 400⟩, ⟨124, true, 0, 400⟩, ⟨126, true, 1, 2500⟩,
        ⟨128, true, 1, 2500⟩, ⟨130, true, 300, 1000⟩, ⟨132, true, 0, 4000⟩, ⟨134, true, 10, 400⟩ ]
  | 5 => (List.range 8).flatMap (fun n =>
      if rd (9 * n) = 255 then []
      else [⟨9 * n + 3, true, -2000, 4000⟩, ⟨9 * n + 5, true, -2000, 4000⟩, ⟨9 * n + 7, true, -2000, 4000⟩])
  | 6 => (List.range 8).flatMap (channelFields rd) ++ alternateFields rd 0 104 ++ alternateFields rd 1 112
      ++ [⟨120, true, 0, 200⟩, ⟨122, true, 0, 200⟩]
  | _ => []

/-- The image with every numeric field of its regions clamped (R194). -/
def Image.clamped (m : Image) : Image :=
  regions.foldl (fun m r =>
    (numericFields (m.region r) r).foldl (fun acc f =>
      if f.inRange (m.region r) then acc else acc.writeAll (m.offset r + f.offset) (f.clamped (m.region r))) m) m

/-! ### Relations -/

/-- A relation: the offset that a failure reports, and whether it holds (R194, R199). -/
abbrev Relation := Nat × Bool

/-- R167, R203: a button's three bytes name a function. The bytes that R203 has 00H for the function are not looked at
(DESIGN CHOICE, notes/assumptions/61.md). -/
def buttonHolds (rd : Reader) (k : Nat) : Bool :=
  match rd.u8 k with
  | 1 => true
  | 2 => (axisOf (rd.u8 (k + 1))).isSome && (dirOf ((rd.u8 (k + 2)) / 16)).isSome
      && (speedOf ((rd.u8 (k + 2)) % 16)).isSome
  | 3 => 1 ≤ rd.u8 (k + 1) && rd.u8 (k + 1) ≤ 6
  | 4 => true
  | _ => false

def usedEntry (rd : Reader) (n : Nat) : Bool := rd (20 * n) ≠ 0

/-- STATIONS: a used entry's address, role and buttons, and no address used twice; a failure reports the
entry. -/
def stationRelations (rd : Reader) : List Relation :=
  (List.range 6).flatMap (fun n =>
    if usedEntry rd n then
      [ (20 * n, decide (rd.u8 (20 * n) ≤ 14)),
        (20 * n, (stationRoleOf (rd.u8 (20 * n + 1))).isSome),
        (20 * n, (List.range 6).all (fun b => buttonHolds rd (20 * n + 2 + 3 * b))),
        (20 * n, (List.range 6).all (fun m => decide (m ≤ n) || !usedEntry rd m || rd (20 * m) ≠ rd (20 * n))) ]
    else [])

/-- BEACONS: the enumerated fields (R194). A combine flag above 1 fails as one of them (DESIGN CHOICE,
notes/assumptions/52.md). -/
def beaconRelations (rd : Reader) : List Relation :=
  (List.range 4).flatMap (fun c =>
    [ (4 * c, (conditionOf (rd.u8 (4 * c))).isSome), (4 * c + 1, (conditionOf (rd.u8 (4 * c + 1))).isSome),
      (4 * c + 2, decide (rd.u8 (4 * c + 2) ≤ 1)), (4 * c + 3, (patternOf (rd.u8 (4 * c + 3))).isSome) ])
    ++ [(16, (rateOf (rd.u8 16)).isSome)]

/-- R97: a step slot names an axis, a target kind that goes with it, and a speed class. -/
def slotHolds (rd : Reader) (k : Nat) : Bool :=
  (speedOf (rd.u8 (k + 4))).isSome &&
    match axisOf (rd.u8 k), targetKindOf (rd.u8 (k + 1)) with
    | some _, some .absolute => true
    | some a, some .bed => a == .lift
    | some a, some .ground => a == .lift
    | some a, some .level => a == .tilt
    | _, _ => false

/-- The sequence numbers that SEQ buttons of used station entries name. -/
def namedSequences (stations : Reader) : List Nat :=
  (List.range 6).flatMap (fun n =>
    if usedEntry stations n then
      (List.range 6).flatMap (fun b =>
        if stations (20 * n + 2 + 3 * b) = 3 then [stations.u8 (20 * n + 3 + 3 * b)] else [])
    else [])

/-- SEQUENCES: the slots read, and at least one step where a button names the entry; a failure reports the
entry. -/
def sequenceRelations (rd stations : Reader) : List Relation :=
  (List.range 6).flatMap (fun e =>
    [ (40 * e, (slotsRead rd e).all (fun s => slotHolds rd (40 * e + 5 * s))),
      (40 * e, !(slotsRead rd e).isEmpty || !(namedSequences stations).contains (e + 1)) ])

def permissionRelations (rd : Reader) : List Relation :=
  (List.range 20).map (fun k => (k, (permOf (rd.u8 k)).isSome))

def limitRelations (rd : Reader) : List Relation :=
  (List.range 5).flatMap (fun a =>
    [ (20 * a, decide (rd.s16 (20 * a) < rd.s16 (20 * a + 2))),
      (20 * a + 8, decide (rd.s16 (20 * a + 8) ≤ rd.s16 (20 * a + 6)) && decide (rd.s16 (20 * a + 6) ≤ rd.s16 (20 * a + 4))) ])
    ++ [(122, decide (rd.s16 122 < rd.s16 124))]

/-- ENVELOPES: a used entry's axes, direction and band; a failure reports the entry. -/
def envelopeRelations (rd : Reader) : List Relation :=
  (List.range 8).flatMap (fun n =>
    if rd (9 * n) = 255 then []
    else
      [ (9 * n, (axisOf (rd.u8 (9 * n))).isSome && (dirOf (rd.u8 (9 * n + 1))).isSome
          && (axisOf (rd.u8 (9 * n + 2))).isSome),
        (9 * n, decide (rd.s16 (9 * n + 3) ≤ rd.s16 (9 * n + 5))) ])

def calibrationRelations (rd : Reader) : List Relation :=
  (List.range 8).flatMap (fun k =>
    [ (13 * k, (inputModeOf (rd.u8 (13 * k))).isSome),
      (13 * k + 1, decide (rd.s16 (13 * k + 1) < rd.s16 (13 * k + 3))),
      (13 * k + 5, rd.s16 (13 * k + 5) != rd.s16 (13 * k + 9)) ])
    ++ [(104, rd.s16 104 != rd.s16 108), (112, rd.s16 112 != rd.s16 116)]

/-- The relations of a region (R194). -/
def regionRelations (m : Image) (r : Nat) : List Relation :=
  match r with
  | 0 => stationRelations (m.region 0)
  | 1 => beaconRelations (m.region 1)
  | 2 => sequenceRelations (m.region 2) (m.region 0)
  | 3 => permissionRelations (m.region 3)
  | 4 => limitRelations (m.region 4)
  | 5 => envelopeRelations (m.region 5)
  | 6 => calibrationRelations (m.region 6)
  | _ => []

/-- Every relation of R194 holds. -/
def Image.relationsHold (m : Image) : Bool :=
  regions.all (fun r => (regionRelations m r).all (·.2))

/-- The offsets of a region's failures under the validation of a commit (R199). -/
def regionFailures (m : Image) (r : Nat) : List Nat :=
  ((numericFields (m.region r) r).filter (fun f => !f.inRange (m.region r))).map (·.offset)
    ++ ((regionRelations m r).filter (fun x => !x.2)).map (·.1)

/-- The lowest region with a failure and the lowest offset within it (R199). -/
def Image.firstBad (m : Image) : Option (Nat × Nat) :=
  regions.findSome? (fun r =>
    match regionFailures m r with
    | [] => none
    | k :: ks => some (r, ks.foldl min k))

/-! ### The load -/

/-- R193 stage 2. -/
def Image.signed (m : Image) : Bool :=
  m.read 0 == 0x42 && m.read 1 == 0x58 && m.read 2 == 0x50 && m.read 3 == 0x46 && m.read 4 == 0x01

/-- A region's map entry gives its fixed length and write class and lies within bytes 40 to 4093. -/
def Image.mapEntryHolds (m : Image) (r : Nat) : Bool :=
  unsigned16 (m.read (7 + 5 * r)) (m.read (8 + 5 * r)) == regionLength r
    && m.read (9 + 5 * r) == (if regionService r then 2 else 1)
    && 40 ≤ m.offset r && m.offset r + regionLength r ≤ Config.crcSpan

/-- R193 stage 3. -/
def Image.mapHolds (m : Image) : Bool :=
  regions.all m.mapEntryHolds
    && regions.all (fun r => regions.all (fun q =>
      r == q || decide (m.offset r + regionLength r ≤ m.offset q) || decide (m.offset q + regionLength q ≤ m.offset r)))

/-- R193 stage 4. -/
def Image.crcHolds (m : Image) : Bool := (m.read 4094 ++ m.read 4095 : Half) == m.crc

/-- R193 stages 2 to 6: the profile that a read image brings into force, if every stage passes. -/
def judgeImage (m : Image) : Option Image :=
  if m.signed && m.mapHolds && m.crcHolds && m.clamped.relationsHold then some m.clamped else none

/-! ### The tables of an image -/

def readButton (rd : Reader) (k : Nat) : ButtonFunction :=
  match rd.u8 k with
  | 2 => .jog ((axisOf (rd.u8 (k + 1))).getD .lift) ((dirOf (rd.u8 (k + 2) / 16)).getD .inc)
      ((speedOf (rd.u8 (k + 2) % 16)).getD .slow)
  | 3 => .seq (rd.u8 (k + 1))
  | 4 => .stop
  | _ => .unused

def readStations (rd : Reader) : List Station :=
  (List.range 6).flatMap (fun n =>
    if usedEntry rd n then
      [{ address := rd.u8 (20 * n), role := (stationRoleOf (rd.u8 (20 * n + 1))).getD .rear,
         function := ⟨readButton rd (20 * n + 2), readButton rd (20 * n + 5), readButton rd (20 * n + 8),
           readButton rd (20 * n + 11), readButton rd (20 * n + 14), readButton rd (20 * n + 17)⟩ }]
    else [])

def readBeacon (rd : Reader) (c : Nat) : BeaconConfig where
  primary := (conditionOf (rd.u8 (4 * c))).getD .off
  secondary := (conditionOf (rd.u8 (4 * c + 1))).getD .off
  combine := rd (4 * c + 2) == 1
  pattern := (patternOf (rd.u8 (4 * c + 3))).getD .steady

def readBeacons (rd : Reader) : BeaconSettings where
  channel := ⟨readBeacon rd 0, readBeacon rd 1, readBeacon rd 2, readBeacon rd 3⟩
  rate := (rateOf (rd.u8 16)).getD .hz1
  stretch := (rd.s16 17).toNat
  lampTest := (rd 19).getLsbD 0
  dim := (rd 19).getLsbD 1

def readSequences (rd : Reader) : List (List Step) :=
  (List.range 6).map (fun e =>
    (slotsRead rd e).map (fun s =>
      { axis := (axisOf (rd.u8 (40 * e + 5 * s))).getD .lift
        kind := (targetKindOf (rd.u8 (40 * e + 5 * s + 1))).getD .absolute
        value := rd.s16 (40 * e + 5 * s + 2)
        speed := (speedOf (rd.u8 (40 * e + 5 * s + 4))).getD .slow }))

def readPermissions (rd : Reader) : PermMap :=
  let row (r : Nat) : PerAxis Perm := .ofFn (fun a => (permOf (rd.u8 (5 * r + axisNumber a))).getD .none)
  { cab := row 0, rear := row 1, kerb := row 2, road := row 3 }

def readAxisLimits (rd : Reader) (a : Nat) : AxisLimits where
  low := rd.s16 (20 * a)
  high := rd.s16 (20 * a + 2)
  dmaxNormal := (rd.s16 (20 * a + 4)).toNat
  dmaxSlow := (rd.s16 (20 * a + 6)).toNat
  dmin := (rd.s16 (20 * a + 8)).toNat
  approach := (rd.s16 (20 * a + 10)).toNat
  deadband := rd.u8 (20 * a + 12)
  stall := rd.u8 (20 * a + 13)
  stepUp := (rd.s16 (20 * a + 14)).toNat
  stepDown := (rd.s16 (20 * a + 16)).toNat
  prewarn := (rd.s16 (20 * a + 18)).toNat
  drawInc := (rd.s16 (100 + 4 * a)).toNat
  drawDec := (rd.s16 (102 + 4 * a)).toNat

def readLimits (rd : Reader) : Limits where
  axis := .ofFn (fun a => readAxisLimits rd (axisNumber a))
  bNom := (rd.s16 120).toNat
  vZero := rd.s16 122
  vFull := rd.s16 124
  pRef := (rd.s16 126).toNat
  pMax := (rd.s16 128).toNat
  holdDuty := (rd.s16 130).toNat
  bed := rd.s16 132
  doorCurrent := (rd.s16 134).toNat

def readEnvelopes (rd : Reader) : List (Option Envelope) :=
  (List.range 8).map (fun n =>
    match axisOf (rd.u8 (9 * n)) with
    | none => none
    | some g =>
        some { guarded := g, dir := (dirOf (rd.u8 (9 * n + 1))).getD .inc,
               guard := (axisOf (rd.u8 (9 * n + 2))).getD .lift, low := rd.s16 (9 * n + 3),
               high := rd.s16 (9 * n + 5), limit := rd.s16 (9 * n + 7) })

def readPoints (rd : Reader) (k : Nat) : Points where
  c1 := rd.s16 k
  u1 := rd.s16 (k + 2)
  c2 := rd.s16 (k + 4)
  u2 := rd.s16 (k + 6)

def readChannel (rd : Reader) (k : Nat) : ChannelCal where
  mode := (inputModeOf (rd.u8 (13 * k))).getD .unsigned
  clo := rd.s16 (13 * k + 1)
  chi := rd.s16 (13 * k + 3)
  points := readPoints rd (13 * k + 5)

def readCalibration (rd : Reader) : Calibration where
  channel :=
    { axis := .ofFn (fun a => readChannel rd (axisNumber a)), pitch := readChannel rd 5,
      pressure := readChannel rd 6, battery := readChannel rd 7 }
  liftAlt := readPoints rd 104
  tiltAlt := readPoints rd 112
  liftTol := rd.s16 120
  tiltTol := rd.s16 122

/-- The tables of a valid image (R203). -/
def Image.profile (m : Image) : Profile where
  stations := readStations (m.region 0)
  beacons := readBeacons (m.region 1)
  sequences := readSequences (m.region 2)
  permissions := readPermissions (m.region 3)
  limits := readLimits (m.region 4)
  envelopes := readEnvelopes (m.region 5)
  calibration := readCalibration (m.region 6)

/-! ### The built-in image -/

def buttonBytes : ButtonFunction → List Byte
  | .unused => [1, 0, 0]
  | .jog a d sp => [2, byte (axisNumber a), d.code * 16 + sp.code]
  | .seq n => [3, byte n, 0]
  | .stop => [4, 0, 0]

def stationBytes (s : Station) : List Byte :=
  [byte s.address, s.role.code] ++ buttons.flatMap (fun b => buttonBytes (s.function.get b))

def padTo (n : Nat) (l : List Byte) : List Byte := l ++ List.replicate (n - l.length) 0

def beaconBytes (b : BeaconSettings) : List Byte :=
  lamps.flatMap (fun l =>
    let c := b.channel.get l
    [c.primary.code, c.secondary.code, flag c.combine, c.pattern.code])
    ++ [b.rate.code] ++ be16 b.stretch ++ [byte ((if b.lampTest then 1 else 0) + (if b.dim then 2 else 0))]

/-- An entry's steps and, where it has fewer than eight, the slot that ends it. -/
def sequenceBytes (steps : List Step) : List Byte :=
  padTo 40 (steps.flatMap (fun st => [byte (axisNumber st.axis), st.kind.code] ++ be16 st.value ++ [st.speed.code])
    ++ (if steps.length < 8 then [255] else []))

def permissionBytes (p : PermMap) : List Byte :=
  [p.cab, p.rear, p.kerb, p.road].flatMap (fun row => axes.map (fun a => (row.get a).code))

def axisLimitBytes (l : AxisLimits) : List Byte :=
  be16 l.low ++ be16 l.high ++ be16 l.dmaxNormal ++ be16 l.dmaxSlow ++ be16 l.dmin ++ be16 l.approach
    ++ [byte l.deadband, byte l.stall] ++ be16 l.stepUp ++ be16 l.stepDown ++ be16 l.prewarn

def limitBytes (l : Limits) : List Byte :=
  padTo 160 (axes.flatMap (fun a => axisLimitBytes (l.axis.get a))
    ++ axes.flatMap (fun a => be16 (l.axis.get a).drawInc ++ be16 (l.axis.get a).drawDec)
    ++ be16 l.bNom ++ be16 l.vZero ++ be16 l.vFull ++ be16 l.pRef ++ be16 l.pMax ++ be16 l.holdDuty ++ be16 l.bed
    ++ be16 l.doorCurrent)

def envelopeBytes : Option Envelope → List Byte
  | none => padTo 9 [255]
  | some e => [byte (axisNumber e.guarded), e.dir.code, byte (axisNumber e.guard)] ++ be16 e.low ++ be16 e.high ++ be16 e.limit

def pointBytes (p : Points) : List Byte := be16 p.c1 ++ be16 p.u1 ++ be16 p.c2 ++ be16 p.u2

def channelBytes (c : ChannelCal) : List Byte := [c.mode.code] ++ be16 c.clo ++ be16 c.chi ++ pointBytes c.points

def calibrationBytes (c : Calibration) : List Byte :=
  axes.flatMap (fun a => channelBytes (c.channel.axis.get a)) ++ channelBytes c.channel.pitch
    ++ channelBytes c.channel.pressure ++ channelBytes c.channel.battery ++ pointBytes c.liftAlt ++ pointBytes c.tiltAlt
    ++ be16 c.liftTol ++ be16 c.tiltTol

/-- The descriptor of an image whose regions lie end to end from offset 40 (R192). -/
def descriptorBytes : List Byte :=
  let entry (r off : Nat) : List Byte :=
    be16 off ++ be16 (regionLength r) ++ [if regionService r then 2 else 1]
  [0x42, 0x58, 0x50, 0x46, 0x01] ++ entry 0 40 ++ entry 1 160 ++ entry 2 180 ++ entry 3 420 ++ entry 4 440
    ++ entry 5 600 ++ entry 6 672

/-- The image of a profile's tables, regions end to end from offset 40, its CRC correct (R192). Bytes to which no rule
gives a value are 00H (DESIGN CHOICE, notes/assumptions/60.md). -/
def encodeProfile (p : Profile) : Image :=
  (imageOf (descriptorBytes ++ padTo 120 (p.stations.flatMap stationBytes) ++ beaconBytes p.beacons
    ++ p.sequences.flatMap sequenceBytes ++ permissionBytes p.permissions ++ limitBytes p.limits
    ++ p.envelopes.flatMap envelopeBytes ++ calibrationBytes p.calibration)).sealed

/-- The built-in LIMP image (R192). -/
def limpImage : Image := encodeProfile Builtin.limp

end Sys2Proof.Machine
end

