-- ==== Sys2Proof/Machine/Flags.lean ====
section
/-! DEFINITION. Machine/Flags.lean: the conditions that the spec's rules test: bands (R3), interlocks (R48 to
R55), envelopes (R63 to R65), permission (R32, R33) and the vehicle-moving condition (R19). They hold no
state; each reads the state of the blocks as it stands. -/

namespace Sys2Proof.Machine

open Sys2Proof

/-! ### Bands (R3) -/

/-- A comparison of an axis position; without a position it takes the given reading. -/
def State.positionIs (s : State) (a : Axis) (absent : Bool) (p : Int → Bool) : Bool :=
  match s.position a with
  | some x => p x
  | none => absent

def State.stowed (s : State) : Bool :=
  s.positionIs .fold false (fun x => 880 ≤ x) && s.positionIs .kdoor false (fun x => x ≤ 5)
    && s.positionIs .rdoor false (fun x => x ≤ 5)

def State.deployed (s : State) : Bool := s.positionIs .fold true (fun x => x < 880)

def State.groundBand (s : State) : Bool := s.positionIs .lift false (fun x => x ≤ 20)

def State.bedBand (s : State) : Bool :=
  s.positionIs .lift false (fun x => s.profile.limits.bed - 10 ≤ x && x ≤ s.profile.limits.bed + 10)

def State.doorOpen (s : State) (a : Axis) : Bool := s.positionIs a true (fun x => 5 < x)

/-! ### Interlocks (R48, R49) -/

/-- The vehicle-moving condition as last delivered (R19). -/
def State.vehicleMoving (s : State) : Bool := s.pins.movingEdge.isSome

def State.input (s : State) (i : Input) : Bool := (s.pins.filter.get i).active

def State.lampFaulted (s : State) (l : Lamp) : Bool := (s.beacon.channel.get l).fault.isSome

def i1 (s : State) : Bool := s.input .park && !s.vehicleMoving

def i2 (s : State) (a : Axis) : Bool :=
  match a with
  | .lift | .tilt => s.positionIs .fold false (fun x => x ≤ 20)
  | .fold | .kdoor | .rdoor => true

def i3 (s : State) (a : Axis) : Bool :=
  match a with
  | .fold => s.bedBand && s.positionIs .tilt false (fun x => -10 ≤ x && x ≤ 10)
  | .lift | .tilt | .kdoor | .rdoor => true

def i4 (s : State) (a : Axis) (source : Role) : Bool :=
  if a = .lift ∧ source = .rear then s.input .foot else true

def i5 (s : State) (a : Axis) (d : Dir) : Bool :=
  if a = .rdoor ∧ d = .inc then !s.lampFaulted .b2 else true

def i6 (s : State) (a : Axis) : Bool :=
  s.sense.battery.healthy && (!isHydraulic a || s.sense.pressure.healthy)

def i7 (s : State) (a : Axis) (d : Dir) : Bool :=
  match a, d with
  | .kdoor, .dec => !s.input .edgeK
  | .rdoor, .dec => !s.input .edgeR
  | _, _ => true

/-- R55, the control-update row: the applicable set less I5 and I7, and the axis has a position (R49). -/
def interlocksMoving (s : State) (a : Axis) (source : Role) : Bool :=
  (s.position a).isSome && i1 s && i2 s a && i3 s a && i4 s a source && i6 s a

/-- R55, every other row: the whole applicable set. -/
def interlocks (s : State) (a : Axis) (d : Dir) (source : Role) : Bool :=
  interlocksMoving s a source && i5 s a d && i7 s a d

/-- R70 stage 2: at the end of PREWARN of an RDOOR opening, I5 holds only with the road mark still set. -/
def interlocksPrewarnEnd (s : State) (r : Record) : Bool :=
  interlocks s r.axis r.dir r.source && (!(r.axis == .rdoor && r.dir == .inc) || r.road)

/-! ### Envelopes (R63) -/

/-- The entry is active. -/
def Envelope.active (e : Envelope) (s : State) : Bool :=
  s.positionIs e.guard true (fun x => e.low ≤ x && x ≤ e.high)

/-- The entries that bear on a motion. -/
def bearing (s : State) (a : Axis) (d : Dir) : List Envelope :=
  s.profile.envelopes.filterMap (fun e? =>
    match e? with
    | some e => if e.guarded = a ∧ e.dir = d ∧ e.active s then some e else none
    | none => none)

/-- A position is at or beyond a limit in a direction. -/
def atOrBeyond (d : Dir) (p limit : Int) : Bool :=
  match d with
  | .inc => limit ≤ p
  | .dec => p ≤ limit

/-- The axis position is at or beyond the limit of an entry that bears on the motion. -/
def envelopeBlocked (s : State) (a : Axis) (d : Dir) : Bool :=
  match s.position a with
  | some p => (bearing s a d).any (fun e => atOrBeyond d p e.limit)
  | none => false

/-- R64: a target clamped to every limit that bears on the motion. -/
def envelopeClamp (s : State) (a : Axis) (d : Dir) (target : Int) : Int :=
  (bearing s a d).foldl (fun t e => match d with | .inc => min t e.limit | .dec => max t e.limit) target

/-- R34 stage 1: a target clamped into travel. -/
def travelClamp (s : State) (a : Axis) (target : Int) : Int :=
  clampTo (s.limits a).low (s.limits a).high target

/-- The target is already passed in the motion's direction (R41, R76). -/
def passed (d : Dir) (p target : Int) : Bool :=
  match d with
  | .inc => target < p
  | .dec => p < target

/-- The position lies within the deadband of the target (R41, R76, R103). -/
def withinDeadband (s : State) (a : Axis) (p target : Int) : Bool :=
  (target - p).natAbs ≤ (s.limits a).deadband

/-! ### Permission (R32, R33) -/

/-- The map's entry for a role on an axis, widened for CAB in SERVICE mode. The LIMP map is that of the
built-in profile. -/
def permission (s : State) (role : Role) (a : Axis) : Perm :=
  let map := if s.store.source = .limp then Builtin.limpPermissions else s.profile.permissions
  match role with
  | .cab => if s.store.service ∧ map.cab.get a = .none then .hold else map.cab.get a
  | .rear => map.rear.get a
  | .kerb => map.kerb.get a
  | .road => map.road.get a

/-- HOLD or TARGET. -/
def mayHold (s : State) (role : Role) (a : Axis) : Bool := permission s role a != .none

/-- TARGET. -/
def mayTarget (s : State) (role : Role) (a : Axis) : Bool := permission s role a == .target

/-! ### Speed class and draw (R34, R37) -/

/-- The speed class after R34's lowering for a source. -/
def lowered (s : State) (source : Role) (sp : Speed) : Speed :=
  if s.store.source = .limp ∨ (s.store.service = true ∧ source = .cab) then .slow else sp

/-- R37: the declared draw of a motion. -/
def drawOf (s : State) (a : Axis) (d : Dir) : Nat :=
  match d with
  | .inc => (s.limits a).drawInc
  | .dec => (s.limits a).drawDec

/-- Dmax of a speed class on an axis (R75). -/
def dmax (s : State) (a : Axis) (sp : Speed) : Nat :=
  match sp with
  | .normal => (s.limits a).dmaxNormal
  | .slow => (s.limits a).dmaxSlow

/-- R36: the budget that a voltage gives. -/
def budgetFor (l : Limits) (v : Int) : Nat :=
  if l.vFull ≤ v then l.bNom
  else if v ≤ l.vZero then 0
  else (((l.bNom : Int) * (v - l.vZero)).tdiv (l.vFull - l.vZero)).toNat

/-- R2: the axis state that QUERY-AXIS reports: FAULTED, the claiming record's state, or IDLE, by its code. -/
def axisStateCode (s : State) (a : Axis) : Byte :=
  if s.faulted a then 8
  else
    match s.claimant a with
    | some r => r.state.code
    | none => 1

end Sys2Proof.Machine
end

