-- ==== Sys2Proof/Machine/Grant.lean ====
section
/-! DEFINITION. Machine/Grant.lean: how a motion begins. Forming a sequence step (R98, R99), the entry to
PREWARN and STARTING (R41, R61, R73), step ends and step starts (R103, R105), and the grant attempt
(R39 to R42, R102). -/

namespace Sys2Proof.Machine

open Sys2Proof

/-! ### Forming a step (R98, R99) -/

/-- The steps of a sequence number in the table in force. -/
def stepsOf (s : State) (number : Nat) : List Step := (s.profile.sequences[number - 1]?).getD []

/-- R98: the body pitch that a LEVEL target reads, absent when it cannot be formed. -/
def levelPitch (s : State) : Option Int := if s.sense.pitch.healthy then s.sense.pitch.value else none

/-- R98: a step's requested target. -/
def requestedTarget (s : State) (st : Step) : Option Int :=
  match st.kind with
  | .absolute => some st.value
  | .bed => some s.profile.limits.bed
  | .ground => some 0
  | .level => (levelPitch s).map (fun p => -p)

/-- R99 stage 3: the direction of a step toward a target. -/
def stepDir (s : State) (a : Axis) (target : Int) (last : Dir) : Dir :=
  match s.position a with
  | some p => if p ≤ target then .inc else .dec
  | none => last

/-- R99: the record with its per-step fields formed from a step and a requested target. -/
def formWith (s : State) (r : Record) (q : SeqFields) (st : Step) (requested : Int) : Record :=
  let t1 := travelClamp s st.axis requested
  let d := stepDir s st.axis t1 (if q.formed then r.dir else .inc)
  let t2 := envelopeClamp s st.axis d t1
  let sp := lowered s r.source st.speed
  { r with
    axis := st.axis, target := t2, limitMark := t2 != t1, dir := d, speed := sp
    clamped := r.clamped || t1 != requested || t2 != t1
    degraded := r.degraded || (sp != st.speed)
    draw := drawOf s st.axis d
    reversing := false
    seq := some { q with formed := true } }

/-- R99: a SEQUENCE record with its current step formed afresh; absent when a LEVEL target cannot be formed. -/
def formStep (s : State) (r : Record) (q : SeqFields) : Option Record :=
  match (stepsOf s q.number)[q.index - 1]? with
  | none => none
  | some st => (requestedTarget s st).map (formWith s r q st)

/-! ### Entry to STARTING and PREWARN -/

def isDoor (a : Axis) : Bool := !isHydraulic a

/-- The edge strip of a door is pressed (R89). -/
def stripPressed (s : State) (a : Axis) : Bool :=
  match a with
  | .kdoor => s.input .edgeK
  | .rdoor => s.input .edgeR
  | .lift | .tilt | .fold => false

/-- R73 stages 1 to 4 with the claim of R136: the record enters STARTING. No result is pending from there on, in a
reversal too (R91; DESIGN CHOICE, notes/assumptions/34.md). -/
def startRecord (r : Record) (reversal : Bool) (s : State) : State :=
  let s1 := s.onRecord r.tag (fun r =>
    { r with
      state := .starting, waitReason := none, dPrev := 0, stall := none, overload := none
      stripArmed := isDoor r.axis, currentSince := none, reversing := reversal
      pendingResult := none })
  let s2 := (outputsOf r.axis).foldl (claimOut r.tag) s1
  let valve := valveOf r.axis r.dir
  let s3 := ((outputsOf r.axis).filter (fun o => some o ≠ valve)).foldl (stageOut r.tag 0 false) s2
  let s4 := match valve with
    | some v => stageOut r.tag 1000 true s3 v
    | none => s3
  synchronise r.axis s4

/-- R73: the entry to STARTING for a record's own motion. A strip already pressed is an obstruction at once
(R89, R90). -/
def enterStarting (r : Record) (s : State) : State :=
  let s1 := startRecord r false s
  if stripPressed s1 r.axis then endRecord r.tag .obstructed (immediateStop r s1) else s1

/-- R61: the road and warned marks as formed at a grant, a step start or a resume. -/
def formMarks (s : State) (r : Record) : Record :=
  if r.axis = .rdoor then
    { r with road := !s.lampFaulted .b2, warned := (s.limits .rdoor).prewarn == 0 }
  else { r with road := false, warned := false }

/-- R41 stage 4: a granted motion enters PREWARN, or STARTING when its axis has no prewarn time. -/
def beginMotion (tag : Nat) (s : State) : State :=
  match s.find tag with
  | none => s
  | some r =>
      let s1 := s.onRecord tag (fun r => { formMarks s r with waitReason := none })
      if 0 < (s.limits r.axis).prewarn then
        prewarnRequest tag r.axis r.dir (s.limits r.axis).prewarn
          (s1.onRecord tag (fun r => { r with state := .prewarn }))
      else enterStarting r s1

/-! ### Step ends and step starts -/

/-- R110: a held SEQUENCE enters PAUSED. -/
def pauseRecord (tag : Nat) (s : State) : State :=
  match s.find tag with
  | none => s
  | some r =>
      let s1 := leaveMotion r s
      let s2 := if r.state = .prewarn then prewarnCancel tag s1 else s1
      s2.onRecord tag (fun r =>
        { r with
          state := .paused, waitReason := none, pendingResult := none, pauseSince := s.clock
          stall := none, overload := none, currentSince := none, stripArmed := false
          seq := r.seq.map (fun q => { q with pause := false }) })

/-- R105 stages 1 to 4 up to the next step start: the record ends, enters PAUSED, or stands uncharged with the
new step index, its step start to follow. A held record that goes from STOPPING to its next step takes the moment as
its last refresh, and so does one that goes to PAUSED there (R93; DESIGN CHOICE, notes/assumptions/35.md). A record
that enters PAUSED at a step not formed yet keeps the axis, target, direction, speed class and draw of the step
before (R114; DESIGN CHOICE, notes/assumptions/36.md). -/
def stepAdvance (tag : Nat) (res : Result) (s : State) : State :=
  match s.find tag with
  | none => s
  | some r =>
      match r.seq with
      | none => s
      | some q =>
          let limited := q.limited || res == .limited
          let s1 := (leaveMotion r s).onRecord tag (fun r =>
            { r with
              state := .waiting, pendingResult := none, waitReason := none, stall := none, overload := none
              currentSince := none, stripArmed := false
              seq := some { q with limited := limited } })
          if (stepsOf s q.number).length ≤ q.index then
            endRecord tag (if limited then .limited else .arrived) s1
          else
            let s2 := s1.onRecord tag (fun r' =>
              { r' with
                lastRefresh := if r.held ∧ r.state = .stopping then s.clock else r'.lastRefresh
                seq := some { q with limited := limited, index := q.index + 1, formed := false } })
            if q.pause then pauseRecord tag s2 else s2

/-- The step start goes on only for a record that R105 left standing uncharged. -/
def between (s : State) (tag : Nat) : Bool :=
  match s.find tag with
  | some r => r.state == .waiting
  | none => false

/-- R103: a step start, with as many further steps as `fuel` allows to be passed over. -/
def stepStart (fuel tag : Nat) (s : State) : State :=
  match fuel with
  | 0 => s
  | fuel + 1 =>
      match s.find tag with
      | none => s
      | some r =>
          match r.seq with
          | none => s
          | some q =>
              match formStep s r q with
              | none => endRecord tag .noReference s
              | some r1 =>
                  let s1 := s.onRecord tag (fun _ => r1)
                  let pass (res : Result) : State :=
                    let s2 := stepAdvance tag res s1
                    if between s2 tag then stepStart fuel tag s2 else s2
                  if !interlocks s1 r1.axis r1.dir r1.source then endRecord tag .interlock s1
                  else if envelopeBlocked s1 r1.axis r1.dir then pass .limited
                  else if s1.positionIs r1.axis false (fun p => withinDeadband s1 r1.axis p r1.target) then
                    pass (if r1.limitMark then .limited else .arrived)
                  else if s1.drawSum + r1.draw ≤ s1.motion.budget then beginMotion tag s1
                  else
                    s1.onRecord tag (fun r =>
                      { r with state := .waiting, waitReason := some .budget, waitSince := s.clock })

/-- A step start may pass over the eight steps of an entry and end at the ninth index. -/
def stepFuel : Nat := 9

/-- R105: a step end. A record that goes on has changed its step: its step start follows, and then the grant attempt
that R39 requires, besides any that the end of the record owes. -/
def stepEnd (tag : Nat) (res : Result) (s : State) : State :=
  let s1 := stepAdvance tag res s
  match s1.find tag with
  | none => s1
  | some _ => (if between s1 tag then stepStart stepFuel tag s1 else s1).oweAttempt

/-- R111: the resume of a PAUSED record. Its one grant attempt stands for that of a step change of its step start too
(R39, R103; DESIGN CHOICE, notes/assumptions/46.md). -/
def resumeRecord (tag : Nat) (s : State) : State :=
  let s1 := s.onRecord tag (fun r => { r with state := .waiting, lastRefresh := s.clock })
  (stepStart stepFuel tag s1).oweAttempt

/-! ### The grant attempt (R39 to R42, R102) -/

/-- What a scan carries: the state, the two marks, and the sequence steps found complete at their grant. -/
structure Scan where
  state : State
  bankMark : Bool
  budgetMark : Bool
  complete : List (Nat × Result)
  deriving DecidableEq, Repr

/-- R41, R102: the result with which a motion is complete at its grant, if it is. -/
def completeAtGrant (s : State) (r : Record) : Option Result :=
  match s.position r.axis with
  | none => none
  | some p =>
      if r.seq.isSome && envelopeBlocked s r.axis r.dir then some .limited
      else if withinDeadband s r.axis p r.target || passed r.dir p r.target then
        some (if r.limitMark then .limited else .arrived)
      else none

/-- R41 stage 1: the wait reason clears and the bank is taken when needed; a SEQUENCE's granted mark sets. -/
def takeGrant (r : Record) (s : State) : State :=
  let s1 := s.onRecord r.tag (fun r =>
    { r with waitReason := none, seq := r.seq.map (fun q => { q with granted := true }) })
  if r.needsBank then s1.onMotion (fun m => { m with bank := some r.tag }) else s1

/-- R41, R102: the grant of a record within a scan. -/
def grantRecord (r : Record) (sc : Scan) (s : State) : Scan :=
  let s1 := takeGrant r s
  match completeAtGrant s r with
  | some res =>
      if r.seq.isSome then { sc with state := s1, complete := sc.complete ++ [(r.tag, res)] }
      else { sc with state := endRecord r.tag res s1 }
  | none => { sc with state := beginMotion r.tag s1 }

/-- R40 stage 1 fails. -/
def bankFails (s : State) (r : Record) (mark : Bool) : Bool :=
  r.needsBank && s.motion.bank != some r.tag && (s.motion.bank.isSome || s.bankWithheld || mark)

/-- R40 stage 2 fails. -/
def budgetFails (s : State) (r : Record) (mark : Bool) : Bool :=
  decide (0 < r.draw) && (decide (s.motion.budget < s.drawSum + r.draw) || mark)

/-- R40: the stages for one formed WAITING record. An end inside the scan frees a bank that the ended SEQUENCE held
between its steps, and the records behind it in the same scan find the bank free (DESIGN CHOICE,
notes/assumptions/33.md). -/
def scanFormed (r : Record) (sc : Scan) (s : State) : Scan :=
  if bankFails s r sc.bankMark then
    { sc with state := s.onRecord r.tag (fun r => { r with waitReason := some .bank }), bankMark := true }
  else if budgetFails s r sc.budgetMark then
    { sc with state := s.onRecord r.tag (fun r => { r with waitReason := some .budget }), budgetMark := true }
  else if !interlocks s r.axis r.dir r.source then { sc with state := endRecord r.tag .interlock s }
  else grantRecord r sc s

/-- R40, R102: one record of the scan. -/
def scanRecord (sc : Scan) (tag : Nat) : Scan :=
  match sc.state.find tag with
  | none => sc
  | some r =>
      if r.state = .waiting then
        match r.seq with
        | none => scanFormed r sc sc.state
        | some q =>
            match formStep sc.state r q with
            | none => { sc with state := endRecord tag .noReference sc.state }
            | some r1 => scanFormed r1 sc (sc.state.onRecord tag (fun _ => r1))
      else sc

/-- One grant attempt: the scan in list order, then the step ends of the steps complete at their grant, in the order in
which the scan came to them, an order that no rule gives (DESIGN CHOICE, notes/assumptions/62.md). -/
def grantAttempt (s : State) : State :=
  let s0 := s.onMotion (fun m => { m with attemptsDue := m.attemptsDue - 1 })
  let sc := s0.tags.foldl scanRecord { state := s0, bankMark := false, budgetMark := false, complete := [] }
  sc.complete.foldl (fun s x => stepEnd x.1 x.2 s) sc.state

/-- The attempts that are owed, one after another, as far as `fuel` allows. -/
def attempts (fuel : Nat) (s : State) : State :=
  match fuel with
  | 0 => s
  | fuel + 1 => if s.motion.attemptsDue = 0 then s else attempts fuel (grantAttempt s)

/-- R39: the grant attempts that follow an event, each its own. What an attempt owes beyond itself it owes for a
record that it ended or a sequence step that it passed, so the fuel, the attempts owed with ten a record and two
more, is not used up. -/
def settle (s : State) : State := attempts (s.motion.attemptsDue + 10 * s.motion.records.length + 2) s

/-- R104: the step of a SEQUENCE in WAITING after its first grant, as formed last, has an interlock that has failed, and
by R104's last sentence that ends it at a sample that found it short of budget, where R40 and R46 let it wait on: whether
it does is free (notes/assumptions/47.md). -/
def failsWaiting (s : State) (r : Record) : Bool :=
  r.state == .waiting && r.seq.any SeqFields.granted && !interlocks s r.axis r.dir r.source
    && Config.endsShortOfBudget

/-- R40, R104: an SC7 sample and a SEQUENCE in WAITING after its first grant whose interlock has failed. The attempt of
the sample has ended one whose budget sufficed at stage 3, as R40 and R46 say; one that it passed over at stage 2, short of
budget, ends INTERLOCK after the attempt where the free value of notes/assumptions/47.md says so, and else waits on. -/
def endFailedSteps (s : State) : State :=
  settle (s.tags.foldl (fun s t => match s.find t with
    | some r => if failsWaiting s r then endRecord t .interlock s else s
    | none => s) s)

end Sys2Proof.Machine
end

