-- ==== Sys2Proof/Machine/Motion.lean ====
section
/-! DEFINITION. Machine/Motion.lean: how a motion runs and stops. Controlled stops and ramp-down (R82 to R84),
stops and holds by state (R94, R96, R108, R116, R126), axis faults (R128, R129), obstruction and reversal
(R90 to R92), and the control update with its approach law (R56, R76 to R79, R86). -/

namespace Sys2Proof.Machine

open Sys2Proof

/-! ### Controlled stops -/

/-- R82, R92: the result of a controlled stop that has reached duty 0: the pending one, but that an envelope stop of a
reversal gives OBSTRUCTED in place of LIMITED. -/
def Record.stopResult (r : Record) : Result :=
  if r.pendingResult = some .limited ∧ r.reversing = true then .obstructed else r.pendingResult.getD .stopped

/-- A controlled stop has reached duty 0 (R84, R92, R105, R106, R109): a SEQUENCE step whose stop gives LIMITED ends as a
step, a pause stop enters PAUSED, and any other record ends with the result of its stop. -/
def finishStop (r : Record) (s : State) : State :=
  let s1 := stageZero r.tag r.axis s
  match r.seq with
  | some q =>
      if r.stopResult = .limited then stepEnd r.tag .limited s1
      else if q.pause then pauseRecord r.tag s1
      else endRecord r.tag r.stopResult s1
  | none => endRecord r.tag r.stopResult s1

/-- R84: one step of the ramp-down of a record in STOPPING. -/
def rampDown (r : Record) (s : State) : State :=
  let d := r.dPrev - (s.limits r.axis).stepDown
  let s1 := (stageOut r.tag d false s (driveOutput r.axis r.dir)).onRecord r.tag (fun r => { r with dPrev := d })
  if d = 0 then finishStop { r with dPrev := 0 } s1 else s1

/-- R83: a record in STARTING or MOVING as it stands once it has entered STOPPING. -/
def Record.stopping (r : Record) (res : Result) (pause : Bool) : Record :=
  { r with
    state := .stopping, pendingResult := some res, stall := none, overload := none, currentSince := none
    seq := r.seq.map (fun q => { q with pause := pause }) }

/-- R83: a controlled stop begun at an event other than a control update. A stop with d_prev 0 is complete. -/
def enterStopping (r : Record) (res : Result) (pause : Bool) (s : State) : State :=
  let r1 := r.stopping res pause
  let s1 := s.onRecord r.tag (fun _ => r1)
  if r.dPrev = 0 then finishStop r1 s1 else s1

/-- R83: a controlled stop begun at a control update, with its first ramp-down step. -/
def stopAtUpdate (r : Record) (res : Result) (s : State) : State :=
  let r1 := r.stopping res false
  rampDown r1 (s.onRecord r.tag (fun _ => r1))

/-- R105, R109: what a stop proper, a supply CUT or a vehicle-moving change does to a record in STOPPING. It takes the
place of LIMITED in the step of a SEQUENCE that is reversing too, where R92 would have the envelope stop give OBSTRUCTED
(DESIGN CHOICE, notes/assumptions/54.md). -/
def overtake (r : Record) (res : Result) : Record :=
  match r.seq with
  | none => r
  | some q =>
      { r with
        pendingResult := if r.pendingResult = some .limited then some res else r.pendingResult
        seq := some { q with pause := false } }

/-- R58, R116, R126: a stop proper, a vehicle-moving change or a supply CUT on one record. -/
def stopProper (res : Result) (r : Record) (s : State) : State :=
  match r.state with
  | .waiting | .prewarn | .paused => endRecord r.tag res s
  | .starting | .moving => enterStopping r res false s
  | .stopping => s.onRecord r.tag (fun r => overtake r res)

/-- A stop on every record in list order, as one event (R58, R117, R126). -/
def stopEvery (res : Result) (s : State) : State :=
  s.asOneEvent (fun s =>
    s.tags.foldl (fun s t => match s.find t with | some r => stopProper res r s | none => s) s)

/-- R94, R96, R108: a hold lapse or a release on one held record. In STOPPING with LIMITED pending, a held SEQUENCE
that is not reversing takes the pause mark as R108 says, where R94, R170 and R177 say that nothing changes (DESIGN CHOICE,
notes/assumptions/39.md). -/
def holdStop (res : Result) (r : Record) (s : State) : State :=
  match r.seq with
  | none =>
      match r.state with
      | .waiting | .prewarn => endRecord r.tag res s
      | .starting | .moving => enterStopping r res false s
      | .stopping | .paused => s
  | some q =>
      match r.state with
      | .waiting => if q.granted then pauseRecord r.tag s else endRecord r.tag res s
      | .prewarn => pauseRecord r.tag s
      | .starting | .moving => enterStopping r res (!r.reversing) s
      | .stopping =>
          if r.pendingResult = some .limited ∧ q.pause = false ∧ r.reversing = false then
            s.onRecord r.tag (fun r => { r with seq := some { q with pause := true } })
          else s
      | .paused => s

/-! ### Axis faults (R128, R129) -/

/-- The fault record of an axis is created and its AXIS_FAULT notice appended. -/
def latchFault (kind : FaultKind) (pos : Option Int) (s : State) (a : Axis) : State :=
  appendNotice (.axisFault a kind)
    (s.onAxis a (fun x =>
      { x with fault := some { kind := kind, position := pos, tag := (s.claimant a).map Record.tag } }))

/-- R129: the records that a latch on these axes ends. -/
def faultVictims (l : List Axis) (s : State) : List Nat :=
  (s.motion.records.filter (fun r =>
    l.any r.claims || (l.any isHydraulic && s.motion.bank == some r.tag))).map Record.tag

/-- R128, R129: a finding on some axes. Those with no fault record latch it, their outputs are held off, and the
records that R129 names end FAULT. `pos` gives the position at fault. -/
def raiseFaults (l : List Axis) (kind : FaultKind) (pos : Axis → Option Int) (s : State) : State :=
  let fresh := l.filter (fun a => !s.faulted a)
  let s1 := fresh.foldl (fun s a => latchFault kind (pos a) s a) s
  let s2 := (fresh.flatMap outputsOf).foldl forceFault s1
  s2.asOneEvent (fun s => (faultVictims fresh s).foldl (cutRecord .fault) s)

/-! ### Obstruction and reversal (R90, R91) -/

/-- R91: a closing door record in MOVING that has met an obstruction at position p. -/
def reverseDoor (r : Record) (p : Int) (s : State) : State :=
  let s1 := immediateStop r s
  let t0 := p + 100
  let t1 := min t0 (s.limits r.axis).high
  let t2 := envelopeClamp s r.axis .inc t1
  let r1 : Record :=
    { r with
      state := .stopping, pendingResult := some .obstructed, dPrev := 0, dir := .inc, target := t2, speed := .slow
      limitMark := t2 != t1, clamped := r.clamped || t2 != t0, stall := none, overload := none, currentSince := none }
  let s2 := s1.onRecord r.tag (fun _ => r1)
  if (r.axis == .rdoor && !(r.road && r.warned)) || withinDeadband s r.axis p t2 || envelopeBlocked s r.axis .inc then
    endRecord r.tag .obstructed s2
  else startRecord r1 true s2

/-- R90: an obstruction of a door. -/
def obstruct (a : Axis) (s : State) : State :=
  match s.mover a with
  | none => s
  | some r =>
      match r.state, r.dir, r.reversing, s.position a with
      | .moving, .dec, false, some p => reverseDoor r p s
      | _, _, _, _ => endRecord r.tag .obstructed (immediateStop r s)

/-! ### The control update -/

/-- R76 stages 3 to 5: the duty from the last staged duty and the distance to target. -/
def approach (dmax : Nat) (l : AxisLimits) (dPrev dist : Nat) : Nat :=
  let ramp := min (dPrev + l.stepUp) dmax
  let taper := if l.approach ≤ dist then dmax else l.dmin + (dmax - l.dmin) * dist / l.approach
  max (min ramp taper) l.dmin

/-- R78: load compensation of a duty at pressure p. -/
def compensate (dmin pRef d : Nat) (p : Int) : Nat :=
  if p ≤ pRef then d else max (d * pRef / p.toNat) dmin

/-- R76 stages 3 to 6 for a record at position p. -/
def dutyFor (s : State) (r : Record) (p : Int) : Nat :=
  let d := approach (dmax s r.axis r.speed) (s.limits r.axis) r.dPrev (r.target - p).natAbs
  if r.axis = .lift ∧ r.dir = .dec then
    compensate (s.limits .lift).dmin s.profile.limits.pRef d (s.sense.pressure.value.getD 0)
  else d

/-- R76 stage 7, R79: the duty on the drive output, 0 on the held-off outputs, d_prev takes the duty. -/
def driveRecord (r : Record) (p : Int) (s : State) : State :=
  let d := dutyFor s r p
  let s1 := stageOut r.tag d false s (driveOutput r.axis r.dir)
  ((heldOff r.axis r.dir).foldl (stageOut r.tag 0 false) s1).onRecord r.tag (fun r => { r with dPrev := d })

/-- R76 stage 1, R92, R105: the record has arrived. -/
def arrive (r : Record) (s : State) : State :=
  let s1 := stageZero r.tag r.axis s
  let res : Result := if r.limitMark then .limited else .arrived
  if r.reversing then endRecord r.tag .obstructed s1
  else if r.seq.isSome then stepEnd r.tag res s1
  else endRecord r.tag res s1

/-- R86: the stall watch of a record at position p at the clock's time: the watch to go on with, or none for
STALL. -/
def stallCheck (s : State) (r : Record) (p : Int) : Option StallWatch :=
  match r.stall with
  | none => some { reference := p, since := s.clock }
  | some w =>
      if (s.limits r.axis).stall ≤ (p - w.reference).natAbs then some { reference := p, since := s.clock }
      else if w.since + Config.stallLimit ≤ s.clock then none
      else some w

/-- R56, R66, R76: the control update of a record in MOVING. -/
def movingUpdate (r : Record) (s : State) : State :=
  match s.position r.axis with
  | none => s
  | some p =>
      if !interlocksMoving s r.axis r.source then stopAtUpdate r .interlock s
      else if withinDeadband s r.axis p r.target || passed r.dir p r.target then arrive r s
      else if envelopeBlocked s r.axis r.dir then stopAtUpdate r .limited s
      else
        match stallCheck s r p with
        | none => raiseFaults [r.axis] .stall s.position s
        | some w => driveRecord r p (s.onRecord r.tag (fun r => { r with stall := some w }))

/-- R9 stage 3: the control update of an axis in MOVING or STOPPING. -/
def controlUpdate (a : Axis) (s : State) : State :=
  match s.mover a with
  | none => s
  | some r =>
      match r.state with
      | .moving => movingUpdate r s
      | .stopping => rampDown r s
      | .starting | .waiting | .prewarn | .paused => s

/-! ### ESTOP, HOLDOFF, vehicle moving and supply -/

/-- R119, R120: an emergency stop cause. A RESTART that waits for its reply is abandoned (R188). -/
def estopCause (c : EstopCause) (s : State) : State :=
  if s.motion.estop then s
  else
    let s1 := (s.onMotion (fun m => { m with estop := true })).onLink (fun l => { l with restarting := false })
    let s2 := appendNotice (.estop c) (driveOuts.foldl forceImmediate s1)
    settle (s2.asOneEvent (fun s => s.tags.foldl (cutRecord .estop) s))

/-- R58, R59: the vehicle-moving condition has become true. -/
def vehicleStarts (s : State) : State := settle (stopEvery .vehicle (appendNotice .vehicleMoving s))

/-- R126: the change from NORMAL to CUT. -/
def cutSupply (s : State) : State :=
  let s1 := s.onMotion (fun m => { m with supply := .cut, lowRun := none, recoveryRun := none })
  settle (stopEvery .supplyLow (appendNotice (.supply .cut s.volts) s1))

/-- R125: the change from CUT to NORMAL. -/
def restoreSupply (s : State) : State :=
  appendNotice (.supply .normal s.volts)
    (s.onMotion (fun m => { m with supply := .normal, lowRun := none, recoveryRun := none }))

/-- R125: the supply state judged at an SC7 sample, with or without a value. -/
def judgeSupply (v? : Option Int) (s : State) : State :=
  match v?, s.motion.supply with
  | none, _ => s.onMotion (fun m => { m with lowRun := none, recoveryRun := none })
  | some v, .normal =>
      if v < Config.cutBelow then
        match s.motion.lowRun with
        | none => s.onMotion (fun m => { m with lowRun := some s.clock })
        | some t => if t + Config.lowRunLimit ≤ s.clock then cutSupply s else s
      else s.onMotion (fun m => { m with lowRun := none })
  | some v, .cut =>
      if Config.recoverFrom ≤ v then
        match s.motion.recoveryRun with
        | none => s.onMotion (fun m => { m with recoveryRun := some s.clock })
        | some t => if t + Config.recoveryRunLimit ≤ s.clock then restoreSupply s else s
      else s.onMotion (fun m => { m with recoveryRun := none })

/-- R87: the overload watch at an SC6 sample. -/
def judgeOverload (v? : Option Int) (s : State) : State :=
  match s.mover .lift with
  | none => s
  | some r =>
      if r.state = .moving ∧ r.dir = .inc then
        match v?, r.overload with
        | some v, none =>
            if (s.profile.limits.pMax : Int) < v then s.onRecord r.tag (fun r => { r with overload := some s.clock })
            else s
        | some v, some t =>
            if (s.profile.limits.pMax : Int) < v then
              (if t + Config.overloadLimit ≤ s.clock then enterStopping r .overload false s else s)
            else s.onRecord r.tag (fun r => { r with overload := none })
        | none, _ => s.onRecord r.tag (fun r => { r with overload := none })
      else s

end Sys2Proof.Machine
end

