-- ==== Sys2Proof/Machine/DriveUnit.lean ====
section
/-! DEFINITION. Machine/DriveUnit.lean: the Drive Unit's periods. Period boundaries with their readings and checks
(R138, R143, R145 to R147, R89), period centres with the echo check (R148), and the findings delivered to the Motion
Sequencer and the Beacon Unit (R127, R161). -/

namespace Sys2Proof.Machine

open Sys2Proof

/-! ### Findings -/

/-- R61: a B2 lamp-fault latch clears the road mark of an RDOOR record in PREWARN. -/
def loseRoadMarks (s : State) : State :=
  s.onMotion (fun m =>
    { m with records := m.records.map (fun r =>
        if r.state = .prewarn ∧ r.axis = .rdoor then { r with road := false } else r) })

/-- R161: a finding on a lamp output. -/
def lampFinding (l : Lamp) (k : LampFault) (s : State) : State :=
  if s.lampFaulted l then s
  else
    let s1 := s.onLamp l (fun b => { b with fault := some k })
    appendNotice (.beaconFault l k) (if l = .b2 then loseRoadMarks s1 else s1)

/-- R127: a finding on a drive output latches on each axis of which it is an output. -/
def driveFinding (o : DriveOut) (k : FaultKind) (s : State) : State :=
  settle (raiseFaults (axesOf o) k s.position s)

/-- R147: OPEN is reported and the count returns to 0. -/
def reportOpen (o : Output) (s : State) : State :=
  match o with
  | .drive o => driveFinding o .loadOpen (s.onOut o (fun r => { r with openCount := 0 }))
  | .lamp l => lampFinding l .open (s.onLampOut l (fun r => { r with openCount := 0 }))

/-- R148: the third mismatch in a row is the latest echo; ECHO is reported and the count returns to 0. -/
def reportEcho (o : Output) (s : State) : State :=
  match o with
  | .drive o => driveFinding o .echo (s.onOut o (fun r => { r with echoMatch := false, echoCount := 0 }))
  | .lamp l => lampFinding l .echo (s.onLampOut l (fun r => { r with echoMatch := false, echoCount := 0 }))

/-- R146: a SHORT finding on a drive output forces it off before it is reported. -/
def reportShort (o : DriveOut) (s : State) : State := driveFinding o .loadShort (forceFault s o)

/-- R146, R161: a SHORT finding on a lamp output. -/
def reportLampShort (l : Lamp) (s : State) : State :=
  lampFinding l .short ((driveLamp l 0 s).onLampOut l (fun r => { r with shortForce := true }))

def execOpenFinding (o : Output) (s : State) : Host.Outcome State Fault Refusal := .next (reportOpen o s)

def execEchoFinding (o : Output) (s : State) : Host.Outcome State Fault Refusal := .next (reportEcho o s)

/-! ### The duty at a boundary (R138, R143) -/

/-- R138 stages 1 and 2: what a boundary does to an output's duty and phase. -/
def applyStaged (o : DriveOut) (hold : Nat) (r : DriveRecord) : DriveRecord :=
  if r.updatePending then
    let r1 := { r with active := r.staged, updatePending := false }
    if isDirectional o then
      if r.hitMark then { r1 with phase := .hit, hitCount := 0, hitMark := false }
      else if r.staged = 0 then { r1 with phase := .off }
      else r1
    else r1
  else if isDirectional o && r.phase == .hit then
    if Config.hitPeriods ≤ r.hitCount + 1 then { r with hitCount := Config.hitPeriods, active := hold, phase := .hold }
    else { r with hitCount := r.hitCount + 1 }
  else r

/-- R146, R147: the on-time and the Dmin timer across a boundary. `dmin` is present for a bridge half. -/
def runTimers (o : DriveOut) (dmin : Option Nat) (old new : DriveRecord) : DriveRecord :=
  { new with
    onTime :=
      if new.active = 0 then none
      else if old.active = 0 then some 0
      else old.onTime.map (· + periodTime o)
    dminTimer :=
      match dmin with
      | none => none
      | some d =>
          if new.active < d then none
          else match old.dminTimer with
            | none => some 0
            | some t => some (t + periodTime o) }

/-- R147: Dmin of the door of a bridge half. -/
def dminOf (s : State) (o : DriveOut) : Option Nat :=
  match o with
  | .do7 | .do8 => some (s.limits .kdoor).dmin
  | .do9 | .do10 => some (s.limits .rdoor).dmin
  | .do0 | .do1 | .do2 | .do3 | .do4 | .do5 | .do6 => none

/-- R147: an output's open window stands open. -/
def windowOpen (o : DriveOut) (onTime dminTimer : Option Nat) : Bool :=
  if isBridge o then
    match dminTimer with
    | some t => Config.bridgeOpenWindow ≤ t
    | none => false
  else
    match onTime with
    | some t => Config.loadBlank ≤ t
    | none => false

/-- R138, R145 to R147: an output's record as the new period begins. -/
def boundaryOut (s : State) (o : DriveOut) : State :=
  s.onOut o (fun r =>
    { runTimers o (dminOf s o) r (applyStaged o s.profile.limits.holdDuty r) with
      lowFrom := r.lowAfterBoundary o s.clock, conducted := false })

/-- R143: a half whose duty would newly become non-zero. -/
def DriveRecord.newlyOn (r : DriveRecord) : Bool := r.updatePending && r.staged != 0 && r.active == 0

/-- R143: a half that is to have a non-zero active duty in the period about to begin. -/
def DriveRecord.nextOn (r : DriveRecord) : Bool := if r.updatePending then r.staged != 0 else r.active != 0

/-- R143: the guard on one half against its partner. -/
def guardHalf (partner : DriveRecord) (r : DriveRecord) : DriveRecord :=
  if r.newlyOn && partner.nextOn then { r with staged := 0 } else r

/-- R143: the guard on the two halves of a bridge, both judged on the values before it. -/
def guardPair (s : State) (a b : DriveOut) : State :=
  let ra := s.drive.out.get a
  let rb := s.drive.out.get b
  (s.onOut a (guardHalf rb)).onOut b (guardHalf ra)

/-! ### Readings and their checks (R145 to R147, R89) -/

/-- R145: the reading taken at a boundary. -/
def readingOf (conducted : Bool) (x : Sense) : Nat :=
  if conducted then x.current else if x.shorted then Config.shortedReading else 0

/-- R146: the on-time has passed its blanking. -/
def pastBlank (onTime : Option Nat) : Bool :=
  match onTime with
  | some t => Config.loadBlank ≤ t
  | none => false

/-- R89: the door current watch takes a reading of a bridge half. -/
def doorCurrent (o : DriveOut) (reading : Nat) (a : Axis) (s : State) : State :=
  match s.mover a with
  | none => s
  | some r =>
      if driveOutput r.axis r.dir = o ∧ (r.state = .starting ∨ r.state = .moving) then
        if s.profile.limits.doorCurrent < reading then
          match r.currentSince with
          | none => s.onRecord r.tag (fun r => { r with currentSince := some s.clock })
          | some t => if t + Config.doorCurrentLimit ≤ s.clock then settle (obstruct a s) else s
        else s.onRecord r.tag (fun r => { r with currentSince := none })
      else s

/-- R89: the door of a bridge half. -/
def doorOf : DriveOut → Option Axis
  | .do7 | .do8 => some .kdoor
  | .do9 | .do10 => some .rdoor
  | .do0 | .do1 | .do2 | .do3 | .do4 | .do5 | .do6 => none

/-- R147: the open check on one reading, against the record of the period just ended. -/
def openCheck (o : DriveOut) (old : DriveRecord) (reading : Nat) (s : State) : State :=
  let new := s.drive.out.get o
  let keep (n : Nat) : Nat := if windowOpen o new.onTime new.dminTimer then n else 0
  if old.conductedAll o
      && windowOpen o (old.onTime.map (· + periodTime o)) (old.dminTimer.map (· + periodTime o)) then
    if reading < (Builtin.driveThresholds o).openBelow then
      if 2 ≤ old.openCount then reportOpen (.drive o) s
      else s.onOut o (fun r => { r with openCount := keep (old.openCount + 1) })
    else s.onOut o (fun r => { r with openCount := 0 })
  else s.onOut o (fun r => { r with openCount := keep r.openCount })

/-- R145 to R147, R89: the reading of a drive output at a boundary. `s0` is the state before the boundary. An output that
conducted before it was forced off within the period takes an on-state reading (DEDUCED, notes/assumptions/48.md), on
which its stopped on-time lets no check be made. -/
def judgeDrive (s0 : State) (s : State) (x : DriveOut × Sense) : State :=
  let o := x.1
  let old := s0.drive.out.get o
  let conducted := old.conductedAll o
  let reading := readingOf conducted x.2
  let s1 := s.onOut o (fun r => { r with reading := reading })
  let short := conducted && pastBlank (old.onTime.map (· + periodTime o))
    && decide ((Builtin.driveThresholds o).shortAbove < reading)
  let s2 := if short then reportShort o s1 else openCheck o old reading s1
  match doorOf o with
  | some a => doorCurrent o reading a s2
  | none => s2

/-- R138, R145: a boundary of one time base, after R143 where the base is the bridge base. -/
def driveBoundary (xs : List (DriveOut × Sense)) (s : State) : State :=
  xs.foldl (judgeDrive s) ((xs.map Prod.fst).foldl boundaryOut s)

/-- R145 to R147: the reading of a lamp output at a lamp boundary, which ends a period that began at `base`. The on-time
takes a whole period, also for a lamp lit within it by a release of HOLDOFF (DESIGN CHOICE, notes/assumptions/37.md). -/
def judgeLampReading (base : Nat) (s : State) (x : Lamp × Sense) : State :=
  let l := x.1
  let old := s.drive.lamp.get l
  let on := old.onTime.map (· + Config.lampPeriod)
  let conducted := old.conductedBy base s.clock
  let reading := readingOf conducted x.2
  let s1 := s.onLampOut l (fun r =>
    { r with reading := reading, onTime := on, conducted := false, drivenFrom := s.clock })
  if conducted && pastBlank on then
    if Builtin.lampThresholds.shortAbove < reading then reportLampShort l s1
    else if reading < Builtin.lampThresholds.openBelow then
      if 2 ≤ old.openCount then reportOpen (.lamp l) s1
      else s1.onLampOut l (fun r => { r with openCount := old.openCount + 1 })
    else s1.onLampOut l (fun r => { r with openCount := 0 })
  else s1

/-- R138: a period boundary of one time base, with the senses of its outputs. -/
def execPeriodBoundary (r : Readings) (s : State) : Host.Outcome State Fault Refusal :=
  match r with
  | .pump d0 =>
      let t := nextMultiple Config.pumpPeriod s.drive.pumpBase s.clock
      .next (driveBoundary [(.do0, d0)] ((s.upTo t).onDrive (fun d => { d with pumpBase := t })))
  | .valve d1 d2 d3 d4 d5 d6 =>
      let t := nextMultiple Config.valvePeriod s.drive.valveBase s.clock
      .next (driveBoundary [(.do1, d1), (.do2, d2), (.do3, d3), (.do4, d4), (.do5, d5), (.do6, d6)]
        ((s.upTo t).onDrive (fun d => { d with valveBase := t })))
  | .bridge d7 d8 d9 d10 =>
      let t := nextMultiple Config.bridgePeriod s.drive.bridgeBase s.clock
      let s1 := (s.upTo t).onDrive (fun d => { d with bridgeBase := t })
      .next (driveBoundary [(.do7, d7), (.do8, d8), (.do9, d9), (.do10, d10)]
        (guardPair (guardPair s1 .do7 .do8) .do9 .do10))
  | .lamp l0 l1 l2 l3 =>
      let t := nextMultiple Config.lampPeriod s.drive.lampBase s.clock
      .next ([(Lamp.b0, l0), (.b1, l1), (.b2, l2), (.b3, l3)].foldl (judgeLampReading s.drive.lampBase)
        ((s.upTo t).onDrive (fun d => { d with lampBase := t })))

/-- R80, R138 stage 2: the 20th boundary of a hit with no staged duty waiting. -/
def execHitPhaseEnd (o : DriveOut) (s : State) : Host.Outcome State Fault Refusal :=
  let r := s.drive.out.get o
  if isDirectional o && r.phase == .hit && !r.updatePending then
    .next ((s.upTo (nextMultiple Config.valvePeriod s.drive.valveBase s.clock)).onOut o (fun r =>
      { r with hitCount := Config.hitPeriods, active := s.profile.limits.holdDuty, phase := .hold }))
  else .next s

/-- R89: a bridge-half current above the door limit has lasted 100 ms on a door record in STARTING or MOVING. -/
def execDoorCurrentObstruction (a : Axis) (s : State) : Host.Outcome State Fault Refusal :=
  match s.mover a with
  | none => .next s
  | some r =>
      if !isHydraulic a && (r.state == .starting || r.state == .moving) then
        let s1 := match r.currentSince with
          | some t => s.upTo (t + Config.doorCurrentLimit)
          | none => s
        .next (settle (obstruct a s1))
      else .next s

/-! ### The echo check (R148) -/

/-- R148: the echo count after one comparison; a report takes it back to 0. -/
def echoNext (count : Nat) (isMatch : Bool) : Nat := if isMatch ∨ 2 ≤ count then 0 else count + 1

/-- R148: the comparison is the third mismatch in a row. -/
def echoReports (count : Nat) (isMatch : Bool) : Bool := !isMatch && decide (2 ≤ count)

/-- R148: whether an output's pin agrees with its command at clock value t; absent where it is not compared. -/
def driveAgrees (s : State) (t : Nat) (x : DriveOut × Bool) : Option Bool :=
  (commandAt x.1 (s.drive.baseOf x.1) t (s.drive.out.get x.1)).map (fun c => c == x.2)

/-- R148: whether a lamp output's pin agrees with its drive at the centre of its period. -/
def lampAgrees (s : State) (x : Lamp × Bool) : Bool := lampOnAt (s.drive.lamp.get x.1).duty 4000 == x.2

/-- R148: the comparison of one drive output's pin. -/
def compareDrive (t : Nat) (s : State) (x : DriveOut × Bool) : State :=
  match driveAgrees s t x with
  | none => s
  | some m => s.onOut x.1 (fun r => { r with echoMatch := m, echoCount := echoNext r.echoCount m })

/-- R148: the comparison of one lamp output's pin. -/
def compareLamp (s : State) (x : Lamp × Bool) : State :=
  s.onLampOut x.1 (fun r =>
    { r with echoMatch := lampAgrees s x, echoCount := echoNext r.echoCount (lampAgrees s x) })

/-- R148: the outputs whose comparison at a centre is a third mismatch. -/
def driveReports (s : State) (t : Nat) (xs : List (DriveOut × Bool)) : List DriveOut :=
  (xs.filter (fun x => (driveAgrees s t x).any (echoReports (s.drive.out.get x.1).echoCount))).map Prod.fst

def lampReports (s : State) (xs : List (Lamp × Bool)) : List Lamp :=
  (xs.filter (fun x => echoReports (s.drive.lamp.get x.1).echoCount (lampAgrees s x))).map Prod.fst

/-- R148: the centre of a period of one time base. Every pin is compared with what its output commands at that
instant, and then the third mismatches are reported in output order, each report settled before the next, an order that
no rule gives (DESIGN CHOICE, notes/assumptions/56.md). -/
def driveCentre (t : Nat) (xs : List (DriveOut × Bool)) (s : State) : State :=
  (driveReports s t xs).foldl (fun s o => driveFinding o .echo s) (xs.foldl (compareDrive t) (s.upTo t))

/-- R148, R161: the centre of a lamp period, in the same order (notes/assumptions/56.md). -/
def lampCentre (t : Nat) (xs : List (Lamp × Bool)) (s : State) : State :=
  (lampReports s xs).foldl (fun s l => lampFinding l .echo s) (xs.foldl compareLamp (s.upTo t))

/-- R148: a period centre of one time base, with the pin levels of its outputs. -/
def execPeriodCentre (p : Levels) (s : State) : Host.Outcome State Fault Refusal :=
  match p with
  | .pump d0 => .next (driveCentre (s.drive.pumpBase + Config.pumpPeriod / 2) [(.do0, d0)] s)
  | .valve d1 d2 d3 d4 d5 d6 =>
      .next (driveCentre (s.drive.valveBase + Config.valvePeriod / 2)
        [(.do1, d1), (.do2, d2), (.do3, d3), (.do4, d4), (.do5, d5), (.do6, d6)] s)
  | .bridge d7 d8 d9 d10 =>
      .next (driveCentre (s.drive.bridgeBase + Config.bridgePeriod / 2)
        [(.do7, d7), (.do8, d8), (.do9, d9), (.do10, d10)] s)
  | .lamp l0 l1 l2 l3 =>
      .next (lampCentre (s.drive.lampBase + Config.lampPeriod / 2) [(.b0, l0), (.b1, l1), (.b2, l2), (.b3, l3)] s)

end Sys2Proof.Machine
end

