-- ==== Sys2Proof/Machine/BeaconUnit.lean ====
section
/-! DEFINITION. Machine/BeaconUnit.lean: the Beacon Unit. Conditions and the configured pattern (R151 to R153),
the levels of R154, the prewarn timers (R155, R70), overrides (R157, R158), dimming (R159) and the lamp test
(R160). -/

namespace Sys2Proof.Machine

open Sys2Proof

/-! ### Conditions (R151) -/

/-- Some record in STARTING, MOVING or STOPPING has a current motion on an axis that p picks. -/
def State.moving (s : State) (p : Axis → Bool) : Bool := s.motion.records.any (fun r => r.inMotion && p r.axis)

/-- R151: some axis has a fault record, or some channel a lamp fault. -/
def State.anyFault (s : State) : Bool := axes.any s.faulted || lamps.any s.lampFaulted

/-- R151: a condition as the state stands. -/
def conditionHolds (s : State) : Condition → Bool
  | .off => false
  | .on => true
  | .anyMotion => s.moving (fun _ => true)
  | .hydMotion => s.moving isHydraulic
  | .doorMotion => s.moving isDoor
  | .deployed => s.deployed
  | .kdoorOpen => s.doorOpen .kdoor
  | .rdoorOpen => s.doorOpen .rdoor
  | .notStowed => !s.stowed
  | .anyFault => s.anyFault

/-- A channel's configuration in the profile handed out. -/
def beaconConfig (s : State) (l : Lamp) : BeaconConfig := s.profile.beacons.channel.get l

/-- R153: the condition that a channel's stretch timer serves. -/
def stretchCondition (s : State) (l : Lamp) : Bool :=
  let k := beaconConfig s l
  conditionHolds s (if k.combine then k.secondary else k.primary)

/-! ### Blinking (R150) -/

/-- R150: the periods of a rate's cycle, and those of its lit part. -/
def blinkCycle : Rate → Nat × Nat
  | .hz1 => (1000, 500)
  | .hz2 => (500, 250)
  | .hz4 => (250, 125)
  | .hz8 => (125, 63)

/-- R150: the lit part of a rate's cycle at the blink clock. -/
def blinkLit (rate : Rate) (clock : Nat) : Bool := clock % (blinkCycle rate).1 < (blinkCycle rate).2

/-! ### Levels (R154) -/

/-- R155: the channel belongs to some prewarn entry's set. -/
def inPrewarn (s : State) (l : Lamp) : Bool := s.beacon.prewarn.any (fun e => e.set.get l)

def lampTestRunning (s : State) : Bool :=
  match s.beacon.test with
  | .running _ => true
  | .notRun => false
  | .over => false

/-- R154: the highest level in force below HOLDOFF. Levels 3 to 8 are judged from the first lamp boundary after
LOADING ends. -/
def levelBelow (s : State) (l : Lamp) : Option Level :=
  if s.motion.estop then some .estop
  else if s.store.mode = .loading ∨ s.beacon.judged = false then none
  else if inPrewarn s l then some .prewarn
  else if l = .b2 ∧ s.doorOpen .rdoor then some .road
  else if l = .b0 ∧ s.vehicleMoving ∧ !s.stowed then some .vehicle
  else if (s.beacon.channel.get l).override.isSome then some .override
  else if s.store.mode = .run then some .configuration
  else if lampTestRunning s then some .lampTest
  else none

/-- R154: the level in force. -/
def levelOf (s : State) (l : Lamp) : Option Level := if s.pins.holdoff then some .holdoff else levelBelow s l

/-- R152: the configured lit phase. -/
def configuredLit (s : State) (l : Lamp) : Bool :=
  let k := beaconConfig s l
  let primary := conditionHolds s k.primary
  let blink := blinkLit s.profile.beacons.rate s.beacon.blink
  let window := stretchCondition s l || decide (0 < (s.beacon.channel.get l).stretch)
  match k.combine, k.pattern with
  | false, .steady => primary
  | false, .blink => primary && blink
  | false, .stretch => window
  | true, .steady => primary
  | true, .blink => primary && (!conditionHolds s k.secondary || blink)
  | true, .stretch => primary || window

/-- R158: an override's lit phase. -/
def overrideLit (s : State) (b : Beacon) : Bool :=
  match b.override with
  | none => false
  | some o =>
      match o.pattern with
      | .off => false
      | .on => true
      | .blink => blinkLit s.profile.beacons.rate s.beacon.blink
      | .stretch => 0 < b.pulse

/-- R160: the lamp test's lit phase in its nth period. -/
def testLit (n : Nat) : Bool := n / Config.lampTestPhase % 2 = 0

/-- R154: the lit phase of a level on a channel. -/
def levelLit (s : State) (l : Lamp) : Option Level → Bool
  | none => false
  | some .holdoff => false
  | some .estop => blinkLit .hz8 s.beacon.blink
  | some .prewarn => blinkLit .hz4 s.beacon.blink
  | some .road => blinkLit .hz4 s.beacon.blink
  | some .vehicle => true
  | some .override => overrideLit s (s.beacon.channel.get l)
  | some .configuration => configuredLit s l
  | some .lampTest => match s.beacon.test with
      | .running n => testLit (n - 1)
      | .notRun => false
      | .over => false

/-- R150, R159: the duty of a lit phase at a level. -/
def litDuty (s : State) (level : Option Level) : Nat :=
  if (level = some .override ∨ level = some .configuration) ∧ s.input .night ∧ s.profile.beacons.dim then 250 else 1000

/-- R150: the duty that drives a channel's output; the forces of HOLDOFF and of a lamp SHORT hold it off. -/
def lampDuty (s : State) (l : Lamp) (level : Option Level) : Nat :=
  if (s.drive.lamp.get l).shortForce || s.pins.holdoff then 0
  else if levelLit s l level then litDuty s level
  else 0

/-- R154: a channel's level and lit phase worked out as the state stands, and its output driven. -/
def judgeLamp (l : Lamp) (s : State) : State :=
  let level := levelOf s l
  let lit := levelLit s l level
  let d := lampDuty s l level
  driveLamp l d (s.onLamp l (fun b => { b with level := level, lit := lit }))

/-! ### The lamp boundary -/

/-- R195: lamp-test-complete takes the device mode from LAMPTEST to RUN. -/
def lampTestDone (s : State) : State :=
  (s.onBeacon (fun b => { b with test := .over })).onStore (fun st => { st with mode := .run })

/-- R160: the lamp test's own count of periods. -/
def testBoundary (s : State) : State :=
  match s.beacon.test with
  | .running n =>
      if n < Config.lampTestPeriods then s.onBeacon (fun b => { b with test := .running (n + 1) })
      else lampTestDone s
  | .notRun => s
  | .over => s

/-- R157: an override's remaining time falls by 1 ms; at 0 the override is removed. -/
def overrideBoundary (b : Beacon) : Beacon :=
  match b.override with
  | some { pattern := p, remaining := some n } =>
      if n ≤ 1 then { b with override := none, pulse := 0, shown := false }
      else { b with override := some { pattern := p, remaining := some (n - 1) } }
  | some { pattern := _, remaining := none } => b
  | none => b

/-- R153: the stretch timer at a boundary. -/
def stretchBoundary (s : State) (l : Lamp) (b : Beacon) : Beacon :=
  if s.store.mode ≠ .loading ∧ (beaconConfig s l).pattern = .stretch then
    { b with stretch := if stretchCondition s l then s.profile.beacons.stretch else b.stretch - 1 }
  else { b with stretch := 0 }

/-- R158: the pulse timer of a STRETCH override at a boundary whose level is given. -/
def pulseBoundary (length : Nat) (level : Option Level) (b : Beacon) : Beacon :=
  match b.override with
  | some { pattern := .stretch, remaining := _ } =>
      if level = some .override then
        (if b.shown then { b with pulse := b.pulse - 1 } else { b with pulse := length, shown := true })
      else { b with pulse := 0, shown := false }
  | some { pattern := _, remaining := _ } => { b with pulse := 0, shown := false }
  | none => { b with pulse := 0, shown := false }

/-- R150 to R159: one channel at a lamp boundary. -/
def lampBoundary (s : State) (l : Lamp) : State :=
  let s1 := s.onLamp l (fun b => stretchBoundary s l (overrideBoundary b))
  judgeLamp l (s1.onLamp l (pulseBoundary s.profile.beacons.stretch (levelOf s1 l)))

/-- R154: the lamp boundary. The blink clock counts it, the lamp test takes it, and the four channels are worked
out. -/
def execLampBoundary (s : State) : Host.Outcome State Fault Refusal :=
  let t := nextMultiple Config.lampPeriod s.beacon.base s.clock
  let s1 := (s.upTo t).onBeacon (fun b =>
    { b with base := t, blink := (b.blink + 1) % 1000, judged := b.judged || s.store.mode != .loading })
  .next (lamps.foldl lampBoundary (testBoundary s1))

/-- R160: the lamp test ends. -/
def execLampTestComplete (s : State) : Host.Outcome State Fault Refusal :=
  match s.store.mode with
  | .lampTest => .next (lampTestDone s)
  | .loading => .next s
  | .run => .next s

/-- R153: a channel's stretch timer, no longer served by its condition, falls to 0. The lamp takes it up at the lamp
boundary (R150, notes/assumptions/14.md). -/
def execStretchTimerExpiry (l : Lamp) (s : State) : Host.Outcome State Fault Refusal :=
  if 0 < (s.beacon.channel.get l).stretch ∧ !stretchCondition s l then
    .next (s.onLamp l (fun b => { b with stretch := 0 }))
  else .next s

/-- R158: a STRETCH override's pulse timer reaches 0. The lamp takes it up at the lamp boundary (R150). -/
def execOverridePulseExpiry (l : Lamp) (s : State) : Host.Outcome State Fault Refusal :=
  if 0 < (s.beacon.channel.get l).pulse then
    .next (s.onLamp l (fun b => { b with pulse := 0 }))
  else .next s

/-- R157: an override's remaining time reaches 0 and the override is removed. The channel's level is judged afresh at
the lamp boundary (R150). -/
def execOverrideExpiry (l : Lamp) (s : State) : Host.Outcome State Fault Refusal :=
  match (s.beacon.channel.get l).override with
  | some { pattern := _, remaining := some _ } =>
      .next (s.onLamp l (fun b => { b with override := none, pulse := 0, shown := false }))
  | some { pattern := _, remaining := none } => .next s
  | none => .next s

/-- R123, R154: HOLDOFF is released: the drive forces lift, and each lamp takes its level at once. A STRETCH override
that is let go mid-period is dark until the next lamp boundary, at which its pulse begins (R158; the spec gives no
pulse between boundaries: DESIGN CHOICE, notes/assumptions/38.md). NIGHT, the dim enable and the configuration are read
as they stand at the release, where R149 and R159 have a change of them act at the next boundary (DESIGN CHOICE,
notes/assumptions/49.md). So is the SHORT hold: a lamp whose SHORT was cleared in the same lamp period is driven at the
release, where R162 has it lit from the next boundary (DESIGN CHOICE, notes/assumptions/58.md). -/
def releaseHoldoff (s : State) : State :=
  let s1 := s.onPins (fun p => { p with holdoff := false, holdoffLow := none })
  lamps.foldl (fun s l => judgeLamp l s) (driveOuts.foldl liftHoldoff s1)

/-- R20: HOLDOFF has been low for 20 ms without a break. -/
def execHoldoffReleased (s : State) : Host.Outcome State Fault Refusal :=
  match s.pins.holdoffLow with
  | some t => if s.pins.holdoff then .next (releaseHoldoff (s.upTo (t + Config.filterTime))) else .next s
  | none => .next s

/-! ### The prewarn timer (R155, R70) -/

/-- R70: prewarn-complete for a record in PREWARN. -/
def prewarnComplete (r : Record) (s : State) : State :=
  let s1 := if r.axis = .rdoor then s.onRecord r.tag (fun r => { r with warned := true }) else s
  if !interlocksPrewarnEnd s1 r then endRecord r.tag .interlock s1
  else if envelopeBlocked s1 r.axis r.dir then
    (if r.seq.isSome then stepEnd r.tag .limited s1 else endRecord r.tag .limited s1)
  else enterStarting r s1

/-- R155: the prewarn-complete event acts on a record in PREWARN whose motion is the one the timer served. -/
def prewarnEvent (tag : Nat) (t : PrewarnTimer) (s : State) : State :=
  match s.find tag with
  | none => s
  | some r =>
      if r.state = .prewarn ∧ r.axis = t.axis ∧ r.dir = t.dir then settle (prewarnComplete r s) else s

/-- R155: a prewarn entry's timer reaches 0. -/
def execPrewarnTimerExpiry (tag : Nat) (s : State) : Host.Outcome State Fault Refusal :=
  match (s.beacon.prewarn.find? (fun e => e.tag = tag)).bind PrewarnEntry.timer with
  | none => .next s
  | some t => .next (prewarnEvent tag t (prewarnCancel tag (s.upTo (t.began + t.time * Config.ms))))

end Sys2Proof.Machine
end

