-- ==== Sys2Proof/Machine/Request.lean ====
section
/-! DEFINITION. Machine/Request.lean: motion requests. Forming the first motion (R31, R34), the acceptance
checks (R28, R101), acceptance and amendment (R27, R29, R30, R23, R24), refreshes and resumes (R93, R111), and
the timers of records (R43, R94, R112). -/

namespace Sys2Proof.Machine

open Sys2Proof

/-- What a motion request asks for. -/
inductive Demand
  | move (a : Axis) (target : Int) (sp : Speed)
  | jog (a : Axis) (d : Dir) (sp : Speed)
  | sequence (n : Nat) (held : Bool)
  deriving DecidableEq, Repr

/-- A motion request: CAB's own tag, or the pendant's station (R26, R27). -/
structure Request where
  tag : Option Nat
  source : Role
  station : Option Nat
  demand : Demand
  deriving DecidableEq, Repr

/-! ### The first motion (R31, R34) -/

/-- R23, R25: a record as acceptance makes it, before its motion is formed. -/
def blankRecord (s : State) (rq : Request) (kind : RecordKind) (a : Axis) (d : Dir) (sp : Speed) (held : Bool) :
    Record where
  tag := rq.tag.getD 0
  source := rq.source
  station := rq.station
  kind := kind
  axis := a
  target := 0
  limitMark := false
  dir := d
  speed := lowered s rq.source sp
  clamped := false
  degraded := lowered s rq.source sp != sp
  held := held
  lastRefresh := s.clock
  arrival := s.motion.arrivals
  state := .waiting
  waitReason := none
  draw := drawOf s a d
  pendingResult := none
  waitSince := s.clock
  pauseSince := 0
  dPrev := 0
  road := false
  warned := false
  stall := none
  overload := none
  stripArmed := false
  currentSince := none
  reversing := false
  seq := none

/-- R34: a record takes a requested target with both clamps; CLAMPED is set when either moved it. -/
def Record.withTarget (r : Record) (s : State) (requested : Int) : Record :=
  let t1 := travelClamp s r.axis requested
  let t2 := envelopeClamp s r.axis r.dir t1
  { r with target := t2, limitMark := t2 != t1, clamped := t1 != requested || t2 != t1 }

/-- R31: a MOVE's direction, taken before any clamp. -/
def moveDir (s : State) (a : Axis) (target : Int) : Dir :=
  match s.position a with
  | some p => if p ≤ target then .inc else .dec
  | none => .inc

/-- R31: a JOG's target before the envelope clamp. -/
def travelEnd (s : State) (a : Axis) : Dir → Int
  | .inc => (s.limits a).high
  | .dec => (s.limits a).low

/-- R100: the fields of a SEQUENCE record at acceptance. -/
def seqFields (n : Nat) (steps : List Step) : SeqFields where
  number := n
  index := 1
  claimed := .ofFn (fun a => steps.any (fun st => st.axis == a))
  needsBank := steps.any (fun st => isHydraulic st.axis)
  limited := false
  pause := false
  granted := false
  formed := false

/-- The record that a request would become, and whether its first motion could be formed (R31). -/
structure Formed where
  record : Record
  formable : Bool
  deriving DecidableEq, Repr

/-- R100, R101: a SEQUENCE record with its first step formed. When a LEVEL target cannot be formed, the step's
axis stands with no target; nothing reads the others before R102 forms the step again. -/
def formSequence (s : State) (rq : Request) (n : Nat) (held : Bool) (first : Step) : Formed :=
  let q := seqFields n (stepsOf s n)
  let r0 : Record :=
    { blankRecord s rq .sequence first.axis .inc first.speed held with degraded := false, seq := some q }
  match formStep s r0 q with
  | some r1 => { record := r1, formable := true }
  | none => { record := r0, formable := false }

/-- R31: the record of a request with its first motion formed; absent for a sequence with no steps (R28). -/
def formRequest (s : State) (rq : Request) : Option Formed :=
  match rq.demand with
  | .move a target sp =>
      some { record := (blankRecord s rq .move a (moveDir s a target) sp false).withTarget s target, formable := true }
  | .jog a d sp =>
      some { record := (blankRecord s rq .jog a d sp true).withTarget s (travelEnd s a d), formable := true }
  | .sequence n held =>
      match stepsOf s n with
      | [] => none
      | first :: _ => some (formSequence s rq n held first)

/-! ### The acceptance checks (R28) -/

/-- R32: the permission of check 6. -/
def permitted (s : State) (r : Record) : Bool :=
  axes.all (fun a =>
    !r.claims a || (match r.kind with
      | .move => mayTarget s r.source a
      | .jog => mayHold s r.source a
      | .sequence => if r.held then mayHold s r.source a else mayTarget s r.source a))

/-- The records that claim any axis which r would claim. -/
def rivals (s : State) (r : Record) : List Record :=
  s.motion.records.filter (fun x => axes.any (fun a => x.claims a && r.claims a))

/-- R26: two records have the same owner: CAB, or the same station. -/
def sameOwner (x r : Record) : Bool := x.station == r.station

/-- R28 check 11: the interlocks of the first motion; in either direction where a LEVEL target cannot be formed
(R101). -/
def firstInterlocks (s : State) (f : Formed) : Bool :=
  if f.formable then interlocks s f.record.axis f.record.dir f.record.source
  else interlocks s f.record.axis .inc f.record.source && interlocks s f.record.axis .dec f.record.source

/-- R28 check 12: the position is at or beyond a bearing limit. -/
def firstBlocked (s : State) (f : Formed) : Bool := f.formable && envelopeBlocked s f.record.axis f.record.dir

/-- R28 checks 1 to 5. -/
def conditionRefusal (s : State) : Option Status :=
  if s.store.mode ≠ .run then some .starting
  else if s.store.commit ≠ .idle then some .profileBusy
  else if s.pins.holdoff then some .holdoff
  else if s.motion.estop then some .estopActive
  else if s.motion.supply = .cut then some .supplyLow
  else none

/-- The judgement of a request: refused, accepted as a new record, or an amendment of a record. -/
inductive Judgement
  | refuse (st : Status)
  | accept (r : Record)
  | amend (old r : Record)
  deriving DecidableEq, Repr

/-- R28 checks 11 and 12 before an acceptance or an amendment. -/
def lastChecks (s : State) (f : Formed) (j : Judgement) : Judgement :=
  if !firstInterlocks s f then .refuse .interlock
  else if firstBlocked s f then .refuse .envelope
  else j

/-- R30: the claiming record may be amended by the request. -/
def amendable (x r : Record) : Bool := x.kind == .move && x.state == .waiting && r.kind == .move

/-- R28 check 8: the request's own tag is held by a record. -/
def tagHeld (s : State) (rq : Request) : Bool := rq.tag.any (fun t => (s.find t).isSome)

/-- R28: the checks in their order. -/
def judgeFormed (s : State) (rq : Request) (f : Formed) : Judgement :=
  match conditionRefusal s with
  | some st => .refuse st
  | none =>
      if !permitted s f.record then .refuse .notPermitted
      else if axes.any (fun a => f.record.claims a && s.faulted a) then .refuse .faulted
      else if tagHeld s rq then .refuse .dupTag
      else if (rivals s f.record).any (fun x => !sameOwner x f.record) then .refuse .owned
      else
        match rivals s f.record with
        | [] => lastChecks s f (.accept f.record)
        | x :: _ => if amendable x f.record then lastChecks s f (.amend x f.record) else .refuse .committed

/-- R28: the judgement of a request, malformed ones first. -/
def judgeRequest (s : State) (rq : Request) : Judgement :=
  match formRequest s rq with
  | none => .refuse .badField
  | some f => judgeFormed s rq f

/-! ### Acceptance and amendment -/

/-- R23: a class-1 record goes before the first class-2 record, a class-2 record at the end. -/
def insertRecord (r : Record) : List Record → List Record
  | [] => [r]
  | x :: xs => if r.held && !x.held then r :: x :: xs else x :: insertRecord r xs

/-- R24, R29: the record enters the list and takes an arrival number. -/
def acceptRecord (r : Record) (s : State) : State :=
  (s.onMotion (fun m =>
    { m with records := insertRecord r m.records, arrivals := (m.arrivals + 1) % 65536 })).oweAttempt

/-- R27: the pendant tags from the pointer upward, wrapping from 255 to 200. -/
def pendantTags (pointer : Nat) : List Nat := (List.range 56).map (fun k => 200 + (pointer - 200 + k) % 56)

/-- R27: the first pendant tag from the pointer upward that no record holds. -/
def freeTag (s : State) : Nat :=
  ((pendantTags s.motion.nextTag).find? (fun t => (s.find t).isNone)).getD 200

/-- R27: the pointer moves to one above the tag taken, and 256 becomes 200. -/
def takeTag (t : Nat) (s : State) : State :=
  s.onMotion (fun m => { m with nextTag := if 255 ≤ t then 200 else t + 1 })

/-- R30: the fields of an amended record. -/
def Record.amended (old r : Record) : Record :=
  { old with
    target := r.target, limitMark := r.limitMark, dir := r.dir, draw := r.draw, speed := r.speed
    clamped := r.clamped, degraded := r.degraded }

/-- R30: the amendment in place, with the grant attempt that follows. -/
def amendRecord (old r : Record) (s : State) : State :=
  (s.onRecord old.tag (fun x => x.amended r)).oweAttempt

/-! ### Refreshes (R93, R111) -/

/-- R93: the hold timer runs in these states. -/
def Record.holdRuns (r : Record) : Bool :=
  match r.state with
  | .waiting | .prewarn | .starting | .moving => r.held
  | .stopping | .paused => false

/-- R93, R111: a refresh restarts the hold timer, resumes a PAUSED record, or finds it stopping. -/
def refresh (r : Record) (s : State) : State :=
  if r.state = .paused then settle (resumeRecord r.tag s)
  else if r.holdRuns then s.onRecord r.tag (fun r => { r with lastRefresh := s.clock })
  else s

/-! ### Timers of records -/

/-- R43: an unheld CAB record has been 30,000 ms in WAITING. -/
def execWaitTimerExpiry (tag : Nat) (s : State) : Host.Outcome State Fault Refusal :=
  match s.find tag with
  | none => .next s
  | some r =>
      if r.state = .waiting ∧ r.held = false then
        .next (settle (endRecord tag .expired (s.upTo (r.waitSince + Config.waitLimit))))
      else .next s

/-- R93, R94: 250 ms have passed since a held record's last refresh. -/
def execHoldTimerExpiry (tag : Nat) (s : State) : Host.Outcome State Fault Refusal :=
  match s.find tag with
  | none => .next s
  | some r =>
      if r.holdRuns then .next (settle (holdStop .holdLapse r (s.upTo (r.lastRefresh + Config.holdLimit))))
      else .next s

/-- R112: a PAUSED record's pause window reaches 5000 ms. -/
def execPauseWindowExpiry (tag : Nat) (s : State) : Host.Outcome State Fault Refusal :=
  match s.find tag with
  | none => .next s
  | some r =>
      if r.state = .paused then
        .next (settle (endRecord tag .holdLapse (s.upTo (r.pauseSince + Config.pauseLimit))))
      else .next s

end Sys2Proof.Machine
end

