-- ==== Sys2Proof/Machine/CrewBus.lean ====
section
/-! DEFINITION. Machine/CrewBus.lean: the Crew Bus Port. Good frames and what they are handed to (R165, R166), the
button decode (R169 to R171), CLEAR and HALT (R172), lamp states and LAMPS frames (R173 to R175), and the bus
states (R176 to R178). -/

namespace Sys2Proof.Machine

open Sys2Proof

/-! ### Stations -/

/-- The station record of an address, when the station is enabled (R167). -/
def State.station (s : State) (address : Nat) : Option StationRecord :=
  s.crew.stations.find? (fun st => st.address = address)

/-- R167: a station record as formed at the end of LOADING. -/
def freshStation (e : Station) : StationRecord where
  address := e.address
  role := e.role
  function := e.function
  lastSet := .ofFn (fun _ => false)
  tags := .ofFn (fun _ => none)
  refused := .ofFn (fun _ => false)
  releasePending := false
  silence := none
  clearRefused := none
  lampsDue := false

/-- R167: a station record as formed again at a commit, from the one that held the address. -/
def keptStation (old : List StationRecord) (e : Station) : StationRecord :=
  match old.find? (fun st => st.address = e.address) with
  | none => freshStation e
  | some st => { freshStation e with lastSet := st.lastSet, releasePending := st.releasePending, silence := st.silence }

def PerButton.empty (n : PerButton Bool) : Bool := buttons.all (fun b => !n.get b)

/-! ### ESTOP clear (R121) -/

/-- R121: ESTOP_N is high and every enabled station's last HOLD set is empty. -/
def clearAllowed (s : State) : Bool := s.pins.level.estopN && s.crew.stations.all (fun st => st.lastSet.empty)

/-- R121: the latch is cleared with its notice. -/
def clearLatch (s : State) : State :=
  appendNotice .estopCleared (s.onMotion (fun m => { m with estop := false }))

/-! ### Button decode (R169) -/

/-- The tag that a button's record holds. -/
def buttonTag (address : Nat) (b : Button) (s : State) : Option Nat :=
  (s.station address).bind (fun st => st.tags.get b)

/-- R169: a button and another held one are JOGs of one axis in opposite directions. -/
def opposes : ButtonFunction → ButtonFunction → Bool
  | .jog a d _, .jog a' d' _ => a == a' && d != d'
  | .jog _ _ _, .unused => false
  | .jog _ _ _, .seq _ => false
  | .jog _ _ _, .stop => false
  | .unused, _ => false
  | .seq _, _ => false
  | .stop, _ => false

/-- R169: a button of the set belongs to an opposite pair. -/
def paired (f : PerButton ButtonFunction) (n : PerButton Bool) (b : Button) : Bool :=
  n.get b && buttons.any (fun c => n.get c && opposes (f.get b) (f.get c))

/-- R169 stages 1 and 2: a release of the record that a button made. -/
def releaseButton (address : Nat) (s : State) (b : Button) : State :=
  match (buttonTag address b s).bind s.find with
  | none => s
  | some r => settle (holdStop .released r s)

/-- R169 stage 3, R111: a refresh of the record that a button made; a PAUSED one stays so while release pending
is set. A button whose press was refused during the pause stop resumes nothing while it stays held, where R111 lets
any HOLD frame with the button resume (DESIGN CHOICE, notes/assumptions/41.md). -/
def refreshButton (address : Nat) (s : State) (b : Button) : State :=
  match s.station address with
  | none => s
  | some st =>
      if st.refused.get b then s
      else
        match (st.tags.get b).bind s.find with
        | none => s
        | some r => if r.state = .paused ∧ st.releasePending then s else refresh r s

/-- R171: the request of a pressed JOG or SEQ button. -/
def buttonDemand : ButtonFunction → Option Demand
  | .jog a d sp => some (.jog a d sp)
  | .seq n => some (.sequence n true)
  | .unused => none
  | .stop => none

/-- R169, R171: a press is refused, and its mark set. -/
def refuseButton (address : Nat) (b : Button) (s : State) : State :=
  s.onStation address (fun st => { st with refused := st.refused.set b true })

/-- R27, R171: an accepted press: the tag is allocated and handed to the button, and the attempt follows. -/
def acceptPress (address : Nat) (b : Button) (r : Record) (s : State) : State :=
  let t := freeTag s
  settle ((acceptRecord { r with tag := t } (takeTag t s)).onStation address (fun st =>
    { st with tags := st.tags.set b (some t), refused := st.refused.set b false }))

/-- R171: a press judged by R28 with the station as owner. -/
def pressDemand (st : StationRecord) (b : Button) (d : Demand) (s : State) : State :=
  match judgeRequest s { tag := none, source := st.role, station := some st.address, demand := d } with
  | .accept r => acceptPress st.address b r s
  | .refuse _ => refuseButton st.address b s
  | .amend _ _ => refuseButton st.address b s

/-- R169 stage 5: a SEQ button whose record is PAUSED. -/
def pausedRecord (st : StationRecord) (b : Button) (s : State) : Option Record :=
  match st.function.get b, (st.tags.get b).bind s.find with
  | .seq _, some r => if r.state = .paused then some r else none
  | _, _ => none

/-- R169 stage 5: one newly held button. `n` is the frame's set. -/
def pressButton (address : Nat) (n : PerButton Bool) (s : State) (b : Button) : State :=
  match s.station address with
  | none => s
  | some st =>
      match buttonDemand (st.function.get b) with
      | none => s
      | some d =>
          match pausedRecord st b s with
          | some r => if st.releasePending then refuseButton address b s else refresh r s
          | none =>
              if paired st.function n b || st.releasePending
                  || buttons.any (fun c => n.get c && st.function.get c == .stop) then refuseButton address b s
              else pressDemand st b d s

/-- R169 stage 6: the new set. -/
def newSet (n : PerButton Bool) (st : StationRecord) : StationRecord :=
  { st with
    lastSet := n
    refused := .ofFn (fun b => st.refused.get b && n.get b)
    releasePending := st.releasePending && !n.empty }

/-- R169: the decode of a good HOLD frame's set n against the last set of its station. Within stages 1 to 3, for which
the rule gives no order, the buttons are taken from 1 to 6, as in stage 5 (DESIGN CHOICE, notes/assumptions/59.md). -/
def holdDecode (st : StationRecord) (n : PerButton Bool) (s : State) : State :=
  let old := st.lastSet
  let s1 := (buttons.filter (fun b => old.get b && !n.get b)).foldl (releaseButton st.address) s
  let s2 := (buttons.filter (paired st.function n)).foldl (releaseButton st.address) s1
  let s3 := (buttons.filter (fun b => n.get b && old.get b && !paired st.function n b)).foldl
    (refreshButton st.address) s2
  let s4 := if buttons.any (fun b => n.get b && !old.get b && st.function.get b == .stop) then
      settle (stopEvery .stopped s3) else s3
  let s5 := (buttons.filter (fun b => n.get b && !old.get b)).foldl (pressButton st.address n) s4
  s5.onStation st.address (newSet n)

/-! ### Good frames (R166) -/

/-- R168: a good HOLD, CLEAR or HALT frame restarts its station's silence timer. -/
def heard (address : Nat) (s : State) : State :=
  s.onStation address (fun st => { st with silence := some s.clock })

/-- A frame is addressed to the part (R166). -/
def toPart (dst : BitVec 4) : Bool := dst == 15 || dst == 0

/-- R166: a HOLD frame from an enabled station goes to the button decode. -/
def handHold (src dst : BitVec 4) (data : Byte) (s : State) : State :=
  match s.station src.toNat with
  | none => s
  | some st => if toPart dst then holdDecode st (buttonSet data) (heard src.toNat s) else s

/-- R172: a CLEAR from a REAR station: the clear, or the clear refused timer. -/
def clearFrom (address : Nat) (s : State) : State :=
  if !s.motion.estop then s
  else if clearAllowed s then clearLatch s
  else s.onStation address (fun st => { st with clearRefused := some s.clock })

/-- R166, R172: a CLEAR frame. -/
def handClear (src dst : BitVec 4) (s : State) : State :=
  match s.station src.toNat with
  | none => s
  | some st =>
      if toPart dst then
        (if st.role = .rear then clearFrom src.toNat (heard src.toNat s) else heard src.toNat s)
      else s

/-- R118, R166: a HALT frame from any station 1 to 14. -/
def handHalt (src : BitVec 4) (s : State) : State :=
  if src = 0 ∨ src = 15 then s else estopCause (.halt src.toNat) (heard src.toNat s)

/-- R176: the bus can be carrying a frame from another device. -/
def busReceives (s : State) : Bool :=
  match s.crew.bus with
  | .idle => true
  | .receiving => true
  | .backoff => true
  | .transmitting => false
  | .stuck => false

/-- R165: the bytes of a received frame that the part acknowledges, one mark a byte. Through LOADING no station is
enabled, since there is no station record (R167). State keeps the marks of the latest frame (notes/assumptions/18.md). -/
def ackBits (s : State) (bytes : List Byte) : List Bool :=
  let header := bytes.headD 0
  let src := header.extractLsb' 4 4
  (List.range bytes.length).map (fun n =>
    acknowledges src (header.extractLsb' 0 4) (bytes.getD 1 0) (s.station src.toNat).isSome (n + 1))

/-- R163, R165, R176: a received frame's STOP: RECEIVING becomes IDLE, BACKOFF stays, and the 200 µs begin. -/
def frameStop (bytes : List Byte) (s : State) : State :=
  s.onCrew (fun c =>
    { c with
      bus := if c.bus = .backoff then .backoff else .idle
      inFrame := false
      freeAt := s.clock + Config.busFreeTime
      acks := ackBits s bytes })

/-- R166: a received frame of these bytes is judged at its STOP and handed on by `f`. -/
def atStop (bytes : List Byte) (f : State → State) (s : State) : State :=
  if busReceives s then f (frameStop bytes s) else s

/-- R166: a received frame that is good, by its kind. A LAMPS frame has no effect. -/
def handOn (fr : CrewFrame) (s : State) : State :=
  match fr.kind with
  | .hold d => handHold fr.src fr.dst d s
  | .clear => handClear fr.src fr.dst s
  | .halt => handHalt fr.src s
  | .lamps _ _ => s

/-- R164, R166: the bytes of a received frame, good or not. -/
def handBytes (bytes : List Byte) (s : State) : State :=
  match crewFrameOf bytes with
  | some fr => handOn fr s
  | none => s

def execHoldFrame (src dst : BitVec 4) (data : Byte) (s : State) : Host.Outcome State Fault Refusal :=
  .next (atStop (CrewFrame.bytes ⟨src, dst, .hold data⟩) (handHold src dst data) s)

def execClearFrame (src dst : BitVec 4) (s : State) : Host.Outcome State Fault Refusal :=
  .next (atStop (CrewFrame.bytes ⟨src, dst, .clear⟩) (handClear src dst) s)

def execHaltFrame (src : BitVec 4) (s : State) : Host.Outcome State Fault Refusal :=
  .next (atStop (CrewFrame.bytes ⟨src, 0, .halt⟩) (handHalt src) s)

/-- R164: a frame that is not good has no effect beyond its STOP: its bytes are not good, or its STOP comes within a
further byte or before its acknowledge bit. -/
def execCrewFrameDiscard (frame : HeardFrame) (s : State) : Host.Outcome State Fault Refusal :=
  .next (atStop frame.bytes (if frame.rest = 0 then handBytes frame.bytes else id) s)

/-- R166: a good frame that is handed to nothing has no effect beyond its STOP. -/
def execCrewFrameIgnored (bytes : List Byte) (s : State) : Host.Outcome State Fault Refusal :=
  .next (atStop bytes (handBytes bytes) s)

/-- R176: a START is seen. -/
def execCrewFrameStart (s : State) : Host.Outcome State Fault Refusal :=
  match s.crew.bus with
  | .idle => .next (s.onCrew (fun c => { c with bus := .receiving, inFrame := true }))
  | .receiving => .next (s.onCrew (fun c => { c with inFrame := true }))
  | .backoff => .next (s.onCrew (fun c => { c with inFrame := true }))
  | .transmitting => .next s
  | .stuck => .next s

/-- R166, R176: CBC has been high for 1 ms inside a received frame, which is discarded. -/
def execCrewFrameTimeout (s : State) : Host.Outcome State Fault Refusal :=
  if s.crew.inFrame then
    .next (s.onCrew (fun c => { c with bus := if c.bus = .backoff then .backoff else .idle, inFrame := false }))
  else .next s

/-! ### Station timers -/

/-- R168: a station's silence timer reaches 1000 ms. -/
def silenceEnds (st : StationRecord) : StationRecord :=
  { st with
    silence := none
    lastSet := .ofFn (fun _ => false)
    releasePending := st.releasePending || !st.lastSet.empty }

def execSilenceTimerExpiry (station : Nat) (s : State) : Host.Outcome State Fault Refusal :=
  match (s.station station).bind StationRecord.silence with
  | none => .next s
  | some t => .next ((s.upTo (t + Config.silenceLimit)).onStation station silenceEnds)

/-- R172: a station's clear refused timer reaches 1000 ms. -/
def execClearRefusedTimerExpiry (station : Nat) (s : State) : Host.Outcome State Fault Refusal :=
  match (s.station station).bind StationRecord.clearRefused with
  | none => .next s
  | some t =>
      .next ((s.upTo (t + Config.clearRefusedLimit)).onStation station (fun st => { st with clearRefused := none }))

/-! ### Lamps (R173 to R175) -/

/-- The axes that a JOG or SEQ button moves. -/
def buttonAxes (s : State) : ButtonFunction → List Axis
  | .jog a _ _ => [a]
  | .seq n => axes.filter (fun a => (stepsOf s n).any (fun st => st.axis == a))
  | .unused => []
  | .stop => []

/-- R173: the lamp of a JOG or SEQ button. -/
def motionLamp (s : State) (st : StationRecord) (b : Button) : LampState :=
  let r := (st.tags.get b).bind s.find
  let on := buttonAxes s (st.function.get b)
  if st.clearRefused.isSome then .fast
  else if r.any (fun r => r.charged) then .slow
  else if r.any (fun r => r.state == .waiting || r.state == .paused) then .fast
  else if st.refused.get b then .fast
  else if on.any (fun a => !mayHold s st.role a) then .off
  else if on.any s.faulted then .off
  else .on

/-- R173: the lamp of any button. An UNUSED button shows OFF while the clear refused timer runs too, where R172
speaks of every lamp of the station (DESIGN CHOICE, notes/assumptions/42.md). -/
def lampState (s : State) (st : StationRecord) (b : Button) : LampState :=
  match st.function.get b with
  | .unused => .off
  | .stop => if st.clearRefused.isSome || s.motion.estop then .fast else .on
  | .jog _ _ _ => motionLamp s st b
  | .seq _ => motionLamp s st b

/-- R174: every enabled station is due. -/
def lampsDue (s : State) : State :=
  s.onCrew (fun c => { c with stations := c.stations.map (fun st => { st with lampsDue := true }) })

/-- R174: 200 ms of the LAMPS timer have passed. -/
def execLampsTimer (s : State) : Host.Outcome State Fault Refusal :=
  match s.crew.lampsTick with
  | none => .next s
  | some t =>
      let s1 := (s.upTo (t + Config.lampsInterval)).onCrew (fun c =>
        { c with lampsTick := some (t + Config.lampsInterval) })
      .next (if s.crew.bus = .stuck then s1 else lampsDue s1)

/-- R174: the due station that comes first in table order. -/
def firstDue (s : State) : Option StationRecord := s.crew.stations.find? (fun st => st.lampsDue)

/-- R173, R174: the frame to a station, formed from the state as it stands. -/
def startLamps (st : StationRecord) (s : State) : State :=
  (s.onStation st.address (fun x => { x with lampsDue := false })).onCrew (fun c =>
    { c with
      bus := .transmitting
      sending := some { station := st.address, lamps := .ofFn (lampState s st) } })

/-- R174: with the bus IDLE and free and a station due, a LAMPS frame starts. -/
def execLampsFrameStart (s : State) : Host.Outcome State Fault Refusal :=
  match s.crew.bus, firstDue s with
  | .idle, some st => .next (startLamps st (s.upTo s.crew.freeAt))
  | _, _ => .next s

/-- R163, R174, R176: the part's own STOP. -/
def ownStop (s : State) : State :=
  s.onCrew (fun c => { c with bus := .idle, sending := none, freeAt := s.clock + Config.busFreeTime })

/-- R176: the LAMPS frame has been sent. -/
def execLampsFrameSent (s : State) : Host.Outcome State Fault Refusal :=
  if s.crew.bus = .transmitting then .next (ownStop s) else .next s

/-- R174: a byte of the LAMPS frame is not acknowledged: STOP at once, and the frame is dropped. -/
def execLampsNotAcknowledged (s : State) : Host.Outcome State Fault Refusal :=
  if s.crew.bus = .transmitting then .next (ownStop s) else .next s

/-- R175: the part has lost: its station is due again, and the winning frame is in progress. -/
def execArbitrationLost (s : State) : Host.Outcome State Fault Refusal :=
  match s.crew.bus, s.crew.sending with
  | .transmitting, some f =>
      .next ((s.onStation f.station (fun st => { st with lampsDue := true })).onCrew (fun c =>
        { c with bus := .backoff, sending := none, inFrame := true }))
  | _, _ => .next s

/-- R175: the bus is free again after the winning frame. -/
def execBackoffEnd (s : State) : Host.Outcome State Fault Refusal :=
  if s.crew.bus = .backoff ∧ s.crew.inFrame = false then
    .next ((s.upTo s.crew.freeAt).onCrew (fun c => { c with bus := .idle }))
  else .next s

/-- The bytes of the LAMPS frame being sent (R164, R203): source 15, destination the station. -/
def LampsFrame.frame (f : LampsFrame) : CrewFrame where
  src := 15
  dst := BitVec.ofNat 4 f.station
  kind := .lamps (lampBytes f.lamps).1 (lampBytes f.lamps).2

/-! ### STUCK (R177, R178) -/

/-- R177 stage 3: a hold lapse on every pendant record in list order, as one event. -/
def lapsePendants (s : State) : State :=
  settle (s.asOneEvent (fun s =>
    s.tags.foldl (fun s t =>
      match s.find t with
      | some r => if r.station.isSome then holdStop .holdLapse r s else s
      | none => s) s))

/-- R177: a crew line has been low for 5 ms. -/
def execBusStuck (s : State) : Host.Outcome State Fault Refusal :=
  if s.crew.bus = .stuck then .next s
  else
    let s1 := s.onCrew (fun c =>
      { c with
        bus := .stuck, inFrame := false, sending := none
        stations := c.stations.map (fun st => { st with lampsDue := false }) })
    .next (lapsePendants (appendNotice (.busState .stuck) s1))

/-- R178: both lines have been high for 20 ms; the bus counts as free from that moment, where R163 counts 200 µs from
it (DESIGN CHOICE, notes/assumptions/50.md). -/
def execBusRecover (s : State) : Host.Outcome State Fault Refusal :=
  if s.crew.bus = .stuck then
    .next (appendNotice (.busState .idle) (s.onCrew (fun c => { c with bus := .idle, freeAt := s.clock })))
  else .next s

end Sys2Proof.Machine
end

