-- ==== Sys2Proof/Machine/Sense.lean ====
section
/-! DEFINITION. Machine/Sense.lean: the Sense Unit. Triggers, conversions, scaling, agreement and the
delivery of samples (R5 to R17), the debounced inputs, SPEED, HOLDOFF, ESTOP_N and STRAP pins (R18 to R21), and
the findings that a sample or a watch makes (R14, R86, R87, R125). -/

namespace Sys2Proof.Machine

open Sys2Proof

/-! ### Triggers -/

/-- The input mode of a channel in the profile handed out (R4). -/
def channelMode (s : State) (c : Channel) : InputMode := (s.profile.calibration.channel.get c).mode

/-- R5: a trigger begins a conversion in the input mode in force (R17), or is dropped while one is in progress. -/
def beginConversion (c : Channel) (t : Trigger) (s : State) : State :=
  s.onChannel c (fun ch =>
    match ch.conversion with
    | some _ => ch
    | none => { ch with conversion := some { trigger := t, began := s.clock, mode := channelMode s c, primary := none } })

/-- R6: a free-running timer expires, reloads to 10 ms and triggers its channel. -/
def execFreeRunTimerExpiry (c : Channel) (s : State) : Host.Outcome State Fault Refusal :=
  match (s.sense.get c).timer with
  | none => .next s
  | some t =>
      let s1 := s.upTo (t + Config.conversionPeriod)
      .next (beginConversion c .freeRunning (s1.onChannel c (fun ch => { ch with timer := some s1.clock })))

/-- R144: the offset of an axis's control-interval events from the start of the bases. -/
def controlOffset (a : Axis) : Nat :=
  if isHydraulic a then Config.valvePeriod / 2 else Config.bridgePeriod / 2

/-- R144: the next control-interval event of an axis that is not before `now` and later than the last one. -/
def nextControl (a : Axis) (last : Option Nat) (now : Nat) : Nat :=
  let floor := max now (match last with | some t => t + 1 | none => 0)
  controlOffset a
    + (floor - controlOffset a + Config.conversionPeriod - 1) / Config.conversionPeriod * Config.conversionPeriod

/-- R7, R8: a control-interval event triggers a synchronised channel; the first trigger taken after an entry to
STARTING begins the snapshot. -/
def triggerSynchronised (a : Axis) (s : State) : State :=
  let ch := s.sense.get (.axis a)
  if ch.sync ∧ ch.conversion.isNone then
    (beginConversion (.axis a) (if ch.snapshotDue then .snapshot else .synchronised) s).onChannel (.axis a)
      (fun ch => { ch with snapshotDue := false })
  else s

/-- R144: the Drive Unit's control-interval event of an axis. -/
def execControlIntervalEvent (a : Axis) (s : State) : Host.Outcome State Fault Refusal :=
  let t := nextControl a (s.drive.control.get a) s.clock
  .next (triggerSynchronised a ((s.upTo t).onDrive (fun d => { d with control := d.control.set a (some t) })))

/-! ### Samples -/

/-- SC0 and SC1 are dual-track (R4): their alternate points and tolerance. -/
def dualTrack (cal : Calibration) : Channel → Option (Points × Int)
  | .axis .lift => some (cal.liftAlt, cal.liftTol)
  | .axis .tilt => some (cal.tiltAlt, cal.tiltTol)
  | .axis .fold => none
  | .axis .kdoor => none
  | .axis .rdoor => none
  | .pitch => none
  | .pressure => none
  | .battery => none

/-- R10: the range check of a code. -/
def ChannelCal.inRange (k : ChannelCal) (c : Int) : Bool := k.clo ≤ c && c ≤ k.chi

/-- R10: scaling with two points; the exact product, the quotient truncated toward zero, then U1. -/
def Points.scale (p : Points) (c : Int) : Int := p.u1 + ((c - p.c1) * (p.u2 - p.u1)).tdiv (p.c2 - p.c1)

/-- R11: a value clamped to an axis's travel with its margin. -/
def marginClamp (l : AxisLimits) (u : Int) : Int := clampTo (l.low - Config.margin) (l.high + Config.margin) u

/-- R9: a sample of an axis channel. `alternate` is the alternate code of a dual-track channel. -/
structure Sample where
  trigger : Trigger
  primary : Int
  alternate : Option Int
  value : Option Int
  range : Bool
  beyond : Bool
  disagreeing : Bool
  latched : Bool
  count : Nat
  deriving DecidableEq, Repr

/-- R13: whether the alternate code disagrees with the primary value u. -/
def disagrees (k : ChannelCal) (l : AxisLimits) (alt : Points) (tol u c : Int) : Bool :=
  !k.inRange c || tol < (u - marginClamp l (alt.scale c)).natAbs

/-- R10 to R14: the sample that a completed conversion of an axis channel gives. -/
def axisSample (s : State) (a : Axis) (t : Trigger) (primary : Int) (alternate : Option Int) : Sample :=
  let k := s.profile.calibration.channel.get (.axis a)
  let count := (s.sense.get (.axis a)).disagree
  let u := k.points.scale primary
  let v := marginClamp (s.limits a) u
  if !k.inRange primary then
    { trigger := t, primary := primary, alternate := alternate, value := none, range := true, beyond := false
      disagreeing := false, latched := false, count := count }
  else
    match dualTrack s.profile.calibration (.axis a), alternate with
    | some (alt, tol), some c =>
        let d := disagrees k (s.limits a) alt tol v c
        { trigger := t, primary := primary, alternate := alternate, value := some v, range := false, beyond := v != u
          disagreeing := d, latched := d && decide (2 ≤ count)
          count := if d then (if 2 ≤ count then 0 else count + 1) else 0 }
    | _, _ =>
        { trigger := t, primary := primary, alternate := alternate, value := some v, range := false, beyond := v != u
          disagreeing := false, latched := false, count := count }

/-- R9 stage 1: the channel and the axis record take the sample. R16 reads `clearable` later. -/
def takeSample (a : Axis) (sm : Sample) (s : State) : State :=
  (s.onChannel (.axis a) (fun ch =>
    { ch with
      code := some sm.primary
      alternate := sm.alternate.or ch.alternate
      value := sm.value.or ch.value
      valid := sm.value.isSome
      disagree := sm.count
      conversion := none
      clearable := !sm.range && !sm.disagreeing && !sm.beyond })).onAxis a (fun x =>
    { x with position := sm.value, rawCode := some sm.primary })

/-- R15: the fault that a sample raises, with its position at fault. A sample that both disagrees for the third
time and lies beyond the margin raises SENSOR_DISAGREE (DEDUCED, notes/assumptions/9.md). -/
def sampleFault (s : State) (a : Axis) (sm : Sample) : Option (FaultKind × Option Int) :=
  if sm.range then some (.sensorRange, none)
  else if sm.latched then some (.sensorDisagree, none)
  else if sm.beyond && (s.mover a).isSome then some (.overtravel, sm.value)
  else none

/-- R73: a good snapshot takes the record of the axis from STARTING to MOVING. -/
def goodSnapshot (a : Axis) (s : State) : State :=
  match s.mover a with
  | none => s
  | some r => if r.state = .starting then s.onRecord r.tag (fun r => { r with state := .moving }) else s

/-- R9: the delivery of a sample of an axis channel. -/
def deliverAxis (a : Axis) (sm : Sample) (s : State) : State :=
  let s1 := takeSample a sm s
  match sampleFault s1 a sm with
  | some (kind, pos) => settle (raiseFaults [a] kind (fun _ => pos) s1)
  | none =>
      match sm.trigger with
      | .freeRunning => s1
      | .synchronised => settle (controlUpdate a s1)
      | .snapshot => goodSnapshot a s1

/-- R12: the fixed ranges of SC5, SC6 and SC7. -/
def figureClamp (c : Channel) (u : Int) : Int :=
  match c with
  | .pitch => clampTo (-150) 150 u
  | .pressure => clampTo 0 2500 u
  | .battery => clampTo 0 400 u
  | .axis _ => u

/-- R12: the value of a sample of SC5 to SC7, absent when its code fails the range check. -/
def figureOf (s : State) (c : Channel) (code : Int) : Option Int :=
  let k := s.profile.calibration.channel.get c
  if k.inRange code then some (figureClamp c (k.points.scale code)) else none

/-- R12: the channel takes the sample: the figure and the health flag. -/
def takeFigure (c : Channel) (code : Int) (v : Option Int) (s : State) : State :=
  s.onChannel c (fun ch =>
    { ch with
      code := some code, value := v.or ch.value, valid := v.isSome, healthy := v.isSome, conversion := none
      clearable := v.isSome })

/-- R36, R39, R104: B is worked out again from a voltage, and a grant attempt follows, and the ends of waiting steps whose
interlock has failed. -/
def recomputeBudget (v : Int) (s : State) : State :=
  endFailedSteps <| settle ((s.onMotion (fun m => { m with budget := budgetFor s.profile.limits v })).oweAttempt)

/-- R36, R125: the delivery of an SC7 sample: the budget and its grant attempt, then the supply state
(DEDUCED, notes/assumptions/9.md). -/
def deliverBattery (v : Option Int) (s : State) : State :=
  judgeSupply v (match v with | some x => recomputeBudget x s | none => s)

/-- R12: the delivery of a sample of SC5 to SC7. -/
def deliverFigure (c : Channel) (code : Int) (s : State) : State :=
  let v := figureOf s c code
  let s1 := takeFigure c code v s
  match c with
  | .battery => deliverBattery v s1
  | .pressure => settle (judgeOverload v s1)
  | .pitch => s1
  | .axis _ => s1

/-- R9: the delivery of a completed conversion by channel. -/
def deliver (c : Channel) (cv : Conversion) (primary : Int) (alternate : Option Int) (s : State) : State :=
  match c with
  | .axis a => deliverAxis a (axisSample s a cv.trigger primary alternate) s
  | .pitch => deliverFigure .pitch primary s
  | .pressure => deliverFigure .pressure primary s
  | .battery => deliverFigure .battery primary s

/-- R5: the primary conversion of a dual-track channel completes and the alternate conversion begins, in the input
mode then in force (R17). -/
def execDualTrackPrimaryComplete (c : Channel) (code : RawCode) (s : State) : Host.Outcome State Fault Refusal :=
  match dualTrack s.profile.calibration c, (s.sense.get c).conversion with
  | some _, some cv =>
      match cv.primary with
      | some _ => .next s
      | none =>
          .next ((s.upTo (cv.began + Config.conversionTime)).onChannel c (fun ch =>
            { ch with conversion := some { cv with mode := channelMode s c, primary := some (codeValue cv.mode code) } }))
  | _, _ => .next s

/-- R5, R9, R17: a conversion completes, its code read in the mode in which it began and its value judged under the
profile in force. On a dual-track channel the code is the alternate's, after the primary's. -/
def execConversionComplete (c : Channel) (code : RawCode) (s : State) : Host.Outcome State Fault Refusal :=
  match (s.sense.get c).conversion with
  | none => .next s
  | some cv =>
      match dualTrack s.profile.calibration c, cv.primary with
      | none, _ =>
          .next (deliver c cv (codeValue cv.mode code) none (s.upTo (cv.began + Config.conversionTime)))
      | some _, some p =>
          .next (deliver c cv p (some (codeValue cv.mode code))
            (s.upTo (cv.began + 2 * Config.conversionTime)))
      | some _, none => .next s

/-! ### Findings -/

/-- R86: STALL is found on the axis of a record in MOVING. -/
def execStall (a : Axis) (s : State) : Host.Outcome State Fault Refusal :=
  match s.mover a with
  | none => .next s
  | some r =>
      if r.state = .moving then
        let s1 := match r.stall with
          | some w => s.upTo (w.since + Config.stallLimit)
          | none => s
        .next (settle (raiseFaults [a] .stall s1.position s1))
      else .next s

/-- R87: an overload of a LIFT raise in MOVING has lasted 200 ms. -/
def execOverload (s : State) : Host.Outcome State Fault Refusal :=
  match s.mover .lift with
  | none => .next s
  | some r =>
      if r.state = .moving ∧ r.dir = .inc then
        let s1 := match r.overload with
          | some t => s.upTo (t + Config.overloadLimit)
          | none => s
        .next (settle (enterStopping r .overload false s1))
      else .next s

/-- R14: the third disagreeing sample in a row of a dual-track channel. -/
def execSensorDisagree (c : Channel) (s : State) : Host.Outcome State Fault Refusal :=
  match c with
  | .axis .lift => .next (disagreed .lift s)
  | .axis .tilt => .next (disagreed .tilt s)
  | .axis .fold => .next s
  | .axis .kdoor => .next s
  | .axis .rdoor => .next s
  | .pitch => .next s
  | .pressure => .next s
  | .battery => .next s
where
  /-- The count returns to 0 and SENSOR_DISAGREE is raised. -/
  disagreed (a : Axis) (s : State) : State :=
    settle (raiseFaults [a] .sensorDisagree (fun _ => none)
      (s.onChannel (.axis a) (fun ch => { ch with disagree := 0, clearable := false })))

/-- R125, R126: a low run has lasted 500 ms. -/
def execSupplyCut (s : State) : Host.Outcome State Fault Refusal :=
  match s.motion.supply with
  | .normal =>
      .next (cutSupply (match s.motion.lowRun with | some t => s.upTo (t + Config.lowRunLimit) | none => s))
  | .cut => .next s

/-- R125: a recovery run has lasted 1000 ms. -/
def execSupplyRecover (s : State) : Host.Outcome State Fault Refusal :=
  match s.motion.supply with
  | .cut =>
      .next (restoreSupply
        (match s.motion.recoveryRun with | some t => s.upTo (t + Config.recoveryRunLimit) | none => s))
  | .normal => .next s

/-! ### HOLDOFF -/

/-- R154, R158: HOLDOFF turns a lamp off at once, and stands above an override, whose pulse timer goes to 0. -/
def darkenLamp (s : State) (l : Lamp) : State :=
  driveLamp l 0 (s.onLamp l (fun b => { b with level := some .holdoff, lit := false, pulse := 0, shown := false }))

/-- R122: HOLDOFF is asserted. -/
def assertHoldoff (s : State) : State :=
  let s1 := s.onPins (fun p => { p with holdoff := true, holdoffLow := none })
  let s2 := lamps.foldl darkenLamp (driveOuts.foldl forceHoldoff s1)
  settle (s2.asOneEvent (fun s => s.tags.foldl (cutRecord .holdoff) s))

/-- R20: a high level on HOLDOFF asserts it, or keeps it asserted and restarts the count. -/
def holdoffHigh (s : State) : State :=
  let s1 := s.onPins (fun p => { p with level := { p.level with holdoff := true }, holdoffLow := none })
  if s.pins.holdoff then s1 else assertHoldoff s1

def execHoldoffAsserted (s : State) : Host.Outcome State Fault Refusal := .next (holdoffHigh s)

/-! ### ESTOP_N -/

/-- R20, R118: a low level on ESTOP_N is an emergency stop cause PIN. -/
def estopLow (s : State) : State :=
  estopCause .pin (s.onPins (fun p => { p with level := { p.level with estopN := false } }))

def execEstopPinLow (s : State) : Host.Outcome State Fault Refusal := .next (estopLow s)

/-! ### Vehicle moving (R19) -/

/-- R19: an edge at the clock's time holds the vehicle-moving condition true; it may make it true (R58). -/
def holdMoving (s : State) : State :=
  let s1 := s.onPins (fun p => { p with movingEdge := some s.clock })
  if s.vehicleMoving then s1 else vehicleStarts s1

/-- R19: a raw rising edge of SPEED is recorded; a second one within 500 ms holds the condition. -/
def rawSpeedEdge (s : State) : State :=
  let near := match s.pins.rawEdge with
    | some t => decide (s.clock < t + Config.vehicleWindow)
    | none => false
  let s1 := s.onPins (fun p => { p with rawEdge := some s.clock })
  if near then holdMoving s1 else s1

/-- R58: an edge of SPEED makes the condition true. -/
def execVehicleMoving (s : State) : Host.Outcome State Fault Refusal :=
  if s.vehicleMoving then .next s else .next (holdMoving s)

/-- R19: the last edge that held the condition falls 500 ms into the past. -/
def execVehicleMovingExpiry (s : State) : Host.Outcome State Fault Refusal :=
  match s.pins.movingEdge with
  | none => .next s
  | some t => .next ((s.upTo (t + Config.vehicleWindow)).onPins (fun p => { p with movingEdge := none }))

/-! ### Debounced inputs (R18) -/

/-- R89: an edge strip newly pressed is an obstruction of a door whose watch is armed. -/
def stripEvent (a : Axis) (s : State) : State :=
  match s.mover a with
  | none => s
  | some r => if r.stripArmed then settle (obstruct a s) else s

/-- What the consumers of an input do as its debounced state becomes active. -/
def inputActive (i : Input) (s : State) : State :=
  match i with
  | .edgeK => stripEvent .kdoor s
  | .edgeR => stripEvent .rdoor s
  | .speed => holdMoving s
  | .park => s
  | .foot => s
  | .night => s

/-- R18: a stable timer reaches 20 ms and the debounced state takes the pin's level. -/
def execDebounceStateChange (i : Input) (s : State) : Host.Outcome State Fault Refusal :=
  let f := s.pins.filter.get i
  let level := s.pins.level.input.get i
  match f.since with
  | none => .next s
  | some t =>
      if f.active = level then .next s
      else
        let s1 := (s.upTo (t + Config.filterTime)).onPins (fun p =>
          { p with filter := p.filter.set i { active := level, since := none } })
        .next (if level then inputActive i s1 else s1)

/-! ### Pin changes -/

/-- R18, R19: a change of level on a debounced input restarts its stable timer. -/
def inputPin (i : Input) (level : Bool) (s : State) : State :=
  if s.pins.level.input.get i = level then s
  else
    let s1 := s.onPins (fun p =>
      { p with
        level := { p.level with input := p.level.input.set i level }
        filter := p.filter.set i { active := (p.filter.get i).active, since := some s.clock } })
    if i = .speed ∧ level then rawSpeedEdge s1 else s1

/-- R20: HOLDOFF going low starts its 20 ms. -/
def holdoffPinLow (s : State) : State :=
  s.onPins (fun p =>
    { p with
      level := { p.level with holdoff := false }
      holdoffLow := if p.level.holdoff && p.holdoff then some s.clock else p.holdoffLow })

/-- R20: ESTOP_N going high is only a level. -/
def estopPinHigh (s : State) : State :=
  s.onPins (fun p => { p with level := { p.level with estopN := true } })

/-- R21: a change of STRAP before its sample makes the sample low. -/
def strapPin (level : Bool) (s : State) : State :=
  s.onPins (fun p =>
    { p with
      level := { p.level with strap := level }
      strapChanged := p.strapChanged || (!p.strapTaken && p.level.strap != level) })

/-- R18 to R21: a level on a discrete pin. -/
def execDiscretePinChange (p : Pin) (level : Bool) (s : State) : Host.Outcome State Fault Refusal :=
  match p, level with
  | .input i, l => .next (inputPin i l s)
  | .estopN, true => .next (estopPinHigh s)
  | .estopN, false => .next (estopLow s)
  | .holdoff, true => .next (holdoffHigh s)
  | .holdoff, false => .next (holdoffPinLow s)
  | .strap, l => .next (strapPin l s)

end Sys2Proof.Machine
end

