-- ==== Sys2Proof/Machine/ProfileStore.lean ====
section
/-! DEFINITION. Machine/ProfileStore.lean: reset and RESTART (R202, R188), the load and the strap (R193, R21), the
end of LOADING (R195), and the commit (R200, R201, R17, R149, R167). -/

namespace Sys2Proof.Machine

open Sys2Proof

/-! ### Reset -/

/-- R202, R188: every block takes its reset values over the pin levels that stand; a high HOLDOFF and a low
ESTOP_N act as reset is released (R20, R118). The commands that wait go on waiting. -/
def resetRelease (s : State) : State :=
  let s0 := State.released s.pins.level s.pending
  let s1 := if s.pins.level.holdoff then assertHoldoff s0 else s0
  if s.pins.level.estopN then s1 else estopCause .pin s1

def execPowerOnReset (s : State) : Host.Outcome State Fault Refusal := .next (resetRelease s)

/-- R188: the restart takes effect when one has been accepted. -/
def takeRestart (s : State) : State := if s.link.restarting then resetRelease s else s

/-- R188: the restart takes effect as the CHECK of its OK, the one reply left in the FIFO, leaves TXD. -/
def execRestartTakesEffect (s : State) : Host.Outcome State Fault Refusal :=
  match s.link.fifo with
  | [_] => .next (takeRestart s)
  | [] => .next s
  | _ :: _ :: _ => .next s

/-! ### The end of LOADING (R195) -/

/-- R195: the profile that the image in force holds is handed out and the staging copy taken from it. -/
def handOut (m : Image) (s : State) : State :=
  { s with profile := m.profile }.onStore (fun st => { st with mode := .lampTest, staging := some m })

/-- R5: every channel's free-running timer starts and its first conversion begins. -/
def startConversions (s : State) : State :=
  { s with sense := .ofFn (fun c =>
      { s.sense.get c with
        timer := some s.clock
        conversion := some { trigger := .freeRunning, began := s.clock, mode := channelMode s c, primary := none } }) }

/-- R167, R174: the station records are formed and the LAMPS timer starts. -/
def startCrew (s : State) : State :=
  s.onCrew (fun c => { c with stations := s.profile.stations.map freshStation, lampsTick := some s.clock })

/-- R160: the lamp test is to run, or is complete at once. -/
def startLampTest (s : State) : State :=
  if s.profile.beacons.lampTest then s.onBeacon (fun b => { b with test := .running 0 })
  else s.onStore (fun st => { st with mode := .run })

/-- R195: LOADING is left when both the load has ended and the STRAP sample has been taken. -/
def leaveLoading (s : State) : State :=
  match s.store.mode, s.store.loadEnded, s.pins.strapTaken, s.store.inForce with
  | .loading, true, true, some m => startLampTest (startCrew (startConversions (handOut m s)))
  | _, _, _, _ => s

/-! ### Load and strap -/

/-- R193: the load has ended with an image in force. -/
def endLoad (m : Image) (source : Source) (s : State) : State :=
  leaveLoading (s.onStore (fun st => { st with loadEnded := true, inForce := some m, source := source }))

/-- R193: LIMP comes into force whole. -/
def loadLimp (s : State) : State := endLoad limpImage .limp s

/-- R193: the read has completed and is judged, stage 1 by the clock. -/
def judgeLoad (bytes : List Byte) (s : State) : State :=
  if Config.loadReadLimit < s.clock then loadLimp s
  else
    match judgeImage (imageOf bytes) with
    | some m => endLoad m .flash s
    | none => loadLimp s

/-- A load is still running. -/
def State.loadRuns (s : State) : Bool := s.store.mode == .loading && !s.store.loadEnded

def execProfileLoadEnd (bytes : List Byte) (s : State) : Host.Outcome State Fault Refusal :=
  if s.loadRuns then .next (judgeLoad bytes s) else .next s

/-- R193 stage 1: 50 ms have passed since reset release. -/
def execLoadReadTimeout (s : State) : Host.Outcome State Fault Refusal :=
  if s.loadRuns then .next (loadLimp (s.upTo Config.loadReadLimit)) else .next s

/-- R21, R196: the STRAP sample at 20 ms after release. -/
def takeStrap (s : State) : State :=
  leaveLoading ((s.onStore (fun st => { st with service := s.pins.level.strap && !s.pins.strapChanged })).onPins
    (fun p => { p with strapTaken := true }))

def execStrapSample (s : State) : Host.Outcome State Fault Refusal :=
  if s.pins.strapTaken then .next s else .next (takeStrap (s.upTo Config.filterTime))

/-! ### What a new profile changes at a commit -/

/-- R17: disagreement counts go to 0, and positions are brought inside the new travel with its margin. -/
def takeCalibration (s : State) : State :=
  let s1 : State := { s with sense := .ofFn (fun c => { s.sense.get c with disagree := 0 }) }
  s1.onMotion (fun m =>
    { m with axis := .ofFn (fun a =>
        { m.axis.get a with position := (m.axis.get a).position.map (marginClamp (s.limits a)) }) })

/-- R149: stretch and pulse timers are cut to the new stretch length. -/
def takeBeacons (s : State) : State :=
  s.onBeacon (fun b =>
    { b with channel := .ofFn (fun l =>
        { b.channel.get l with
          stretch := min (b.channel.get l).stretch s.profile.beacons.stretch
          pulse := min (b.channel.get l).pulse s.profile.beacons.stretch }) })

/-- R167: the station records are formed again. -/
def takeStations (s : State) : State :=
  s.onCrew (fun c => { c with stations := s.profile.stations.map (keptStation c.stations) })

/-- R200: the committed image becomes the profile in force, its source FLASH. -/
def adoptImage (m : Image) (s : State) : State :=
  let s1 : State :=
    { s with profile := m.profile }.onStore (fun st => { st with inForce := some m, source := .flash })
  takeStations (takeBeacons (takeCalibration s1))

/-! ### The envelope lock (R201) -/

/-- R201: the ENVELOPES bytes of one image put into another. -/
def copyEnvelopes (staging inForce : Image) : Image :=
  staging.writeAll (staging.offset 5) (inForce.readAll (inForce.offset 5) (regionLength 5))

/-- R201: the lock sets, and the staging ENVELOPES become those in force. -/
def setLock (s : State) : State :=
  s.onStore (fun st =>
    { st with
      lock := true, lockDue := false
      staging :=
        match st.staging, st.inForce with
        | some m, some f => some (copyEnvelopes m f)
        | _, _ => st.staging })

/-! ### The commit (R200) -/

/-- R200, R201: the end of a commit, then a lock that came during it. -/
def endCommit (failed : Option CommitStage) (s : State) : State :=
  let s1 := appendNotice (.profileDone failed) s
  let s2 := s1.onStore (fun st => { st with commit := .idle, staging := st.inForce })
  if s2.store.lockDue then setLock s2 else s2

/-- R200: the stage that a commit is in. -/
def Commit.stage : Commit → Option CommitStage
  | .idle => none
  | .erase => some .erase
  | .program _ => some .program
  | .verify => some .verify

/-- R200: a step has completed within its limit. -/
def stepInTime (s : State) : Bool := s.clock ≤ s.store.stepSince + Config.commitStepLimit

/-- R200: the next step begins. -/
def nextStep (c : Commit) (s : State) : State := s.onStore (fun st => { st with commit := c, stepSince := s.clock })

def execCommitEraseDone (s : State) : Host.Outcome State Fault Refusal :=
  match s.store.commit with
  | .erase => if stepInTime s then .next (nextStep (.program 0) s) else .next (endCommit (some .erase) s)
  | .idle => .next s
  | .program _ => .next s
  | .verify => .next s

def execCommitPageDone (s : State) : Host.Outcome State Fault Refusal :=
  match s.store.commit with
  | .program n =>
      if stepInTime s then
        .next (nextStep (if Config.commitPages ≤ n + 1 then .verify else .program (n + 1)) s)
      else .next (endCommit (some .program) s)
  | .idle => .next s
  | .erase => .next s
  | .verify => .next s

/-- R200: VERIFY passes when the read-back equals the image written. -/
def verifyCommit (bytes : List Byte) (s : State) : State :=
  match s.store.staging with
  | some m =>
      if stepInTime s ∧ imageOf bytes = m then endCommit none (adoptImage m s) else endCommit (some .verify) s
  | none => endCommit (some .verify) s

def execCommitVerifyDone (bytes : List Byte) (s : State) : Host.Outcome State Fault Refusal :=
  match s.store.commit with
  | .verify => .next (verifyCommit bytes s)
  | .idle => .next s
  | .erase => .next s
  | .program _ => .next s

/-- R200: a commit step exceeds 500 ms. -/
def execCommitStepTimeout (s : State) : Host.Outcome State Fault Refusal :=
  match s.store.commit.stage with
  | none => .next s
  | some g => .next (endCommit (some g) (s.upTo (s.store.stepSince + Config.commitStepLimit)))

end Sys2Proof.Machine
end

