-- ==== Sys2Proof/Machine/HostLink.lean ====
section
/-! DEFINITION. Machine/HostLink.lean: the Host Link. Counters and the reply FIFO (R181 to R183), the judgement of
every request with its reply and effects (R184 to R190 and the rules they cite), and the receiver's framing
(R179, R180). -/

namespace Sys2Proof.Machine

open Sys2Proof

/-! ### Replies and counters -/

/-- R182, R183: a reply joins the tail of the FIFO. -/
def pushReply (r : Reply) (s : State) : State := s.onLink (fun l => { l with fifo := l.fifo ++ [r] })

/-- R181: a good frame is counted; the framing state is HUNTING again after its CHECK (R179). -/
def countGood (s : State) : State :=
  s.onLink (fun l => { l with framing := .hunting, good := (l.good + 1) % Config.goodModulus })

/-- R181: a discarded frame is counted, up to 255. -/
def countBad (s : State) : State := s.onLink (fun l => { l with bad := min (l.bad + 1) Config.badLimit })

/-- R182, R188: a good frame: discarded while a RESTART waits for its reply, discarded with OVERRUN when the FIFO
is full, and otherwise counted and dispatched. One that comes while a RESTART waits with four replies in the FIFO leaves
OVERRUN as it is (DESIGN CHOICE, notes/assumptions/64.md). -/
def goodFrame (k : State → State) (s : State) : State :=
  if s.link.restarting then s.onLink (fun l => { l with framing := .hunting })
  else
    let s1 := countGood s
    if Config.replyCapacity ≤ s.link.fifo.length then s1.onLink (fun l => { l with overrun := true }) else k s1

/-- A reply that is a status alone (R184). -/
def answer (kind tag : Byte) (st : Status) (s : State) : State := pushReply ⟨kind, tag, st, []⟩ s

/-! ### Queries (R185, R186, R190) -/

/-- R185, R203: the content of a STATUS reply. -/
def statusContent (s : State) : List Byte :=
  [s.store.mode.code, s.store.source.code, flag s.store.service, flag s.motion.estop, flag s.pins.holdoff,
    s.motion.supply.code] ++ be16? s.volts ++ be16 s.motion.budget ++ be16 s.drawSum
    ++ [s.crew.bus.code, byte s.link.notices.length, flag s.link.lost] ++ be16 s.link.good
    ++ [byte s.link.bad, flag s.link.overrun, flag s.store.lock, s.store.commit.code]

/-- R185: STATUS reports, then GOOD and BAD become 0 and OVERRUN clears. -/
def doStatus (tag : Byte) (s : State) : State :=
  (pushReply ⟨0x01, tag, .ok, statusContent s⟩ s).onLink (fun l => { l with good := 0, bad := 0, overrun := false })

/-- R186, R203: the content of a QUERY-AXIS reply. -/
def axisContent (s : State) (a : Axis) : List Byte :=
  let x := s.motion.axis.get a
  be16? x.position ++ be16? x.rawCode ++ [axisStateCode s a]
    ++ (match x.fault with
        | some f => [f.kind.code] ++ be16? f.position ++ [byte (f.tag.getD 0)]
        | none => [0] ++ be16? none ++ [0])
    ++ [byte (((s.claimant a).map Record.tag).getD 0)]

def doQueryAxis (tag axis : Byte) (s : State) : State :=
  match axisOf axis.toNat with
  | some a => pushReply ⟨0x02, tag, .ok, axisContent s a⟩ s
  | none => answer 0x02 tag .badField s

/-- R203: the flags of a record, bit 0 CLAMPED and bit 1 DEGRADED. -/
def Record.flags (r : Record) : Byte := byte ((if r.clamped then 1 else 0) + (if r.degraded then 2 else 0))

/-- R186: the ms since the last refresh of a held record, stopping at 65,535; 0 for a record that is not held, to which
R186 and R203 give no value (DESIGN CHOICE, notes/assumptions/51.md). -/
def sinceRefresh (s : State) (r : Record) : Nat :=
  if r.held then min ((s.clock - r.lastRefresh) / Config.ms) 65535 else 0

/-- R203: the code of a field that may be absent. -/
def codeOr0 {α : Type} (code : α → Byte) : Option α → Byte
  | some x => code x
  | none => 0

/-- R186, R203: the 24 bytes of a record. -/
def recordContent (s : State) (r : Record) : List Byte :=
  [byte r.tag, r.source.code, byte (r.station.getD 0), r.kind.code, byte (axisNumber r.axis),
    byte ((r.seq.map SeqFields.number).getD 0), byte ((r.seq.map SeqFields.index).getD 0)]
    ++ be16 r.target ++ [r.dir.code, r.speed.code, r.flags, flag r.held] ++ be16 (sinceRefresh s r)
    ++ [byte r.cls] ++ be16 r.arrival ++ [r.state.code, codeOr0 WaitReason.code r.waitReason] ++ be16 r.draw
    ++ [flag (s.motion.bank == some r.tag), codeOr0 Result.code r.pendingResult]

def doQueryList (tag : Byte) (s : State) : State :=
  pushReply ⟨0x03, tag, .ok, byte s.motion.records.length :: s.motion.records.flatMap (recordContent s)⟩ s

/-- R190: up to four oldest notices are removed and returned, with LOST, which clears. -/
def doReadNotices (tag : Byte) (s : State) : State :=
  let taken := s.link.notices.take 4
  let left := s.link.notices.drop 4
  (pushReply ⟨0x0E, tag, .ok,
      [byte taken.length, flag s.link.lost, byte left.length] ++ taken.flatMap Notice.bytes⟩ s).onLink
    (fun l => { l with notices := left, lost := false })

/-! ### Motion requests (R187) -/

/-- R27: a tag that a motion request may carry. -/
def hostTag (tag : Byte) : Bool := 1 ≤ tag.toNat && tag.toNat ≤ 199

/-- R187: a MOVE reply's content; the others have none. -/
def motionContent (kind : Byte) (r : Record) : List Byte := if kind = 0x04 then be16 r.target ++ [r.flags] else []

/-- R28 to R30: a CAB motion request is judged, answered, and then takes its effect. -/
def doMotion (kind tag : Byte) (d : Demand) (s : State) : State :=
  match judgeRequest s { tag := some tag.toNat, source := .cab, station := none, demand := d } with
  | .refuse st => answer kind tag st s
  | .accept r => settle (acceptRecord r (pushReply ⟨kind, tag, .ok, motionContent kind r⟩ s))
  | .amend old r => settle (amendRecord old r (pushReply ⟨kind, tag, .amended, motionContent kind r⟩ s))

def doMove (tag axis : Byte) (target : Half) (speed : Byte) (s : State) : State :=
  match hostTag tag, axisOf axis.toNat, speedOf speed.toNat with
  | true, some a, some sp => doMotion 0x04 tag (.move a target.toInt sp) s
  | _, _, _ => answer 0x04 tag .badField s

def doJog (tag axis dir speed : Byte) (s : State) : State :=
  match hostTag tag, axisOf axis.toNat, dirOf dir.toNat, speedOf speed.toNat with
  | true, some a, some d, some sp => doMotion 0x05 tag (.jog a d sp) s
  | _, _, _, _ => answer 0x05 tag .badField s

/-- R93, R187: a refresh of a held CAB record by its tag. -/
def doJogRefresh (tag : Byte) (s : State) : State :=
  match s.find tag.toNat with
  | some r =>
      if r.source = .cab ∧ r.held then refresh r (answer 0x06 tag .ok s) else answer 0x06 tag .badField s
  | none => answer 0x06 tag .badField s

def doRunSequence (tag seq held : Byte) (s : State) : State :=
  if hostTag tag && decide (1 ≤ seq.toNat) && decide (seq.toNat ≤ 6) && decide (held.toNat ≤ 1) then
    doMotion 0x07 tag (.sequence seq.toNat (held = 1)) s
  else answer 0x07 tag .badField s

/-! ### STOP and STOP-ALL (R115, R117) -/

/-- R115: CAB holds HOLD or TARGET on every axis that a record claims. -/
def mayStop (s : State) (r : Record) : Bool := axes.all (fun a => !r.claims a || mayHold s .cab a)

/-- R115: the STOP is a release: it names by tag a held CAB record that is not PAUSED. One in its pause stop counts
here too, where R109 clears the pause mark at a STOP naming the tag (DESIGN CHOICE, notes/assumptions/40.md), and so does
one in WAITING after its first grant, which R104 has end STOPPED (DESIGN CHOICE, notes/assumptions/55.md). -/
def stopIsRelease (r : Record) : Bool := r.source == .cab && r.held && r.state != .paused

def stopTag (tag : Byte) (n : Nat) (s : State) : State :=
  match s.find n with
  | none => answer 0x08 tag .badField s
  | some r =>
      if !mayStop s r then answer 0x08 tag .notPermitted s
      else
        let s1 := answer 0x08 tag .ok s
        settle (if stopIsRelease r then holdStop .released r s1 else stopProper .stopped r s1)

def stopAxis (tag : Byte) (a : Axis) (s : State) : State :=
  match s.claimant a with
  | none => answer 0x08 tag .ok s
  | some r =>
      if !mayHold s .cab a then answer 0x08 tag .notPermitted s
      else settle (stopProper .stopped r (answer 0x08 tag .ok s))

/-- R115: a STOP names either an axis (FFH for none) or a record tag (00H for none). -/
def doStop (tag axis recordTag : Byte) (s : State) : State :=
  if axis = 0xFF then
    (if recordTag = 0 then answer 0x08 tag .badField s else stopTag tag recordTag.toNat s)
  else
    match axisOf axis.toNat with
    | some a => if recordTag = 0 then stopAxis tag a s else answer 0x08 tag .badField s
    | none => answer 0x08 tag .badField s

/-- R117: the host's STOP-ALL. -/
def doStopAll (tag : Byte) (s : State) : State := settle (stopEvery .stopped (answer 0x09 tag .ok s))

/-! ### ESTOP, ESTOP-CLEAR and FAULT-CLEAR -/

/-- R118, R120: the host's ESTOP. -/
def doEstop (tag : Byte) (s : State) : State := estopCause .cab (answer 0x0A tag .ok s)

/-- R121: the host's ESTOP-CLEAR. -/
def doEstopClear (tag : Byte) (s : State) : State :=
  if !s.motion.estop then answer 0x0B tag .ok s
  else if clearAllowed s then clearLatch (answer 0x0B tag .ok s)
  else answer 0x0B tag .held s

/-- R131: an output passes on its latest echo and its latest reading. -/
def outputPasses (s : State) (o : DriveOut) : Bool :=
  (s.drive.out.get o).echoMatch && decide ((s.drive.out.get o).reading ≤ (Builtin.driveThresholds o).shortAbove)

/-- R131: the sensor verdict (R16) and the output verdict. -/
def faultClears (s : State) (a : Axis) : Bool :=
  (s.sense.get (.axis a)).clearable && (outputsOf a).all (outputPasses s)

/-- R132 stage 2: the hold on an output lifts when no axis of which it is an output is FAULTED. -/
def liftHold (s : State) (o : DriveOut) : State :=
  if (axesOf o).any s.faulted then s
  else s.onOut o (fun r => { r with force := { r.force with faultHold := false } })

/-- R132: the fault record is removed, the holds lift, and the bank may return. -/
def clearFault (a : Axis) (s : State) : State :=
  let s1 := (outputsOf a).foldl liftHold (s.onAxis a (fun x => { x with fault := none }))
  if isHydraulic a ∧ !s1.bankWithheld then settle s1.oweAttempt else s1

def faultClearAxis (tag : Byte) (a : Axis) (s : State) : State :=
  if !s.faulted a then answer 0x0C tag .ok s
  else if faultClears s a then clearFault a (answer 0x0C tag .ok s)
  else answer 0x0C tag .stillFaulted s

/-- R162: a lamp fault clears on the lamp output's latest echo and latest reading. -/
def lampClears (s : State) (l : Lamp) : Bool :=
  (s.drive.lamp.get l).echoMatch && decide ((s.drive.lamp.get l).reading ≤ Builtin.lampThresholds.shortAbove)

/-- R162: the lamp fault is removed and the SHORT hold lifted. The on-time and the open count of a lamp that is lit run on,
so an OPEN that remains may latch again in the same lit phase (DESIGN CHOICE, notes/assumptions/57.md). -/
def clearLampFault (l : Lamp) (s : State) : State :=
  (s.onLamp l (fun b => { b with fault := none })).onLampOut l (fun r => { r with shortForce := false })

def faultClearLamp (tag : Byte) (l : Lamp) (s : State) : State :=
  if !s.lampFaulted l then answer 0x0C tag .ok s
  else if lampClears s l then clearLampFault l (answer 0x0C tag .ok s)
  else answer 0x0C tag .stillFaulted s

/-- R131: a FAULT-CLEAR names one axis or one channel, FFH standing for none. -/
def doFaultClear (tag axis channel : Byte) (s : State) : State :=
  if axis = 0xFF then
    match lampOf channel.toNat with
    | some l => faultClearLamp tag l s
    | none => answer 0x0C tag .badField s
  else
    match axisOf axis.toNat with
    | some a => if channel = 0xFF then faultClearAxis tag a s else answer 0x0C tag .badField s
    | none => answer 0x0C tag .badField s

/-! ### BEACON-OVERRIDE (R157) -/

/-- R157: a channel takes an override, or CLEAR removes it. -/
def takeOverride (p : Option OverridePattern) (seconds : Nat) (b : Beacon) : Beacon :=
  { b with
    override := p.map (fun p => { pattern := p, remaining := if seconds = 0 then none else some (seconds * 1000) })
    pulse := 0
    shown := false }

def doBeaconOverride (tag channel pattern : Byte) (seconds : Half) (s : State) : State :=
  match lampOf channel.toNat, overrideOf pattern.toNat, decide (seconds.toNat ≤ 600) with
  | some l, some p, true =>
      if s.store.mode = .run then (answer 0x0D tag .ok s).onLamp l (takeOverride p seconds.toNat)
      else answer 0x0D tag .starting s
  | _, _, _ => answer 0x0D tag .badField s

/-! ### Profile requests (R197 to R199, R201) -/

/-- R197, R198: a region number, an offset and a count that name bytes of a region. -/
def namesBytes (last : Nat) (region : Byte) (offset : Half) (count : Nat) : Bool :=
  decide (region.toNat ≤ last) && decide (1 ≤ count) && decide (count ≤ 48)
    && decide (offset.toNat + count ≤ regionLength region.toNat)

/-- R192: an access that stays inside the 4,096 bytes of an image. -/
def insideImage (m : Image) (region : Nat) (offset count : Nat) : Bool :=
  decide (m.offset region + offset + count ≤ Config.imageSize)

/-- R197: PROFILE-READ, with the bytes of the profile in force. -/
def doProfileRead (tag region : Byte) (offset : Half) (length : Byte) (s : State) :
    Host.Outcome State Fault Refusal :=
  if !namesBytes 7 region offset length.toNat then .next (answer 0x0F tag .badField s)
  else
    match s.store.mode, s.store.inForce with
    | .run, some m =>
        if insideImage m region.toNat offset.toNat length.toNat then
          .next (pushReply ⟨0x0F, tag, .ok, m.readAll (m.offset region.toNat + offset.toNat) length.toNat⟩ s)
        else .fault .imageAddress
    | _, _ => .next (answer 0x0F tag .starting s)

/-- R198: the checks of a PROFILE-STAGE after its decode, in the order of the table. A SERVICE region under the lock
with SERVICE clear is NOT_PERMITTED, where R201 says LOCKED (DESIGN CHOICE, notes/assumptions/43.md). -/
def stageRefusal (s : State) (region : Nat) : Option Status :=
  if s.store.mode ≠ .run then some .starting
  else if s.store.commit ≠ .idle then some .committed
  else if regionService region && !s.store.service then some .notPermitted
  else if region = 5 ∧ s.store.lock then some .locked
  else none

/-- R198: the bytes written into the staging copy. -/
def stageBytes (k : Nat) (bytes : List Byte) (s : State) : State :=
  s.onStore (fun st => { st with staging := st.staging.map (fun m => m.writeAll k bytes) })

/-- R198: PROFILE-STAGE. -/
def doProfileStage (tag region : Byte) (offset : Half) (bytes : List Byte) (s : State) :
    Host.Outcome State Fault Refusal :=
  if !namesBytes 6 region offset bytes.length then .next (answer 0x10 tag .badField s)
  else
    match stageRefusal s region.toNat, s.store.staging with
    | some st, _ => .next (answer 0x10 tag st s)
    | none, some m =>
        if insideImage m region.toNat offset.toNat bytes.length then
          .next (stageBytes (m.offset region.toNat + offset.toNat) bytes (answer 0x10 tag .ok s))
        else .fault .imageAddress
    | none, none => .next (answer 0x10 tag .starting s)

/-- R198: PROFILE-DISCARD. -/
def doProfileDiscard (tag : Byte) (s : State) : State :=
  if s.store.mode ≠ .run then answer 0x11 tag .starting s
  else
    (answer 0x11 tag .ok s).onStore (fun st =>
      if st.commit = .idle then { st with staging := st.inForce } else st)

/-- R199, R200: the commit starts: the CRC is placed in the staging copy and ERASE begins. -/
def startCommit (s : State) : State :=
  s.onStore (fun st =>
    { st with staging := st.staging.map Image.sealed, commit := .erase, stepSince := s.clock })

/-- R199: the first bad region and offset of the staging copy. -/
def stagingBad (s : State) : Option (Nat × Nat) := s.store.staging.bind Image.firstBad

/-- R199: PROFILE-COMMIT. -/
def doProfileCommit (tag : Byte) (s : State) : State :=
  if s.store.mode ≠ .run then answer 0x12 tag .starting s
  else if s.store.commit ≠ .idle then answer 0x12 tag .profileBusy s
  else if !s.motion.records.isEmpty then answer 0x12 tag .notEmpty s
  else
    match stagingBad s with
    | some (r, k) => pushReply ⟨0x12, tag, .badProfile, byte r :: be16 k⟩ s
    | none => startCommit (answer 0x12 tag .ok s)

/-- R201: LOCK-ENVELOPES. -/
def doLockEnvelopes (tag : Byte) (s : State) : State :=
  if s.store.mode ≠ .run then answer 0x13 tag .starting s
  else
    let s1 := answer 0x13 tag .ok s
    if s.store.lock then s1
    else if s.store.commit = .idle then setLock s1
    else s1.onStore (fun st => { st with lockDue := true })

/-- R188: RESTART. -/
def doRestart (tag : Byte) (s : State) : State :=
  if s.motion.estop then answer 0x14 tag .estopActive s
  else (answer 0x14 tag .ok s).onLink (fun l => { l with restarting := true })

/-! ### The request rows -/

/-- R182: a good frame whose dispatch may fault (R192); while a RESTART waits OVERRUN stays as it is (DESIGN CHOICE,
notes/assumptions/64.md). -/
def goodFrameOutcome (k : State → Host.Outcome State Fault Refusal) (s : State) : Host.Outcome State Fault Refusal :=
  if s.link.restarting then .next (s.onLink (fun l => { l with framing := .hunting }))
  else
    let s1 := countGood s
    if Config.replyCapacity ≤ s.link.fifo.length then .next (s1.onLink (fun l => { l with overrun := true }))
    else k s1

def execStatus (tag : Byte) (s : State) : Host.Outcome State Fault Refusal := .next (goodFrame (doStatus tag) s)

def execQueryAxis (tag axis : Byte) (s : State) : Host.Outcome State Fault Refusal :=
  .next (goodFrame (doQueryAxis tag axis) s)

def execQueryList (tag : Byte) (s : State) : Host.Outcome State Fault Refusal :=
  .next (goodFrame (doQueryList tag) s)

def execMove (tag axis : Byte) (target : Half) (speed : Byte) (s : State) : Host.Outcome State Fault Refusal :=
  .next (goodFrame (doMove tag axis target speed) s)

def execJog (tag axis dir speed : Byte) (s : State) : Host.Outcome State Fault Refusal :=
  .next (goodFrame (doJog tag axis dir speed) s)

def execJogRefresh (tag : Byte) (s : State) : Host.Outcome State Fault Refusal :=
  .next (goodFrame (doJogRefresh tag) s)

def execRunSequence (tag seq held : Byte) (s : State) : Host.Outcome State Fault Refusal :=
  .next (goodFrame (doRunSequence tag seq held) s)

def execStop (tag axis recordTag : Byte) (s : State) : Host.Outcome State Fault Refusal :=
  .next (goodFrame (doStop tag axis recordTag) s)

def execStopAll (tag : Byte) (s : State) : Host.Outcome State Fault Refusal := .next (goodFrame (doStopAll tag) s)

def execEstop (tag : Byte) (s : State) : Host.Outcome State Fault Refusal := .next (goodFrame (doEstop tag) s)

def execEstopClear (tag : Byte) (s : State) : Host.Outcome State Fault Refusal :=
  .next (goodFrame (doEstopClear tag) s)

def execFaultClear (tag axis channel : Byte) (s : State) : Host.Outcome State Fault Refusal :=
  .next (goodFrame (doFaultClear tag axis channel) s)

def execBeaconOverride (tag channel pattern : Byte) (seconds : Half) (s : State) :
    Host.Outcome State Fault Refusal :=
  .next (goodFrame (doBeaconOverride tag channel pattern seconds) s)

def execReadNotices (tag : Byte) (s : State) : Host.Outcome State Fault Refusal :=
  .next (goodFrame (doReadNotices tag) s)

def execProfileRead (tag region : Byte) (offset : Half) (length : Byte) (s : State) :
    Host.Outcome State Fault Refusal :=
  goodFrameOutcome (doProfileRead tag region offset length) s

def execProfileStage (tag region : Byte) (offset : Half) (bytes : List Byte) (s : State) :
    Host.Outcome State Fault Refusal :=
  goodFrameOutcome (doProfileStage tag region offset bytes) s

def execProfileDiscard (tag : Byte) (s : State) : Host.Outcome State Fault Refusal :=
  .next (goodFrame (doProfileDiscard tag) s)

def execProfileCommit (tag : Byte) (s : State) : Host.Outcome State Fault Refusal :=
  .next (goodFrame (doProfileCommit tag) s)

def execLockEnvelopes (tag : Byte) (s : State) : Host.Outcome State Fault Refusal :=
  .next (goodFrame (doLockEnvelopes tag) s)

def execRestart (tag : Byte) (s : State) : Host.Outcome State Fault Refusal := .next (goodFrame (doRestart tag) s)

/-- R187: the request kinds are 01H to 14H. -/
def knownKind (kind : Byte) : Bool := 1 ≤ kind.toNat && kind.toNat ≤ 0x14

/-- R184 stage 1: a good frame whose KIND is no request kind. -/
def execUnknownKind (kind tag : Byte) (s : State) : Host.Outcome State Fault Refusal :=
  if knownKind kind then .next s else .next (goodFrame (answer kind tag .badKind) s)

/-- R182, R188: a good frame arrives with four replies in the FIFO. -/
def execFrameOverrun (s : State) : Host.Outcome State Fault Refusal :=
  if Config.replyCapacity ≤ s.link.fifo.length then .next (goodFrame id s) else .next s

/-- R183, R188: the CHECK of the reply at the head leaves TXD; when it was the OK of a RESTART, the restart takes
effect. -/
def execReplySent (s : State) : Host.Outcome State Fault Refusal :=
  match s.link.fifo with
  | [] => .next s
  | _ :: rest =>
      let s1 := s.onLink (fun l => { l with fifo := rest })
      .next (if rest.isEmpty then takeRestart s1 else s1)

/-! ### Decode of a frame's bytes (R184) -/

/-- R184: the dispatch of a request by its kind and payload; a payload of another length is BAD_LENGTH. -/
def dispatch (kind tag : Byte) (payload : List Byte) (s : State) : Host.Outcome State Fault Refusal :=
  match kind.toNat, payload with
  | 0x01, [] => .next (doStatus tag s)
  | 0x02, [axis] => .next (doQueryAxis tag axis s)
  | 0x03, [] => .next (doQueryList tag s)
  | 0x04, [axis, t1, t0, speed] => .next (doMove tag axis (t1 ++ t0) speed s)
  | 0x05, [axis, dir, speed] => .next (doJog tag axis dir speed s)
  | 0x06, [] => .next (doJogRefresh tag s)
  | 0x07, [seq, held] => .next (doRunSequence tag seq held s)
  | 0x08, [axis, recordTag] => .next (doStop tag axis recordTag s)
  | 0x09, [] => .next (doStopAll tag s)
  | 0x0A, [] => .next (doEstop tag s)
  | 0x0B, [] => .next (doEstopClear tag s)
  | 0x0C, [axis, channel] => .next (doFaultClear tag axis channel s)
  | 0x0D, [channel, pattern, t1, t0] => .next (doBeaconOverride tag channel pattern (t1 ++ t0) s)
  | 0x0E, [] => .next (doReadNotices tag s)
  | 0x0F, [region, o1, o0, length] => doProfileRead tag region (o1 ++ o0) length s
  | 0x10, region :: o1 :: o0 :: count :: bytes =>
      if count.toNat = bytes.length then doProfileStage tag region (o1 ++ o0) bytes s
      else .next (answer kind tag .badLength s)
  | 0x11, [] => .next (doProfileDiscard tag s)
  | 0x12, [] => .next (doProfileCommit tag s)
  | 0x13, [] => .next (doLockEnvelopes tag s)
  | 0x14, [] => .next (doRestart tag s)
  | _, _ => .next (answer kind tag (if knownKind kind then .badLength else .badKind) s)

/-! ### The receiver (R179, R180) -/

/-- The receiver's framing state changes. -/
def setFraming (f : Framing) (s : State) : State := s.onLink (fun l => { l with framing := f })

/-- R179: a character judged as a possible SYNC. -/
def maySync (c : Byte) (now : Nat) : Framing := if c = 0xC3 then .inside [] now else .hunting

/-- R179: a LEN outside 2 to 60 discards the frame, counts it, and may itself be a SYNC. -/
def badLen (c : Byte) (s : State) : State := setFraming (maySync c s.clock) (countBad s)

/-- R179, R188: a CHECK that does not sum to 00H discards the frame; it is not counted while a RESTART waits. -/
def badCheck (s : State) : State := setFraming .hunting (if s.link.restarting then s else countBad s)

/-- R180: a framing error, or a long gap, inside a frame discards the partial frame and counts it. -/
def dropFrame (s : State) : State := setFraming .hunting (countBad s)

/-- R179: the characters from LEN on form a good frame. -/
def takeFrame (body : List Byte) (check : Byte) (s : State) : Host.Outcome State Fault Refusal :=
  if check = checkOf body then
    match body with
    | _ :: kind :: tag :: payload => goodFrameOutcome (dispatch kind tag payload) s
    | _ => .next (setFraming .hunting s)
  else .next (badCheck s)

/-- R179: LEN is valid from 2 to 60. -/
def validLen (c : Byte) : Bool := 2 ≤ c.toNat && c.toNat ≤ 60

/-- R179: a sound character inside a frame, `taken` being those since SYNC. -/
def takeCharacter (taken : List Byte) (c : Byte) (s : State) : Host.Outcome State Fault Refusal :=
  match taken with
  | [] => if validLen c then .next (setFraming (.inside [c] s.clock) s) else .next (badLen c s)
  | len :: _ =>
      if taken.length ≤ len.toNat then .next (setFraming (.inside (taken ++ [c]) s.clock) s)
      else takeFrame taken c s

/-- R179, R180: a character outside a frame; `stopBit` is low on a framing error. -/
def huntCharacter (c : Byte) (stopBit : Bool) (s : State) : State :=
  if stopBit then setFraming (maySync c s.clock) s else s

/-- R180: the gap since the last character's stop bit, the last having ended at `last` and this one ending now, is
longer than 694 µs. The start bit lies one character time back (DEDUCED, notes/assumptions/44.md). -/
def longGap (last now : Nat) : Bool := last + Config.hostGap + Config.hostCharacter < now

/-- R179, R180: a character's stop bit ends on RXD. A character that ends a long gap is judged as a possible SYNC. -/
def execHostCharacterReceived (c : Byte) (stopBit : Bool) (s : State) : Host.Outcome State Fault Refusal :=
  match s.link.framing with
  | .hunting => .next (huntCharacter c stopBit s)
  | .inside taken last =>
      if longGap last s.clock then .next (huntCharacter c stopBit (dropFrame s))
      else if stopBit then takeCharacter taken c s
      else .next (dropFrame s)

/-- R180: a framing error inside a frame discards it; outside a frame the character is skipped. -/
def framingError (s : State) : State :=
  match s.link.framing with
  | .hunting => s
  | .inside _ _ => dropFrame s

/-- R179 to R181: a bad frame is discarded and counted. -/
def execHostFrameBad (why : BadFrame) (s : State) : Host.Outcome State Fault Refusal :=
  match why with
  | .len c => if validLen c then .next s else .next (badLen c s)
  | .check => .next (badCheck s)
  | .framing => .next (framingError s)

/-- R180: a gap of more than 694 µs inside a frame, found in the first µs after it (notes/assumptions/44.md). -/
def execHostGapTimeout (s : State) : Host.Outcome State Fault Refusal :=
  match s.link.framing with
  | .hunting => .next s
  | .inside _ last => .next (dropFrame (s.upTo (last + Config.hostGap + 1)))

end Sys2Proof.Machine
end

