-- ==== Sys2Proof/Machine/Dispatch.lean ====
section
/-! DEFINITION. Machine/Dispatch.lean: one arm per command, each one direct call of its meaning. -/

namespace Sys2Proof.Machine

open Sys2Proof

def exec (i : Instr) (s : State) : Host.Outcome State Fault Refusal :=
  match i with
  | .powerOnReset => Sys2Proof.Machine.execPowerOnReset s
  | .profileLoadEnd image => Sys2Proof.Machine.execProfileLoadEnd image s
  | .loadReadTimeout => Sys2Proof.Machine.execLoadReadTimeout s
  | .strapSample => Sys2Proof.Machine.execStrapSample s
  | .lampTestComplete => Sys2Proof.Machine.execLampTestComplete s
  | .estopPinLow => Sys2Proof.Machine.execEstopPinLow s
  | .holdoffAsserted => Sys2Proof.Machine.execHoldoffAsserted s
  | .holdoffReleased => Sys2Proof.Machine.execHoldoffReleased s
  | .debounceStateChange input => Sys2Proof.Machine.execDebounceStateChange input s
  | .vehicleMoving => Sys2Proof.Machine.execVehicleMoving s
  | .vehicleMovingExpiry => Sys2Proof.Machine.execVehicleMovingExpiry s
  | .freeRunTimerExpiry c => Sys2Proof.Machine.execFreeRunTimerExpiry c s
  | .controlIntervalEvent a => Sys2Proof.Machine.execControlIntervalEvent a s
  | .dualTrackPrimaryComplete c code => Sys2Proof.Machine.execDualTrackPrimaryComplete c code s
  | .conversionComplete c code => Sys2Proof.Machine.execConversionComplete c code s
  | .stall a => Sys2Proof.Machine.execStall a s
  | .overload => Sys2Proof.Machine.execOverload s
  | .sensorDisagree c => Sys2Proof.Machine.execSensorDisagree c s
  | .supplyCut => Sys2Proof.Machine.execSupplyCut s
  | .supplyRecover => Sys2Proof.Machine.execSupplyRecover s
  | .waitTimerExpiry tag => Sys2Proof.Machine.execWaitTimerExpiry tag s
  | .holdTimerExpiry tag => Sys2Proof.Machine.execHoldTimerExpiry tag s
  | .pauseWindowExpiry tag => Sys2Proof.Machine.execPauseWindowExpiry tag s
  | .prewarnTimerExpiry tag => Sys2Proof.Machine.execPrewarnTimerExpiry tag s
  | .periodBoundary r => Sys2Proof.Machine.execPeriodBoundary r s
  | .hitPhaseEnd o => Sys2Proof.Machine.execHitPhaseEnd o s
  | .openFinding o => Sys2Proof.Machine.execOpenFinding o s
  | .doorCurrentObstruction a => Sys2Proof.Machine.execDoorCurrentObstruction a s
  | .periodCentre l => Sys2Proof.Machine.execPeriodCentre l s
  | .echoFinding o => Sys2Proof.Machine.execEchoFinding o s
  | .lampBoundary => Sys2Proof.Machine.execLampBoundary s
  | .stretchTimerExpiry l => Sys2Proof.Machine.execStretchTimerExpiry l s
  | .overridePulseExpiry l => Sys2Proof.Machine.execOverridePulseExpiry l s
  | .overrideExpiry l => Sys2Proof.Machine.execOverrideExpiry l s
  | .holdFrame src dst data => Sys2Proof.Machine.execHoldFrame src dst data s
  | .clearFrame src dst => Sys2Proof.Machine.execClearFrame src dst s
  | .haltFrame src => Sys2Proof.Machine.execHaltFrame src s
  | .crewFrameDiscard frame => Sys2Proof.Machine.execCrewFrameDiscard frame s
  | .crewFrameTimeout => Sys2Proof.Machine.execCrewFrameTimeout s
  | .silenceTimerExpiry station => Sys2Proof.Machine.execSilenceTimerExpiry station s
  | .clearRefusedTimerExpiry station => Sys2Proof.Machine.execClearRefusedTimerExpiry station s
  | .lampsTimer => Sys2Proof.Machine.execLampsTimer s
  | .lampsFrameStart => Sys2Proof.Machine.execLampsFrameStart s
  | .lampsFrameSent => Sys2Proof.Machine.execLampsFrameSent s
  | .lampsNotAcknowledged => Sys2Proof.Machine.execLampsNotAcknowledged s
  | .arbitrationLost => Sys2Proof.Machine.execArbitrationLost s
  | .backoffEnd => Sys2Proof.Machine.execBackoffEnd s
  | .busStuck => Sys2Proof.Machine.execBusStuck s
  | .busRecover => Sys2Proof.Machine.execBusRecover s
  | .hostFrameBad why => Sys2Proof.Machine.execHostFrameBad why s
  | .hostGapTimeout => Sys2Proof.Machine.execHostGapTimeout s
  | .frameOverrun => Sys2Proof.Machine.execFrameOverrun s
  | .unknownKind kind tag => Sys2Proof.Machine.execUnknownKind kind tag s
  | .replySent => Sys2Proof.Machine.execReplySent s
  | .status tag => Sys2Proof.Machine.execStatus tag s
  | .queryAxis tag axis => Sys2Proof.Machine.execQueryAxis tag axis s
  | .queryList tag => Sys2Proof.Machine.execQueryList tag s
  | .move tag axis target speed => Sys2Proof.Machine.execMove tag axis target speed s
  | .jog tag axis dir speed => Sys2Proof.Machine.execJog tag axis dir speed s
  | .jogRefresh tag => Sys2Proof.Machine.execJogRefresh tag s
  | .runSequence tag seq held => Sys2Proof.Machine.execRunSequence tag seq held s
  | .stop tag axis recordTag => Sys2Proof.Machine.execStop tag axis recordTag s
  | .stopAll tag => Sys2Proof.Machine.execStopAll tag s
  | .estop tag => Sys2Proof.Machine.execEstop tag s
  | .estopClear tag => Sys2Proof.Machine.execEstopClear tag s
  | .faultClear tag axis channel => Sys2Proof.Machine.execFaultClear tag axis channel s
  | .beaconOverride tag channel pattern seconds => Sys2Proof.Machine.execBeaconOverride tag channel pattern seconds s
  | .readNotices tag => Sys2Proof.Machine.execReadNotices tag s
  | .profileRead tag region offset length => Sys2Proof.Machine.execProfileRead tag region offset length s
  | .profileStage tag region offset bytes => Sys2Proof.Machine.execProfileStage tag region offset bytes s
  | .profileDiscard tag => Sys2Proof.Machine.execProfileDiscard tag s
  | .profileCommit tag => Sys2Proof.Machine.execProfileCommit tag s
  | .lockEnvelopes tag => Sys2Proof.Machine.execLockEnvelopes tag s
  | .restart tag => Sys2Proof.Machine.execRestart tag s
  | .restartTakesEffect => Sys2Proof.Machine.execRestartTakesEffect s
  | .commitEraseDone => Sys2Proof.Machine.execCommitEraseDone s
  | .commitPageDone => Sys2Proof.Machine.execCommitPageDone s
  | .commitVerifyDone readBack => Sys2Proof.Machine.execCommitVerifyDone readBack s
  | .commitStepTimeout => Sys2Proof.Machine.execCommitStepTimeout s
  | .discretePinChange p level => Sys2Proof.Machine.execDiscretePinChange p level s
  | .crewFrameStart => Sys2Proof.Machine.execCrewFrameStart s
  | .crewFrameIgnored bytes => Sys2Proof.Machine.execCrewFrameIgnored bytes s
  | .hostCharacterReceived c stopBit => Sys2Proof.Machine.execHostCharacterReceived c stopBit s

end Sys2Proof.Machine
end

