-- ==== Sys2Proof/WellFormed.lean ====
section
/-! DEFINITION. WellFormed.lean: which operands a command may have for the event that its row names to be one that
the rules of the spec describe. exec gives every command a meaning, well-formed or not; an ill-formed one is
an event that no part can see. -/

namespace Sys2Proof

open Sys2Proof.Machine

/-- A record's tag (R25). -/
def tagOk (t : Nat) : Bool := 1 ≤ t && t ≤ 255

/-- A pendant's station address (R164). -/
def stationOk (n : Nat) : Bool := 1 ≤ n && n ≤ 14

/-- SC0 and SC1 are dual-track (R4). -/
def dualOk : Channel → Bool
  | .axis .lift => true
  | .axis .tilt => true
  | .axis .fold => false
  | .axis .kdoor => false
  | .axis .rdoor => false
  | .pitch => false
  | .pressure => false
  | .battery => false

/-- A directional valve (R80). -/
def valveOk : DriveOut → Bool
  | .do1 | .do3 | .do4 | .do5 | .do6 => true
  | .do0 | .do2 | .do7 | .do8 | .do9 | .do10 => false

/-- A door (R89). -/
def doorOk : Axis → Bool
  | .kdoor => true
  | .rdoor => true
  | .lift => false
  | .tilt => false
  | .fold => false

/-- A frame source that is a pendant (R164). -/
def sourceOk (src : BitVec 4) : Bool := src != 0 && src != 15

/-- A destination of a frame to the part (R166). -/
def partOk (dst : BitVec 4) : Bool := dst == 0 || dst == 15

/-- A reading that a driver can give (R145). -/
def senseOk (x : Sense) : Bool := x.current ≤ 4000

def readingsOk : Readings → Bool
  | .pump a => senseOk a
  | .valve a b c d e f => senseOk a && senseOk b && senseOk c && senseOk d && senseOk e && senseOk f
  | .bridge a b c d => senseOk a && senseOk b && senseOk c && senseOk d
  | .lamp a b c d => senseOk a && senseOk b && senseOk c && senseOk d

/-- R179: a LEN that discards its frame. -/
def badFrameOk : BadFrame → Bool
  | .len c => !(2 ≤ c.toNat && c.toNat ≤ 60)
  | .check => true
  | .framing => true

/-- The well-formed commands. -/
def Instr.wellFormed : Instr → Bool
  | .powerOnReset => true
  | .profileLoadEnd image => image.length == 4096
  | .loadReadTimeout => true
  | .strapSample => true
  | .lampTestComplete => true
  | .estopPinLow => true
  | .holdoffAsserted => true
  | .holdoffReleased => true
  | .debounceStateChange _ => true
  | .vehicleMoving => true
  | .vehicleMovingExpiry => true
  | .freeRunTimerExpiry _ => true
  | .controlIntervalEvent _ => true
  | .dualTrackPrimaryComplete c _ => dualOk c
  | .conversionComplete _ _ => true
  | .stall _ => true
  | .overload => true
  | .sensorDisagree c => dualOk c
  | .supplyCut => true
  | .supplyRecover => true
  | .waitTimerExpiry tag => tagOk tag
  | .holdTimerExpiry tag => tagOk tag
  | .pauseWindowExpiry tag => tagOk tag
  | .prewarnTimerExpiry tag => tagOk tag
  | .periodBoundary r => readingsOk r
  | .hitPhaseEnd o => valveOk o
  | .openFinding _ => true
  | .doorCurrentObstruction a => doorOk a
  | .periodCentre _ => true
  | .echoFinding _ => true
  | .lampBoundary => true
  | .stretchTimerExpiry _ => true
  | .overridePulseExpiry _ => true
  | .overrideExpiry _ => true
  | .holdFrame src dst _ => sourceOk src && partOk dst
  | .clearFrame src dst => sourceOk src && partOk dst
  | .haltFrame src => sourceOk src
  | .crewFrameDiscard frame => (crewFrameOf frame.bytes).isNone && frame.rest == 0 || 1 ≤ frame.rest && frame.rest ≤ 8
  | .crewFrameTimeout => true
  | .silenceTimerExpiry station => stationOk station
  | .clearRefusedTimerExpiry station => stationOk station
  | .lampsTimer => true
  | .lampsFrameStart => true
  | .lampsFrameSent => true
  | .lampsNotAcknowledged => true
  | .arbitrationLost => true
  | .backoffEnd => true
  | .busStuck => true
  | .busRecover => true
  | .hostFrameBad why => badFrameOk why
  | .hostGapTimeout => true
  | .frameOverrun => true
  | .unknownKind kind _ => !(1 ≤ kind.toNat && kind.toNat ≤ 0x14)
  | .replySent => true
  | .status _ => true
  | .queryAxis _ _ => true
  | .queryList _ => true
  | .move _ _ _ _ => true
  | .jog _ _ _ _ => true
  | .jogRefresh _ => true
  | .runSequence _ _ _ => true
  | .stop _ _ _ => true
  | .stopAll _ => true
  | .estop _ => true
  | .estopClear _ => true
  | .faultClear _ _ _ => true
  | .beaconOverride _ _ _ _ => true
  | .readNotices _ => true
  | .profileRead _ _ _ _ => true
  | .profileStage _ _ _ bytes => bytes.length ≤ 54
  | .profileDiscard _ => true
  | .profileCommit _ => true
  | .lockEnvelopes _ => true
  | .restart _ => true
  | .restartTakesEffect => true
  | .commitEraseDone => true
  | .commitPageDone => true
  | .commitVerifyDone readBack => readBack.length == 4096
  | .commitStepTimeout => true
  | .discretePinChange _ _ => true
  | .crewFrameStart => true
  | .crewFrameIgnored bytes => (crewFrameOf bytes).isSome
  | .hostCharacterReceived _ _ => true

end Sys2Proof
end

