-- ==== Sys2Proof/Safety.lean ====
section
/-! DEFINITION. Safety.lean: what counts as a sound state and a safe run, in the terms that the statements use:
the numbered laws of the spec as predicates on one state, each with what it takes to be kept by every step, and
the reception of a run of characters. Ranges over axes and outputs are ranges over the lists of all of them, so
that every predicate is decidable. -/

namespace Sys2Proof.Machine

open Sys2Proof

/-! ### Outputs -/

/-- An output drives nothing, and holds nothing that would drive it at a boundary (R139). -/
abbrev DriveRecord.Quiet (r : DriveRecord) : Prop :=
  r.active = 0 ∧ r.staged = 0 ∧ r.updatePending = false ∧ r.hitMark = false ∧ r.phase = .off

/-- Every drive output is quiet. -/
abbrev State.DriveQuiet (s : State) : Prop := ∀ o ∈ driveOuts, (s.drive.out.get o).Quiet

/-- Law 5 and R124: while the ESTOP latch is set or HOLDOFF is asserted the list is empty and no output is driven;
a high HOLDOFF pin is asserted, and its release runs only while the pin is low (R20). -/
abbrev State.StopsHold (s : State) : Prop :=
  (s.pins.level.holdoff = true → s.pins.holdoff = true)
    ∧ (s.pins.holdoffLow.isSome = true → s.pins.level.holdoff = false)
    ∧ (s.motion.estop = true ∨ s.pins.holdoff = true → s.motion.records = [] ∧ s.DriveQuiet)

/-- Law 9 and R128: no record claims a faulted axis, and each of its outputs is quiet under a FAULT HOLD. -/
abbrev State.FaultsHold (s : State) : Prop :=
  ∀ a ∈ axes, s.faulted a = true →
    (∀ r ∈ s.motion.records, r.claims a = false)
      ∧ ∀ o ∈ outputsOf a, (s.drive.out.get o).Quiet ∧ (s.drive.out.get o).force.faultHold = true

/-! ### Counters and queues -/

/-- The lamp test counts at most 1000 periods (R160). -/
abbrev LampTest.Bounded : LampTest → Prop
  | .running n => n ≤ 1000
  | .notRun => True
  | .over => True

/-- Law 10, with the other counts that the spec bounds: the reply FIFO (R183), the next-tag pointer and the arrival
number (R27, R24), the blink clock (R150), the lamp test (R160) and the disagreement counts (R4). -/
abbrev State.CountersBounded (s : State) : Prop :=
  s.link.good ≤ 9999 ∧ s.link.bad ≤ 255 ∧ s.link.notices.length ≤ 16 ∧ s.link.fifo.length ≤ 4
    ∧ 200 ≤ s.motion.nextTag ∧ s.motion.nextTag ≤ 255 ∧ s.motion.arrivals ≤ 65535 ∧ s.beacon.blink ≤ 999
    ∧ s.beacon.test.Bounded ∧ ∀ a ∈ axes, (s.sense.axis.get a).disagree ≤ 2

/-! ### The motion list -/

/-- Law 2, with R23 and R25: tags are unique and in their owner's range, each axis has at most one claimant, every
record claims an axis, and the held records stand before the others. -/
abbrev State.ListSound (s : State) : Prop :=
  s.tags.Nodup
    ∧ (∀ a ∈ axes, (s.motion.records.filter (fun r => r.claims a)).length ≤ 1)
    ∧ (∀ r ∈ s.motion.records,
        (∃ a ∈ axes, r.claims a = true)
          ∧ (r.station.isNone = true → 1 ≤ r.tag ∧ r.tag ≤ 199)
          ∧ (r.station.isSome = true → 200 ≤ r.tag ∧ r.tag ≤ 255))
    ∧ s.motion.records.Pairwise (fun x y => y.held = true → x.held = true)

/-- The record has been granted: it is past WAITING, or its granted mark is set (R100). -/
abbrev Record.Granted (r : Record) : Prop := r.state ≠ .waiting ∨ ∃ q ∈ r.seq, q.granted = true

/-- R22, R35 and R100 for one record: a SEQUENCE claims, and counts in needs-bank, the axes of its steps and the
axis of its current one; a granted record that needs the bank holds it. -/
abbrev State.BankSoundFor (s : State) (r : Record) : Prop :=
  (∀ q ∈ r.seq,
      (∀ st ∈ stepsOf s q.number, q.claimed.get st.axis = true ∧ (isHydraulic st.axis = true → q.needsBank = true))
        ∧ q.claimed.get r.axis = true ∧ (isHydraulic r.axis = true → q.needsBank = true))
    ∧ (r.needsBank = true → r.Granted → s.motion.bank = some r.tag)

/-- R35: the bank's holder is a record of the list that needs it, the list is empty through LOADING and through a
commit (R195, R199), and every record keeps the rules of claims and bank. -/
abbrev State.BankSound (s : State) : Prop :=
  s.ListSound
    ∧ (s.store.mode = .loading ∨ s.store.commit ≠ .idle → s.motion.records = [])
    ∧ (∀ t ∈ s.motion.bank, ∃ r ∈ s.motion.records, r.tag = t ∧ r.needsBank = true)
    ∧ ∀ r ∈ s.motion.records, s.BankSoundFor r

/-- Law 1: two charged records whose current motions are hydraulic are one. -/
abbrev State.HydraulicExclusive (s : State) : Prop :=
  ∀ x ∈ s.motion.records, ∀ y ∈ s.motion.records,
    x.charged = true → y.charged = true → isHydraulic x.axis = true → isHydraulic y.axis = true → x.tag = y.tag

/-- R39: no grant attempt is owed between two commands, and no sequence entry has more than eight steps (R97). -/
abbrev State.Settled (s : State) : Prop :=
  s.motion.attemptsDue = 0 ∧ ∀ e ∈ s.profile.sequences, e.length ≤ 8

/-- Tags are unique, and no record but this one waits for a grant, so that the attempts which a change of it owes find
nothing else to grant. -/
abbrev State.AloneWaits (s : State) (r : Record) : Prop :=
  s.tags.Nodup ∧ s.motion.attemptsDue = 0 ∧ ∀ x ∈ s.motion.records, x.tag ≠ r.tag → x.state ≠ .waiting

/-- Law 7: a record that drives RDOOR open carries the road mark of its grant and the warned mark of its prewarn
(R61), in a sound list. -/
abbrev State.RoadWarned (s : State) : Prop :=
  s.ListSound
    ∧ ∀ r ∈ s.motion.records, r.axis = .rdoor → r.dir = .inc → r.inMotion = true → r.road = true ∧ r.warned = true

/-! ### Positions and duties -/

/-- R194: travel low below travel high on every axis. -/
abbrev Profile.TravelOrdered (p : Profile) : Prop := ∀ a ∈ axes, (p.limits.axis.get a).low < (p.limits.axis.get a).high

/-- R5: through LOADING nothing converts, so no axis has a position. -/
abbrev State.LoadingQuiet (s : State) : Prop :=
  s.store.mode = .loading →
    s.motion.records = []
      ∧ ∀ a ∈ axes, s.position a = none ∧ (s.sense.axis.get a).conversion = none
          ∧ (s.sense.axis.get a).timer = none ∧ (s.sense.axis.get a).sync = false

/-- Law 12: a position lies within travel with its margin. -/
abbrev State.PositionsWithin (s : State) : Prop :=
  s.LoadingQuiet
    ∧ ∀ a ∈ axes, ∀ x ∈ s.position a, (s.limits a).low - 20 ≤ x ∧ x ≤ (s.limits a).high + 20

/-- R75, R203: the duties that a profile names are at most 1000. -/
abbrev Profile.DutiesWithin (p : Profile) : Prop :=
  p.limits.holdDuty ≤ 1000
    ∧ ∀ a ∈ axes, (p.limits.axis.get a).dmaxNormal ≤ 1000 ∧ (p.limits.axis.get a).dmaxSlow ≤ 1000
        ∧ (p.limits.axis.get a).dmin ≤ 1000

/-- Law 4: no active, staged or last staged duty exceeds 1000. -/
abbrev State.DutiesBounded (s : State) : Prop :=
  (∀ o ∈ driveOuts, (s.drive.out.get o).active ≤ 1000 ∧ (s.drive.out.get o).staged ≤ 1000)
    ∧ ∀ r ∈ s.motion.records, r.dPrev ≤ 1000

/-! ### Samples -/

/-- The state once an axis has a position, as the tests of a control update read it (R9). -/
def State.withPosition (s : State) (a : Axis) (p : Int) : State := s.onAxis a (fun x => { x with position := some p })

/-- R11: a value brought within travel and its margin. -/
def State.withinMargin (s : State) (a : Axis) (u : Int) : Int :=
  if u < (s.limits a).low - 20 then (s.limits a).low - 20
  else if (s.limits a).high + 20 < u then (s.limits a).high + 20
  else u

/-- R10, R11, R13: a conversion of an axis channel with this trigger is in progress, and this code completes it as a
sample of value p with no flag: in range, within the margin, and agreeing where the channel is dual-track. -/
abbrev State.GoodSample (s : State) (a : Axis) (t : Trigger) (code : RawCode) (p : Int) : Prop :=
  let k := s.profile.calibration.channel.get (.axis a)
  (s.limits a).low - 20 ≤ p ∧ p ≤ (s.limits a).high + 20
    ∧ ∃ cv, (s.sense.get (.axis a)).conversion = some cv ∧ cv.trigger = t
      ∧ ((dualTrack s.profile.calibration (.axis a) = none ∧ k.inRange (codeValue cv.mode code) = true
          ∧ k.points.scale (codeValue cv.mode code) = p)
        ∨ ∃ alt tol q, dualTrack s.profile.calibration (.axis a) = some (alt, tol) ∧ cv.primary = some q
          ∧ k.inRange q = true ∧ k.points.scale q = p
          ∧ disagrees k (s.limits a) alt tol p (codeValue cv.mode code) = false)

/-- R76 stages 1 and 2: what a control update finds of a record at position p. -/
abbrev State.ArrivedAt (s : State) (r : Record) (p : Int) : Prop :=
  withinDeadband s r.axis p r.target = true ∨ passed r.dir p r.target = true

/-! ### Readings and levels -/

/-- The drive outputs of a period boundary with their senses. -/
def sensesOf : Readings → List (DriveOut × Sense)
  | .pump d0 => [(.do0, d0)]
  | .valve d1 d2 d3 d4 d5 d6 => [(.do1, d1), (.do2, d2), (.do3, d3), (.do4, d4), (.do5, d5), (.do6, d6)]
  | .bridge d7 d8 d9 d10 => [(.do7, d7), (.do8, d8), (.do9, d9), (.do10, d10)]
  | .lamp _ _ _ _ => []

/-- R146: the open and the short threshold of a drive output's class, in 0.1 A. -/
def thresholdsOf (o : DriveOut) : Nat × Nat :=
  if o = .do0 then (50, 2500) else if isBridge o then (5, 400) else (2, 40)

/-- R145, R142: an output has conducted in the period that ends: under a duty that a force took from it, or by the duty it
has, a bridge half by its high gate, which a compare value above 8 turns on. -/
abbrev State.Conducted (s : State) (o : DriveOut) : Prop :=
  let r := s.drive.out.get o
  r.conducted = true ∨ isBridge o = true ∧ 8 < compareValue o r.active ∨ isBridge o = false ∧ 0 < r.active

/-- R145: the reading of an output at its boundary. -/
def State.readingAt (s : State) (x : DriveOut × Sense) : Nat :=
  if s.Conducted x.1 then x.2.current else if x.2.shorted then 4000 else 0

/-- R145: an output that conducted in the period just ended reads a current between its thresholds. -/
abbrev State.ReadsSound (s : State) (x : DriveOut × Sense) : Prop :=
  s.Conducted x.1 →
    (thresholdsOf x.1).1 ≤ x.2.current ∧ x.2.current ≤ (thresholdsOf x.1).2

/-- R143: neither half of a door's bridge is to go on beside the other, so the guard acts on none. -/
abbrev State.GuardRests (s : State) : Prop :=
  ∀ x ∈ [(DriveOut.do7, DriveOut.do8), (.do8, .do7), (.do9, .do10), (.do10, .do9)],
    (s.drive.out.get x.1).newlyOn = true → (s.drive.out.get x.2).nextOn = false

/-- The drive outputs of a period centre with their pin levels. -/
def pinsOf : Levels → List (DriveOut × Bool)
  | .pump d0 => [(.do0, d0)]
  | .valve d1 d2 d3 d4 d5 d6 => [(.do1, d1), (.do2, d2), (.do3, d3), (.do4, d4), (.do5, d5), (.do6, d6)]
  | .bridge d7 d8 d9 d10 => [(.do7, d7), (.do8, d8), (.do9, d9), (.do10, d10)]
  | .lamp _ _ _ _ => []

/-- The centre of the present period of an output (R148). -/
def State.centreOf (s : State) (o : DriveOut) : Nat := s.drive.baseOf o + periodTime o / 2

/-- R148: what an output commands at its period centre, by its compare value. A bridge half is not compared under
HOLDOFF, in the dead time of a compare value from 1 to 16, or in one that a force or a fall began. -/
def State.centreCommand (s : State) (o : DriveOut) : Option Bool :=
  let r := s.drive.out.get o
  let c := compareValue o r.active
  if o = .do0 then some (decide (2000 < c))
  else if isBridge o = false then some (decide (0 < c))
  else if r.force.holdoff then none
  else if c = 0 then (if halfTicksAt (s.centreOf o) ≤ r.lowFrom then none else some false)
  else if c ≤ 16 then none
  else some true

/-- R148: an output's record after a comparison that is no third mismatch, and after none. -/
def DriveRecord.compared (r : DriveRecord) (pin : Bool) : Option Bool → DriveRecord
  | none => r
  | some c => { r with echoMatch := c == pin, echoCount := if c == pin then 0 else r.echoCount + 1 }

/-- R148: the comparison of a pin is a third mismatch in a row. -/
abbrev State.ThirdMismatch (s : State) (x : DriveOut × Bool) : Prop :=
  s.centreCommand x.1 = some (!x.2) ∧ 2 ≤ (s.drive.out.get x.1).echoCount

/-- The lamp outputs of a period boundary with their senses. -/
def lampSensesOf : Readings → List (Lamp × Sense)
  | .pump _ => []
  | .valve _ _ _ _ _ _ => []
  | .bridge _ _ _ _ => []
  | .lamp l0 l1 l2 l3 => [(.b0, l0), (.b1, l1), (.b2, l2), (.b3, l3)]

/-- R145, R150: a lamp output has been on by clock value t in its period, which began at `base`: under an earlier duty, or
in a half tick since it has had its present one. -/
abbrev LampRecord.OnBy (base t : Nat) (r : LampRecord) : Prop :=
  r.conducted = true
    ∨ ∃ h, h < halfTicksAt (t - r.drivenFrom) ∧ lampOnAt r.duty ((halfTicksAt (r.drivenFrom - base) + h) % 8000) = true

/-- R145: a lamp output has conducted in the lamp period that ends at its next boundary. -/
abbrev State.LampConducted (s : State) (l : Lamp) : Prop :=
  (s.drive.lamp.get l).OnBy s.drive.lampBase (nextMultiple 1000 s.drive.lampBase s.clock)

/-- R145, R146: a lamp output that conducted reads a current between its thresholds. -/
abbrev State.LampReadsSound (s : State) (x : Lamp × Sense) : Prop :=
  s.LampConducted x.1 → 3 ≤ x.2.current ∧ x.2.current ≤ 60

/-- R89: the current watch of a record in motion compares its readings. -/
abbrev Record.comparesCurrent (r : Record) : Prop := r.state = .starting ∨ r.state = .moving

/-- R89: the reading of a bridge boundary on the half that an axis's motion drives gives its current watch nothing to
count. -/
abbrev State.WatchRests (s : State) (p : Readings) (a : Axis) : Prop :=
  ∀ r ∈ s.mover a, r.comparesCurrent → ∀ x ∈ sensesOf p, x.1 = driveOutput a r.dir →
    s.readingAt x ≤ s.profile.limits.doorCurrent

/-- R89: the current watch of the record with this tag compares the readings of a base. -/
def State.comparesAt (s : State) (p : Readings) (tag : Nat) : Bool :=
  [Axis.kdoor, .rdoor].any (fun a => (s.mover a).any (fun r =>
    r.tag == tag && decide r.comparesCurrent && (sensesOf p).any (fun x => x.1 == driveOutput a r.dir)))

/-- R138, R143, R145: a boundary of the bridge base with sound readings and nothing for the guard of R143 to do. -/
abbrev State.BridgeSound (s : State) (p : Readings) : Prop :=
  (∃ x ∈ sensesOf p, isBridge x.1 = true) ∧ (∀ x ∈ sensesOf p, s.ReadsSound x) ∧ s.GuardRests

/-- R89: at a sound bridge boundary the half that the record on an axis drives reads above the door current limit, and
the half that any other record drives does not. -/
abbrev State.CurrentAbove (s : State) (a : Axis) (r : Record) (p : Readings) : Prop :=
  s.BridgeSound p ∧ r.comparesCurrent ∧ (∀ b ∈ [Axis.kdoor, .rdoor], b ≠ a → s.WatchRests p b)
    ∧ ∃ x ∈ sensesOf p, x.1 = driveOutput a r.dir ∧ s.profile.limits.doorCurrent < s.readingAt x

/-- R89: the current watch of a door reads no other bridge half than this output. -/
abbrev State.WatchedAlone (s : State) (o : DriveOut) : Prop :=
  ∀ a ∈ [Axis.kdoor, .rdoor], ∀ r ∈ s.mover a, isBridge o = true → driveOutput a r.dir = o

/-- The lamp outputs of a period centre with their pin levels. -/
def lampPinsOf : Levels → List (Lamp × Bool)
  | .pump _ => []
  | .valve _ _ _ _ _ _ => []
  | .bridge _ _ _ _ => []
  | .lamp l0 l1 l2 l3 => [(.b0, l0), (.b1, l1), (.b2, l2), (.b3, l3)]

/-- R148: a lamp output's record after a comparison that is no third mismatch. -/
def LampRecord.compared (r : LampRecord) (pin : Bool) : LampRecord :=
  { r with echoMatch := decide (r.duty ≠ 0) == pin
           echoCount := if decide (r.duty ≠ 0) = pin then 0 else r.echoCount + 1 }

/-- R148: the comparison of a lamp's pin is a third mismatch in a row. -/
abbrev State.ThirdLampMismatch (s : State) (x : Lamp × Bool) : Prop :=
  decide ((s.drive.lamp.get x.1).duty ≠ 0) ≠ x.2 ∧ 2 ≤ (s.drive.lamp.get x.1).echoCount

/-! ### Lamps -/

/-- R150 to R154, R158 to R160: a channel stands at the highest level in force, with that level's lit phase, and its output
at the duty of it. Levels 3 to 8 hold once a lamp boundary after LOADING has judged them. -/
abbrev State.LampShows (s : State) (l : Lamp) : Prop :=
  let b := s.beacon.channel.get l
  let k := s.profile.beacons.channel.get l
  let cycle := blinkCycle s.profile.beacons.rate
  let blink : Bool := decide (s.beacon.blink % cycle.1 < cycle.2)
  let primary := conditionHolds s k.primary
  let secondary := conditionHolds s k.secondary
  let window : Bool := decide (0 < b.stretch)
  let none2 := s.pins.holdoff = false ∧ s.motion.estop = false
  let judged := s.store.mode ≠ .loading ∧ s.beacon.judged = true
  let none3 := none2 ∧ judged ∧ inPrewarn s l = false
  let none5 := none3 ∧ (l = .b2 → s.doorOpen .rdoor = false) ∧ (l = .b0 → s.vehicleMoving = false ∨ s.stowed = true)
  (s.pins.holdoff = true → b.level = some .holdoff ∧ b.lit = false)
    ∧ (s.pins.holdoff = false → s.motion.estop = true →
      b.level = some .estop ∧ b.lit = decide (s.beacon.blink % 125 < 63))
    ∧ (none2 → ¬judged → b.level = none ∧ b.lit = false)
    ∧ (none2 → judged → inPrewarn s l = true →
      b.level = some .prewarn ∧ b.lit = decide (s.beacon.blink % 250 < 125))
    ∧ (none3 → l = .b2 → s.doorOpen .rdoor = true →
      b.level = some .road ∧ b.lit = decide (s.beacon.blink % 250 < 125))
    ∧ (none3 → l = .b0 → s.vehicleMoving = true → s.stowed = false → b.level = some .vehicle ∧ b.lit = true)
    ∧ (∀ o, none5 → b.override = some o →
      b.level = some .override
        ∧ (o.pattern = .on → b.lit = true) ∧ (o.pattern = .off → b.lit = false)
        ∧ (o.pattern = .blink → b.lit = blink) ∧ (o.pattern = .stretch → b.lit = decide (0 < b.pulse)))
    ∧ (none5 → b.override = none → s.store.mode = .run →
      b.level = some .configuration
        ∧ (k.combine = false → k.pattern = .steady → b.lit = primary)
        ∧ (k.combine = false → k.pattern = .blink → b.lit = (primary && blink))
        ∧ (k.combine = false → k.pattern = .stretch → b.lit = (primary || window))
        ∧ (k.combine = true → k.pattern = .steady → b.lit = primary)
        ∧ (k.combine = true → k.pattern = .blink → b.lit = (primary && (!secondary || blink)))
        ∧ (k.combine = true → k.pattern = .stretch → b.lit = (primary || secondary || window)))
    ∧ (∀ n, none5 → b.override = none → s.store.mode = .lampTest → s.beacon.test = .running n →
      b.level = some .lampTest ∧ b.lit = decide ((n - 1) / 250 % 2 = 0))
    ∧ (s.drive.lamp.get l).duty =
      (if b.lit = false ∨ (s.drive.lamp.get l).shortForce = true then 0
        else if (b.level = some .override ∨ b.level = some .configuration) ∧ s.input .night = true
          ∧ s.profile.beacons.dim = true then 250
        else 1000)

/-! ### The profile store -/

/-- An image in its canonical form, with a region map that R193 stage 3 passes. -/
abbrev Image.Sound (m : Image) : Prop := m.wf = true ∧ m.mapHolds = true

/-- Both images that the store holds are sound, and both are there once LOADING has ended (R195, R198). -/
abbrev State.StoreSound (s : State) : Prop :=
  (∀ m ∈ s.store.inForce, m.Sound) ∧ (∀ m ∈ s.store.staging, m.Sound)
    ∧ (s.store.mode ≠ .loading → s.store.inForce.isSome = true ∧ s.store.staging.isSome = true)

/-- The bytes of the ENVELOPES region of an image (R192). -/
def Image.envelopeRegion (m : Image) : List Byte := m.readAll (m.offset 5) (regionLength 5)

/-- Law 11: under the envelope lock the staging copy has the ENVELOPES bytes of the profile in force; beside it, that
the lock and a commit come only after LOADING, and that the tables handed out are then those of the image in force
(R195, R200, R201). -/
abbrev State.LockHolds (s : State) : Prop :=
  s.StoreSound
    ∧ (s.store.lock = true ∨ s.store.commit ≠ .idle → s.store.mode ≠ .loading)
    ∧ (s.store.mode ≠ .loading → ∀ f ∈ s.store.inForce, s.profile = f.profile)
    ∧ (s.store.lock = true → ∀ m ∈ s.store.staging, ∀ f ∈ s.store.inForce, m.envelopeRegion = f.envelopeRegion)

/-! ### The host link -/

/-- A good frame is dispatched (R182, R188). -/
abbrev State.Hears (s : State) : Prop := s.link.restarting = false ∧ s.link.fifo.length < 4

/-- The link after a good frame that was dispatched and answered, with nothing else changed (R179, R181, R183). -/
def Link.answered (l : Link) (r : Reply) : Link :=
  { l with framing := .hunting, good := (l.good + 1) % 10000, fifo := l.fifo ++ [r] }

/-- The state after a good frame that was answered and had no other effect. -/
def State.answered (s : State) (r : Reply) : State := { s with link := s.link.answered r }

/-- Characters received one after another, each with a sound stop bit. -/
def receive : List Byte → State → Host.Outcome State Fault Refusal
  | [], s => .next s
  | c :: cs, s =>
      match exec (.hostCharacterReceived c true) s with
      | .next t => receive cs t
      | .fault f => .fault f
      | .refused r => .refused r

/-- The characters from LEN to the last payload character of a request (R179). -/
def requestBody (kind tag : Byte) (payload : List Byte) : List Byte :=
  byte (2 + payload.length) :: kind :: tag :: payload

/-- A whole request frame. -/
def requestFrame (kind tag : Byte) (payload : List Byte) : List Byte :=
  0xC3 :: (requestBody kind tag payload ++ [checkOf (requestBody kind tag payload)])

/-- The kind, tag and payload of the frame that carries a request row, for the twenty request rows (R187, R203). -/
def requestOf : Instr → Option (Byte × Byte × List Byte)
  | .status tag => some (0x01, tag, [])
  | .queryAxis tag axis => some (0x02, tag, [axis])
  | .queryList tag => some (0x03, tag, [])
  | .move tag axis target speed => some (0x04, tag, [axis, target.extractLsb' 8 8, target.extractLsb' 0 8, speed])
  | .jog tag axis dir speed => some (0x05, tag, [axis, dir, speed])
  | .jogRefresh tag => some (0x06, tag, [])
  | .runSequence tag seq held => some (0x07, tag, [seq, held])
  | .stop tag axis recordTag => some (0x08, tag, [axis, recordTag])
  | .stopAll tag => some (0x09, tag, [])
  | .estop tag => some (0x0A, tag, [])
  | .estopClear tag => some (0x0B, tag, [])
  | .faultClear tag axis channel => some (0x0C, tag, [axis, channel])
  | .beaconOverride tag channel pattern seconds =>
      some (0x0D, tag, [channel, pattern, seconds.extractLsb' 8 8, seconds.extractLsb' 0 8])
  | .readNotices tag => some (0x0E, tag, [])
  | .profileRead tag region offset length =>
      some (0x0F, tag, [region, offset.extractLsb' 8 8, offset.extractLsb' 0 8, length])
  | .profileStage tag region offset bytes =>
      some (0x10, tag, region :: offset.extractLsb' 8 8 :: offset.extractLsb' 0 8 :: byte bytes.length :: bytes)
  | .profileDiscard tag => some (0x11, tag, [])
  | .profileCommit tag => some (0x12, tag, [])
  | .lockEnvelopes tag => some (0x13, tag, [])
  | .restart tag => some (0x14, tag, [])
  | _ => none

/-! ### Events that reset the block -/

/-- The commands that can take the whole block to its reset values (R202, R188). -/
abbrev Resets (c : Instr) : Prop := c = .powerOnReset ∨ c = .restartTakesEffect ∨ c = .replySent

/-! ### What a stop leaves -/

/-- What an emergency stop of a cause leaves (R119): the latch, an empty list, no output driven, its notice first,
and the blocks it does not touch as they were. -/
abbrev EmergencyStopped (c : EstopCause) (s t : State) : Prop :=
  t.motion.estop = true ∧ t.motion.records = [] ∧ t.DriveQuiet
    ∧ (s.link.notices.length < 16 → (s.link.notices ++ [.estop c]) <+: t.link.notices)
    ∧ t.motion.axis = s.motion.axis ∧ t.motion.supply = s.motion.supply ∧ t.motion.budget = s.motion.budget
    ∧ t.drive.lamp = s.drive.lamp ∧ t.beacon.channel = s.beacon.channel ∧ t.store = s.store
    ∧ t.profile = s.profile ∧ t.pending = s.pending ∧ t.clock = s.clock

/-- What the end of one record leaves: no record with its tag, and its RECORD_END notice next in the queue
(R45). -/
abbrev Ended (r : Record) (res : Result) (s t : State) : Prop :=
  t.find r.tag = none
    ∧ (s.link.notices.length < 16 → (s.link.notices ++ [recordEndNotice r res s]) <+: t.link.notices)

/-- What a latch leaves on one axis: its fault record, no claimant, and its outputs quiet and held (R128, R129). -/
abbrev Latched (a : Axis) (kind : FaultKind) (pos : Option Int) (s t : State) : Prop :=
  (t.motion.axis.get a).fault = some { kind := kind, position := pos, tag := (s.claimant a).map Record.tag }
    ∧ (∀ r ∈ t.motion.records, r.claims a = false)
    ∧ ∀ o ∈ outputsOf a, (t.drive.out.get o).Quiet ∧ (t.drive.out.get o).force.faultHold = true

/-- What the end of a record, a stop or a finding on the drive side leaves as it was: the pins, the store with the
profile, the ESTOP latch, the supply state and budget, the beacon channels and the lamp outputs. -/
abbrev Kept (s t : State) : Prop :=
  t.pins = s.pins ∧ t.store = s.store ∧ t.profile = s.profile ∧ t.motion.estop = s.motion.estop
    ∧ t.motion.supply = s.motion.supply ∧ t.motion.budget = s.motion.budget
    ∧ t.beacon.channel = s.beacon.channel ∧ t.drive.lamp = s.drive.lamp

/-- The axis records of other axes than these stand. -/
abbrev KeptAxes (l : List Axis) (s t : State) : Prop :=
  ∀ a ∈ axes, a ∉ l → t.motion.axis.get a = s.motion.axis.get a

/-! ### Steps and resumes -/

/-- R103, R105: at a step end of a SEQUENCE record that is not its last, `x` is the record with its next step formed, and
the step passes every stage of its step start to PREWARN: interlocks, no limit reached, not at its target, a draw that fits
beside the other records' draws, and a prewarn time. -/
abbrev State.NextStarts (s : State) (r : Record) (q : SeqFields) (limited : Bool) (x : Record) : Prop :=
  let q' : SeqFields := { q with limited := limited, index := q.index + 1, formed := false }
  q.index < (stepsOf s q.number).length ∧ q.pause = false
    ∧ formStep s
        { r with
          state := .waiting, pendingResult := none, waitReason := none, stall := none, overload := none
          currentSince := none, stripArmed := false, seq := some q' } q' = some x
    ∧ interlocks s x.axis x.dir x.source = true ∧ envelopeBlocked s x.axis x.dir = false
    ∧ (∀ y, s.position x.axis = some y → withinDeadband s x.axis y x.target = false)
    ∧ ((s.motion.records.filter (fun y => y.tag ≠ r.tag && y.charged)).map Record.draw).sum + x.draw ≤ s.motion.budget
    ∧ 0 < (s.limits x.axis).prewarn


/-- R29, R40 to R42, R93, R100, R102: what becomes of a CAB request that is accepted as the record r, of this kind, under
this tag, held or not and in need of the valve bank or not. On an empty list, with the bank, the draw and the prewarn or the
strip free, it is granted: it stands alone, in PREWARN, or in STARTING on an axis with no prewarn time, with the bank it
needs. Where no other record waits, it waits for BANK while another holds the bank or the bank is withheld, and past that
for BUDGET while its draw does not fit. -/
abbrev State.Enters (s : State) (tag : Nat) (kind : RecordKind) (held bank : Bool) (r : Record) (t : State) : Prop :=
  let entered (granted : Bool) (x : Record) : Prop :=
    x.tag = tag ∧ x.kind = kind ∧ x.source = .cab ∧ x.station = none ∧ x.held = held ∧ x.axis = r.axis ∧ x.dir = r.dir
      ∧ x.target = r.target ∧ x.speed = r.speed ∧ x.draw = r.draw ∧ x.arrival = s.motion.arrivals
      ∧ x.lastRefresh = s.clock ∧ x.seq = r.seq.map (fun q => { q with granted := granted })
  let waits (reason : WaitReason) : Prop :=
    (∃ x, t.find tag = some x ∧ entered false x ∧ x.state = .waiting ∧ x.waitReason = some reason
      ∧ x.waitSince = s.clock)
      ∧ t.motion.bank = s.motion.bank ∧ t.link.notices = s.link.notices ∧ t.drive = s.drive
  (s.motion.records = [] → s.motion.bank = none → (bank = true → s.bankWithheld = false) → r.draw ≤ s.motion.budget →
    completeAtGrant s r = none →
    (0 < (s.limits r.axis).prewarn ∨ (s.limits r.axis).prewarn = 0 ∧ stripPressed s r.axis = false) →
      ∃ x, t.motion.records = [x] ∧ entered true x
        ∧ x.state = (if (s.limits r.axis).prewarn = 0 then .starting else .prewarn) ∧ x.waitReason = none
        ∧ t.motion.bank = (if bank then some tag else none)
        ∧ (t.sense.get (.axis r.axis)).snapshotDue =
          ((s.limits r.axis).prewarn == 0 || (s.sense.get (.axis r.axis)).snapshotDue)
        ∧ t.link.notices = s.link.notices)
    ∧ ((∀ x ∈ s.motion.records, x.state ≠ .waiting) →
      (bank = true → s.motion.bank ≠ some tag → s.bankWithheld = true ∨ s.motion.bank.isSome = true → waits .bank)
        ∧ ((bank = true → s.motion.bank = none ∧ s.bankWithheld = false) → 0 < r.draw →
          s.motion.budget < s.drawSum + r.draw → waits .budget))

/-- R116, R105, R109: what a STOP proper leaves of a record r of its list. One in WAITING, PREWARN or PAUSED, or in STARTING
or MOVING with no duty staged, ends STOPPED; a driven one begins its controlled stop pending STOPPED; one in STOPPING keeps
its pending result, but that a SEQUENCE leaves its pause stop, and STOPPED takes the place of LIMITED in its step, a
reversing one too (DESIGN CHOICE, notes/assumptions/54.md). -/
abbrev State.StoppedProperly (s : State) (r : Record) (t : State) : Prop :=
  (r.state = .waiting ∨ r.state = .prewarn ∨ r.state = .paused
      ∨ (r.state = .starting ∨ r.state = .moving) ∧ r.dPrev = 0 → Ended r .stopped s t)
    ∧ ((r.state = .starting ∨ r.state = .moving) → r.dPrev ≠ 0 → s.motion.attemptsDue = 0 →
      t.motion = { s.motion with
          records := s.motion.records.map (fun x =>
            if x.tag = r.tag then
              { r with
                state := .stopping, pendingResult := some .stopped, stall := none, overload := none
                currentSince := none, seq := r.seq.map (fun q => { q with pause := false }) }
            else x) }
        ∧ t.drive = s.drive ∧ t.link.notices = s.link.notices)
    ∧ (r.state = .stopping → s.motion.attemptsDue = 0 → s.tags.Nodup →
      t.find r.tag = some { r with
          pendingResult := if r.seq.isSome ∧ r.pendingResult = some .limited then some .stopped else r.pendingResult
          seq := r.seq.map (fun q => { q with pause := false }) }
        ∧ t.drive = s.drive ∧ t.link.notices = s.link.notices)

/-- R94, R96, R106, R108: what a release leaves of a held record r of its list. One that is not a SEQUENCE ends RELEASED in
WAITING and PREWARN, and in STARTING or MOVING with no duty staged. A SEQUENCE ends RELEASED in WAITING before its first
grant, and in a reversal with no duty staged; it enters PAUSED, with its step, its claims and the bank, in WAITING after
that grant, in PREWARN, and in STARTING or MOVING with no duty staged. A driven record begins its controlled stop pending
RELEASED, a SEQUENCE that is not reversing to pause. In STOPPING only a SEQUENCE with LIMITED pending changes, which takes
the pause mark (DESIGN CHOICE, notes/assumptions/39.md), and in PAUSED nothing does. -/
abbrev State.LetGo (s : State) (r : Record) (t : State) : Prop :=
  let now (x : Record) : Motion :=
    { s.motion with records := s.motion.records.map (fun y => if y.tag = r.tag then x else y) }
  let still : Prop := (r.state = .starting ∨ r.state = .moving) ∧ r.dPrev = 0
  (r.seq = none → (r.state = .waiting ∨ r.state = .prewarn ∨ still) → Ended r .released s t)
    ∧ (∀ q, r.seq = some q →
      (r.state = .waiting ∧ q.granted = false ∨ still ∧ r.reversing = true → Ended r .released s t)
        ∧ (r.state = .waiting ∧ q.granted = true ∨ r.state = .prewarn ∨ still ∧ r.reversing = false →
          (∃ x, t.find r.tag = some x ∧ x.state = .paused ∧ x.pauseSince = s.clock ∧ x.pendingResult = none
            ∧ x.axis = r.axis ∧ x.seq = some { q with pause := false })
            ∧ t.motion.bank = s.motion.bank ∧ t.link = s.link))
    ∧ ((r.state = .starting ∨ r.state = .moving) → r.dPrev ≠ 0 →
      t.motion = now { r with
          state := .stopping, pendingResult := some .released, stall := none, overload := none, currentSince := none
          seq := r.seq.map (fun q => { q with pause := !r.reversing }) }
        ∧ t.link = s.link ∧ t.drive = s.drive)
    ∧ (r.state = .stopping → s.tags.Nodup →
      t.motion = now { r with
          seq := r.seq.map (fun q =>
            { q with pause := q.pause || decide (r.pendingResult = some .limited ∧ r.reversing = false) }) }
        ∧ t.link = s.link ∧ t.drive = s.drive)
    ∧ (r.state = .paused → t.motion = s.motion ∧ t.link = s.link ∧ t.drive = s.drive)

/-- R111, R103 to R105, R99: what the resume of a PAUSED SEQUENCE record leaves, when no other record waits. Its step is
formed afresh; one that cannot be formed ends the record NO_REFERENCE, and one whose interlocks fail INTERLOCK; a step
that stands at its target or behind a limit ends at once, and with it the record when it is the last; one whose draw
fits goes into PREWARN, or into STARTING when its axis has no prewarn time and its strip is not pressed; and one whose
draw does not fit waits for BUDGET and keeps the bank. -/
abbrev State.Resumed (s : State) (r : Record) (q : SeqFields) (t : State) : Prop :=
  let waiting : Record := { r with state := .waiting, lastRefresh := s.clock }
  (formStep s waiting q = none → Ended r .noReference s t)
    ∧ ∀ x ∈ formStep s waiting q,
      let allowed : Prop := interlocks s x.axis x.dir x.source = true
      let complete : Prop := envelopeBlocked s x.axis x.dir = true
        ∨ ∃ p ∈ s.position x.axis, withinDeadband s x.axis p x.target = true
      (¬allowed → Ended r .interlock s t)
        ∧ (allowed → complete → (stepsOf s q.number).length ≤ q.index →
          Ended r
            (if q.limited = true ∨ envelopeBlocked s x.axis x.dir = true ∨ x.limitMark = true then .limited
              else .arrived) s t)
        ∧ (allowed → ¬complete → s.drawSum + x.draw ≤ s.motion.budget → 0 < (s.limits x.axis).prewarn →
          t.find r.tag = some { formMarks s x with state := .prewarn, waitReason := none }
            ∧ (∃ e ∈ t.beacon.prewarn, e.tag = r.tag ∧ e.timer.isSome = true
              ∧ ∀ l ∈ axisLamps x.axis, e.set.get l = true)
            ∧ t.motion.bank = s.motion.bank ∧ t.link.notices = s.link.notices ∧ t.drive.out = s.drive.out)
        ∧ (allowed → ¬complete → s.drawSum + x.draw ≤ s.motion.budget → (s.limits x.axis).prewarn = 0 →
          stripPressed s x.axis = false →
            (∃ r', t.find r.tag = some r' ∧ r'.state = .starting ∧ r'.axis = x.axis ∧ r'.target = x.target
              ∧ r'.dir = x.dir ∧ r'.draw = x.draw ∧ r'.seq = x.seq ∧ r'.lastRefresh = s.clock)
              ∧ (t.sense.get (.axis x.axis)).snapshotDue = true ∧ t.link.notices = s.link.notices)
        ∧ (allowed → ¬complete → s.motion.budget < s.drawSum + x.draw → 0 < x.draw →
          (r.needsBank = true → s.motion.bank = some r.tag) →
            (∃ r', t.find r.tag = some r' ∧ r'.state = .waiting ∧ r'.waitReason = some .budget
              ∧ r'.waitSince = s.clock ∧ r'.axis = x.axis ∧ r'.draw = x.draw)
              ∧ t.motion.bank = s.motion.bank ∧ t.link.notices = s.link.notices ∧ t.drive.out = s.drive.out)

/-! ### What the end of LOADING leaves -/

/-- What leaving LOADING does with the image in force m (R195): the profile and the staging copy are m's, every
channel's timer and first conversion start, the stations are formed, the LAMPS timer starts, and the lamp test is to
run or the mode is RUN. -/
abbrev LeftLoading (m : Image) (s t : State) : Prop :=
  t.profile = m.profile ∧ t.store.inForce = some m ∧ t.store.staging = some m
    ∧ t.store.mode = (if m.profile.beacons.lampTest then .lampTest else .run)
    ∧ t.beacon.test = (if m.profile.beacons.lampTest then .running 0 else s.beacon.test)
    ∧ (∀ c, (t.sense.get c).timer = some t.clock
        ∧ (t.sense.get c).conversion =
            some { trigger := .freeRunning, began := t.clock, mode := (m.profile.calibration.channel.get c).mode, primary := none })
    ∧ t.crew.stations = m.profile.stations.map freshStation ∧ t.crew.lampsTick = some t.clock
    ∧ t.motion = s.motion ∧ t.drive = s.drive ∧ t.link = s.link ∧ t.beacon.channel = s.beacon.channel

end Sys2Proof.Machine
end

