-- ==== Sys2Proof/Certificates/Slice0/Obligations.lean ====
section
/-! DEFINITION. Certificates/Slice0/Obligations.lean: the statements for the provers, each from the spec's numbered
rules. A docstring names the rules a statement follows, and the log entry where it rests on a choice of the model. -/

open Sys2Proof Sys2Proof.Machine

/-! ### One step -/

/-- Every command is taken from the front of the queue and run with the queue's rest. With no command waiting, the
block idles for 1 µs, which is the model's choice (notes/assumptions/2.md). -/
def Obligations.StepTakesTheFrontCommand : Prop :=
  (∀ (c : Instr) (rest : List Instr) (s : State),
      step { s with pending := c :: rest } = exec c { s with pending := rest })
    ∧ ∀ s : State, s.pending = [] → step s = .next { s with clock := s.clock + 1 }

/-- No command touches the commands that wait behind it. The queue is the model's own (notes/assumptions/5.md). -/
def Obligations.CommandsLeaveTheQueue : Prop :=
  ∀ (c : Instr) (s t : State), exec c s = .next t → t.pending = s.pending

/-- With sound images in the store every command has a next state, and the images stay sound: in canonical form,
with a region map that R193 stage 3 passes. -/
def Obligations.NoStepStops : Prop :=
  ∀ s : State, s.StoreSound → ∃ t, step s = .next t ∧ t.StoreSound

/-! ### Invariants -/

/-- The state after reset meets every invariant stated below. -/
def Obligations.ResetMeetsTheInvariants : Prop :=
  State.reset.StoreSound ∧ State.reset.StopsHold ∧ State.reset.FaultsHold ∧ State.reset.CountersBounded
    ∧ State.reset.BankSound ∧ State.reset.Settled ∧ State.reset.PositionsWithin ∧ State.reset.DutiesBounded
    ∧ State.reset.RoadWarned ∧ State.reset.LockHolds

/-- Law 5: while the ESTOP latch is set or HOLDOFF is high, the list is empty and every drive output is off. -/
def Obligations.StepKeepsTheListEmptyWhileStopped : Prop :=
  ∀ s t : State, s.StopsHold → step s = .next t → t.StopsHold

/-- Law 9: no record claims a faulted axis, and its outputs are off under a FAULT HOLD. -/
def Obligations.StepKeepsFaultedAxesIsolated : Prop :=
  ∀ s t : State, s.FaultsHold → step s = .next t → t.FaultsHold

/-- Law 10, with the other counts the spec bounds. -/
def Obligations.StepKeepsTheCountersBounded : Prop :=
  ∀ s t : State, s.CountersBounded → step s = .next t → t.CountersBounded

/-- Law 2: unique tags, at most one claimant of each axis, held records first. -/
def Obligations.StepKeepsTheListSound : Prop :=
  ∀ s t : State, s.ListSound → step s = .next t → t.ListSound

/-- R35: every granted record that needs the bank holds it, and only such a record does. -/
def Obligations.StepKeepsTheBankSound : Prop :=
  ∀ s t : State, s.BankSound → step s = .next t → t.BankSound

/-- Law 2 and Law 1, as they follow from the two invariants before: at most five records, and at most one hydraulic
axis in PREWARN, STARTING, MOVING or STOPPING. -/
def Obligations.SoundListsAreExclusive : Prop :=
  (∀ s : State, s.ListSound → s.motion.records.length ≤ 5) ∧ ∀ s : State, s.BankSound → s.HydraulicExclusive

/-- R39: every grant attempt that a command owes is made within the command. -/
def Obligations.StepLeavesNoAttemptOwed : Prop :=
  ∀ s t : State, s.Settled → step s = .next t → t.Settled

/-- Law 12: a position stays within travel with its margin, for profiles whose travel is ordered (R194). -/
def Obligations.StepKeepsPositionsWithinTravel : Prop :=
  ∀ s t : State, s.PositionsWithin → step s = .next t → t.profile.TravelOrdered → t.PositionsWithin

/-- Law 4: no duty exceeds 1000, for profiles whose duties lie in their ranges (R75). -/
def Obligations.StepKeepsDutiesBounded : Prop :=
  ∀ s t : State, s.DutiesBounded → s.profile.DutiesWithin → step s = .next t → t.DutiesBounded

/-- Law 7: RDOOR is driven in the opening direction only by a record with the road mark of a grant with no B2 lamp fault
and with the warned mark of its prewarn. -/
def Obligations.StepKeepsTheRoadDoorWarned : Prop :=
  ∀ s t : State, s.RoadWarned → step s = .next t → t.RoadWarned

/-! ### Whole-machine rules -/

/-- R121, R202, R20: what a high or a low stop pin holds. Whatever command clears the ESTOP latch finds ESTOP_N high,
and unless it resets the block finds every station's last HOLD set empty; whatever command releases HOLDOFF finds its
pin low. -/
def Obligations.StopsOutliveTheirPins : Prop :=
  (∀ (c : Instr) (s t : State), exec c s = .next t → s.motion.estop = true → t.motion.estop = false →
    s.pins.level.estopN = true
      ∧ (Resets c ∨ ∀ st ∈ s.crew.stations, ∀ b ∈ buttons, st.lastSet.get b = false))
    ∧ ∀ (c : Instr) (s t : State), s.StopsHold → exec c s = .next t → s.pins.holdoff = true →
      t.pins.holdoff = false → s.pins.level.holdoff = false

/-- Law 11, R201: under the envelope lock the ENVELOPES bytes in force and in the staging copy are one and unchanged,
and so is the table handed out; and only power-on reset and a RESTART's effect clear the lock. -/
def Obligations.TheEnvelopeLockHolds : Prop :=
  (∀ s t : State, s.LockHolds → step s = .next t →
    t.LockHolds
      ∧ (s.store.lock = true → t.store.lock = true →
        t.profile.envelopes = s.profile.envelopes
          ∧ t.store.inForce.map Image.envelopeRegion = s.store.inForce.map Image.envelopeRegion
          ∧ t.store.staging.map Image.envelopeRegion = s.store.staging.map Image.envelopeRegion))
    ∧ ∀ (c : Instr) (s t : State), exec c s = .next t → s.store.lock = true → t.store.lock = false → Resets c

/-- Law 8, R32 and R28 checks 1 to 7: the profile in force changes only on an empty list, or as the block is reset;
and a record whose tag the list did not hold was accepted in RUN, with no commit, no HOLDOFF, no ESTOP and the supply
NORMAL, from a source with HOLD or TARGET on every axis it claims, with TARGET for a MOVE and for a SEQUENCE that is
not held, none of these axes faulted. -/
def Obligations.NewRecordsWerePermitted : Prop :=
  (∀ (c : Instr) (s t : State), s.BankSound → exec c s = .next t → t.profile ≠ s.profile →
    s.motion.records = [] ∨ Resets c)
    ∧ ∀ (c : Instr) (s t : State), exec c s = .next t → ∀ r ∈ t.motion.records, s.find r.tag = none →
      s.store.mode = .run ∧ s.store.commit = .idle ∧ s.pins.holdoff = false ∧ s.motion.estop = false
        ∧ s.motion.supply = .normal
        ∧ ∀ a ∈ axes, r.claims a = true →
          mayHold s r.source a = true ∧ s.faulted a = false
            ∧ (r.kind = .move ∨ r.kind = .sequence ∧ r.held = false → mayTarget s r.source a = true)

/-- Law 3, R37, R40, R103: in a sound list no command brings the granted draw sum above the budget. A sum that lies
above the budget afterwards has not grown: the budget fell under it. -/
def Obligations.GrantsKeepTheBudget : Prop :=
  ∀ (c : Instr) (s t : State), s.ListSound → exec c s = .next t →
    t.drawSum ≤ t.motion.budget ∨ t.drawSum ≤ s.drawSum

/-! ### Reset, load and start -/

/-- R202, R188, R20, R118: power-on reset gives every block its reset values over the pin levels that stand: a low
ESTOP_N sets the latch with its one notice, and a high HOLDOFF is asserted with every output held. An accepted
RESTART does the same, at its own row and as the OK that ends the FIFO is sent, and not while another reply is still
to go. That the pin levels and the queue stand is the model's choice (notes/assumptions/3.md); that the restart falls within
the REPLY_SENT of the last reply, and that RESTART_TAKES_EFFECT does the same while one reply is left and nothing while more
are, is the model's reading (notes/assumptions/19.md). -/
def Obligations.ResetReleasesTheBlock : Prop :=
  ∀ s : State,
    (∃ t, exec .powerOnReset s = .next t
        ∧ t.motion.estop = !s.pins.level.estopN
        ∧ t.link.notices = (if s.pins.level.estopN then [] else [.estop .pin])
        ∧ t.pins.holdoff = s.pins.level.holdoff
        ∧ (∀ o ∈ driveOuts, (t.drive.out.get o).force.holdoff = s.pins.level.holdoff)
        ∧ t.DriveQuiet ∧ t.motion.records = [] ∧ t.store = Store.reset ∧ t.pins.level = s.pins.level
        ∧ (s.link.restarting = true → ∀ r, s.link.fifo = [r] →
          exec .restartTakesEffect s = .next t ∧ exec .replySent s = .next t))
      ∧ (s.pins.level.estopN = true → s.pins.level.holdoff = false →
        exec .powerOnReset s = .next { State.reset with pins := Pins.reset s.pins.level, pending := s.pending })
      ∧ ∀ x y rest, s.link.fifo = x :: y :: rest →
        exec .restartTakesEffect s = .next s
          ∧ exec .replySent s = .next { s with link := { s.link with fifo := y :: rest } }

/-- R193, R21, R195: the load and the strap sample. While the other of the two is still to come, the end of the load
puts an image in force with its source, or LIMP whole, and the strap sample sets SERVICE; LOADING is left at the later
of the two, with the image that passed or with LIMP after a read that is late or fails. That a read of exactly 50 ms is
in time is the model's reading (notes/assumptions/21.md), and the bytes of the LIMP image to which no rule gives a value
are its choice (notes/assumptions/60.md). Which images judgeImage passes, and what it clamps in them, rests on the model's
choices for a combine flag above 1, the value of a step slot that is not ABSOLUTE, button bytes that are 00H, and the slot
that ends a sequence entry (notes/assumptions/52.md, 53.md, 61.md and 63.md). That a late row leaves the clock where it
stands is the model's choice (notes/assumptions/1.md). -/
def Obligations.LoadingEndsWithBoth : Prop :=
  (∀ (s : State) (bytes : List Byte), s.store.mode = .loading → s.store.loadEnded = false → s.pins.strapTaken = false →
      (∀ m, s.clock ≤ 50000 → judgeImage (imageOf bytes) = some m →
        exec (.profileLoadEnd bytes) s =
          .next { s with store := { s.store with loadEnded := true, inForce := some m, source := .flash } })
        ∧ ((50000 < s.clock ∨ judgeImage (imageOf bytes) = none) →
          exec (.profileLoadEnd bytes) s =
            .next { s with store := { s.store with loadEnded := true, inForce := some limpImage, source := .limp } })
        ∧ exec .loadReadTimeout s =
          .next { s with
            clock := max s.clock 50000
            store := { s.store with loadEnded := true, inForce := some limpImage, source := .limp } }
        ∧ exec .strapSample s =
          .next { s with
            clock := max s.clock 20000
            store := { s.store with service := s.pins.level.strap && !s.pins.strapChanged }
            pins := { s.pins with strapTaken := true } })
    ∧ (∀ (s : State) (m : Image), s.store.mode = .loading → s.store.loadEnded = true → s.store.inForce = some m →
      s.pins.strapTaken = false →
        ∃ t, exec .strapSample s = .next t ∧ LeftLoading m s t ∧ t.clock = max s.clock 20000
          ∧ t.store.service = (s.pins.level.strap && !s.pins.strapChanged))
    ∧ ∀ (s : State), s.store.mode = .loading → s.store.loadEnded = false → s.pins.strapTaken = true →
        (∃ t, exec .loadReadTimeout s = .next t ∧ LeftLoading limpImage s t ∧ t.store.source = .limp)
          ∧ (∀ (bytes : List Byte), (50000 < s.clock ∨ judgeImage (imageOf bytes) = none) →
              ∃ t, exec (.profileLoadEnd bytes) s = .next t ∧ LeftLoading limpImage s t ∧ t.store.source = .limp)
          ∧ ∀ (bytes : List Byte) (m : Image), s.clock ≤ 50000 → judgeImage (imageOf bytes) = some m →
              ∃ t, exec (.profileLoadEnd bytes) s = .next t ∧ LeftLoading m s t ∧ t.store.source = .flash

/-! ### Pins and conditions -/

/-- R18 to R21, R58: a change of level on a discrete pin, and the end of a stable timer. A debounced input restarts its
stable timer, and the debounced state takes the level as the timer ends with nothing else moving, but for SPEED becoming
active and an edge strip newly pressed on a door in motion. A raw rising SPEED is remembered; one less than 500 ms after
the one before, and a debounced rising SPEED, hold the vehicle-moving condition, and make every record stop where it was
false. A rising ESTOP_N is only a level, a falling HOLDOFF starts the 20 ms of its release, and a change of STRAP before
its sample is remembered. That a raw edge exactly 500 ms back no longer counts is the model's reading
(notes/assumptions/8.md). That a late row leaves the clock where it stands is the model's choice
(notes/assumptions/1.md). -/
def Obligations.PinChangesAreTaken : Prop :=
  ∀ s : State,
    (∀ (i : Input) (t : Nat), (s.pins.filter.get i).since = some t →
      (s.pins.filter.get i).active ≠ s.pins.level.input.get i →
      (s.pins.level.input.get i = true →
        i ≠ .speed ∧ (i = .edgeK → s.mover .kdoor = none) ∧ (i = .edgeR → s.mover .rdoor = none)) →
        exec (.debounceStateChange i) s =
          .next { s with
            clock := max s.clock (t + 20000)
            pins := { s.pins with
              filter := s.pins.filter.set i { active := s.pins.level.input.get i, since := none } } })
      ∧ (∀ (i : Input) (l : Bool), s.pins.level.input.get i ≠ l → (i ≠ .speed ∨ l = false) →
        exec (.discretePinChange (.input i) l) s =
          .next { s with
            pins := { s.pins with
              level := { s.pins.level with input := s.pins.level.input.set i l }
              filter := s.pins.filter.set i { active := (s.pins.filter.get i).active, since := some s.clock } } })
      ∧ (s.pins.level.input.speed = false →
        let edge : Pins := { s.pins with
          level := { s.pins.level with input := s.pins.level.input.set .speed true }
          filter := s.pins.filter.set .speed { active := s.pins.filter.speed.active, since := some s.clock }
          rawEdge := some s.clock }
        ((∀ t ∈ s.pins.rawEdge, t + 500000 ≤ s.clock) →
          exec (.discretePinChange (.input .speed) true) s = .next { s with pins := edge })
          ∧ ∀ t, s.pins.rawEdge = some t → s.clock < t + 500000 →
            (s.vehicleMoving = true →
              exec (.discretePinChange (.input .speed) true) s =
                .next { s with pins := { edge with movingEdge := some s.clock } })
              ∧ (s.vehicleMoving = false → s.tags.Nodup →
                ∃ u, exec (.discretePinChange (.input .speed) true) s = .next u
                  ∧ u.pins = { edge with movingEdge := some s.clock } ∧ u.clock = s.clock
                  ∧ (∀ r ∈ u.motion.records, r.state = .stopping)
                  ∧ (s.link.notices.length < 16 → (s.link.notices ++ [.vehicleMoving]) <+: u.link.notices)
                  ∧ u.store = s.store ∧ u.motion.axis = s.motion.axis))
      ∧ (∀ t, s.pins.filter.speed.since = some t → s.pins.filter.speed.active = false →
        s.pins.level.input.speed = true →
        let now := max s.clock (t + 20000)
        let risen : Pins := { s.pins with
          filter := s.pins.filter.set .speed { active := true, since := none }, movingEdge := some now }
        (s.vehicleMoving = true →
          exec (.debounceStateChange .speed) s = .next { s with clock := now, pins := risen })
          ∧ (s.vehicleMoving = false → s.tags.Nodup →
            ∃ u, exec (.debounceStateChange .speed) s = .next u ∧ u.pins = risen ∧ u.clock = now
              ∧ (∀ r ∈ u.motion.records, r.state = .stopping)
              ∧ (s.link.notices.length < 16 → (s.link.notices ++ [.vehicleMoving]) <+: u.link.notices)
              ∧ u.store = s.store ∧ u.motion.axis = s.motion.axis))
      ∧ exec (.discretePinChange .estopN true) s =
          .next { s with pins := { s.pins with level := { s.pins.level with estopN := true } } }
      ∧ (s.pins.level.holdoff = true → s.pins.holdoff = true →
        exec (.discretePinChange .holdoff false) s =
          .next { s with
            pins := { s.pins with level := { s.pins.level with holdoff := false }, holdoffLow := some s.clock } })
      ∧ ∀ l : Bool, s.pins.strapTaken = false →
        exec (.discretePinChange .strap l) s =
          .next { s with
            pins := { s.pins with
              level := { s.pins.level with strap := l }
              strapChanged := s.pins.strapChanged || s.pins.level.strap != l } }

/-- R20, R141, R19, R125, R123: what lets go. HOLDOFF released lifts only its force on each drive output, and no dead
time of a low gate runs on from there, and gives each lamp at once the highest level in force with its lit phase (R123,
R154), what a NIGHT change since the last lamp boundary does included (notes/assumptions/49.md), a pulse and an on-time
beginning as notes/assumptions/38.md and 37.md say, and a lamp whose SHORT was cleared in the same period lit at the
release (notes/assumptions/58.md); that a lamp has conducted in its period before the release where it was lit in a half tick
of its on time is the model's reading (notes/assumptions/48.md). The vehicle-moving condition ends 500 ms after the last edge that held it; a recovery
run of 1000 ms ends CUT with its notice. That a late row leaves the clock where it stands is the model's choice
(notes/assumptions/1.md). -/
def Obligations.ConditionsLetGo : Prop :=
  (∀ (s : State) (t : Nat), s.pins.holdoff = true → s.pins.holdoffLow = some t →
      ∃ u, exec .holdoffReleased s = .next u
        ∧ u.pins = { s.pins with holdoff := false, holdoffLow := none }
        ∧ u.clock = max s.clock (t + 20000)
        ∧ (∀ o ∈ driveOuts, u.drive.out.get o =
            { s.drive.out.get o with
              force := { (s.drive.out.get o).force with holdoff := false }
              lowFrom := min (s.drive.out.get o).lowFrom (8 * u.clock) })
        ∧ (∀ l ∈ lamps, u.LampShows l
          ∧ (let b := s.beacon.channel.get l
            let b' := u.beacon.channel.get l
            b'.override = b.override ∧ b'.stretch = b.stretch ∧ b'.pulse = b.pulse ∧ b'.shown = b.shown
              ∧ b'.fault = b.fault)
          ∧ (let r := s.drive.lamp.get l
            let d := (u.drive.lamp.get l).duty
            let on := (u.drive.lamp.get l).conducted
            u.drive.lamp.get l =
                { r with
                  duty := d, onTime := if d = 0 then none else if r.duty = 0 then some 0 else r.onTime
                  openCount := if d = 0 then 0 else r.openCount, conducted := on, drivenFrom := u.clock }
              ∧ (on = true ↔ r.OnBy s.drive.lampBase u.clock)))
        ∧ u.beacon.blink = s.beacon.blink ∧ u.beacon.test = s.beacon.test ∧ u.beacon.judged = s.beacon.judged
        ∧ u.beacon.prewarn = s.beacon.prewarn
        ∧ u.motion = s.motion ∧ u.link = s.link ∧ u.store = s.store ∧ u.crew = s.crew ∧ u.sense = s.sense)
    ∧ (∀ (s : State) (t : Nat), s.pins.movingEdge = some t →
      exec .vehicleMovingExpiry s =
        .next { s with clock := max s.clock (t + 500000), pins := { s.pins with movingEdge := none } })
    ∧ ∀ (s : State) (t : Nat), s.motion.supply = .cut → s.motion.recoveryRun = some t → s.link.notices.length < 16 →
      exec .supplyRecover s =
        .next { s with
          clock := max s.clock (t + 1000000)
          motion := { s.motion with supply := .normal, lowRun := none, recoveryRun := none }
          link := { s.link with notices := s.link.notices ++ [.supply .normal s.volts] } }

/-! ### Stops of everything -/

/-- R118, R119: each cause that finds the ESTOP latch clear sets it, empties the list and turns every drive output
off, its own notice first; a cause that finds it set changes nothing but the level, the reply or the station that it
came with (R120). -/
def Obligations.EmergencyStopsEmptyTheList : Prop :=
  ∀ s : State,
    (s.motion.estop = false →
      (∃ t, exec .estopPinLow s = .next t ∧ EmergencyStopped .pin s t ∧ t.pins.level.estopN = false)
        ∧ (∃ t, exec (.discretePinChange .estopN false) s = .next t ∧ EmergencyStopped .pin s t)
        ∧ (∀ src : BitVec 4, src ≠ 0 → src ≠ 15 → busReceives s = true →
            ∃ t, exec (.haltFrame src) s = .next t ∧ EmergencyStopped (.halt src.toNat) s t)
        ∧ ∀ tag : Byte, s.Hears →
            ∃ t, exec (.estop tag) s = .next t ∧ EmergencyStopped .cab s t
              ∧ t.link.fifo = s.link.fifo ++ [⟨0x0A, tag, .ok, []⟩] ∧ t.link.restarting = false)
      ∧ (s.motion.estop = true →
        exec .estopPinLow s = .next { s with pins := { s.pins with level := { s.pins.level with estopN := false } } }
          ∧ exec (.discretePinChange .estopN false) s =
            .next { s with pins := { s.pins with level := { s.pins.level with estopN := false } } }
          ∧ (∀ src : BitVec 4, src ≠ 0 → src ≠ 15 → busReceives s = true →
            ∃ t, exec (.haltFrame src) s = .next t
              ∧ t = { s with crew := { t.crew with lampsTick := s.crew.lampsTick, sending := s.crew.sending } }
              ∧ t.crew.stations = s.crew.stations.map (fun x =>
                if x.address = src.toNat then { x with silence := some s.clock } else x)
              ∧ t.crew.freeAt = s.clock + 200 ∧ t.crew.inFrame = false)
          ∧ ∀ tag : Byte, s.Hears → exec (.estop tag) s = .next (s.answered ⟨0x0A, tag, .ok, []⟩))

/-- R122: HOLDOFF asserted, by its row or by a high level on its pin, empties the list, holds every drive output off
under its force, turns every lamp off, and adds to the notices only RECORD_ENDs with result HOLDOFF. -/
def Obligations.HoldoffEmptiesTheList : Prop :=
  ∀ s : State, s.pins.holdoff = false →
    ∀ c : Instr, (c = .holdoffAsserted ∨ c = .discretePinChange .holdoff true) →
      ∃ t, exec c s = .next t
        ∧ t.pins = { s.pins with
            level := { s.pins.level with holdoff := true }, holdoff := true, holdoffLow := none }
        ∧ t.motion.records = [] ∧ t.DriveQuiet ∧ (∀ o ∈ driveOuts, (t.drive.out.get o).force.holdoff = true)
        ∧ (∀ l ∈ lamps, (t.drive.lamp.get l).duty = 0 ∧ (t.beacon.channel.get l).lit = false
            ∧ (t.beacon.channel.get l).level = some .holdoff)
        ∧ (∀ n ∈ t.link.notices, n ∈ s.link.notices ∨
            ∃ tag kind subject claimed positions, n = .recordEnd tag kind subject .holdoff claimed positions)
        ∧ t.motion.estop = s.motion.estop ∧ t.motion.axis = s.motion.axis ∧ t.motion.supply = s.motion.supply
        ∧ t.store = s.store ∧ t.profile = s.profile ∧ t.clock = s.clock

/-- R58, R126, R117: the vehicle-moving change, a supply CUT and the host's STOP-ALL leave no record that is not
STOPPING, each after its own notice or reply. -/
def Obligations.EveryRecordIsStopped : Prop :=
  ∀ s : State, s.tags.Nodup →
    (s.vehicleMoving = false →
      ∃ t, exec .vehicleMoving s = .next t ∧ (∀ r ∈ t.motion.records, r.state = .stopping)
        ∧ t.pins = { s.pins with movingEdge := some s.clock }
        ∧ (s.link.notices.length < 16 → (s.link.notices ++ [.vehicleMoving]) <+: t.link.notices)
        ∧ t.store = s.store ∧ t.motion.axis = s.motion.axis)
      ∧ (s.motion.supply = .normal →
        ∃ t, exec .supplyCut s = .next t ∧ (∀ r ∈ t.motion.records, r.state = .stopping)
          ∧ t.motion.supply = .cut ∧ t.motion.lowRun = none ∧ t.motion.recoveryRun = none
          ∧ (s.link.notices.length < 16 → (s.link.notices ++ [.supply .cut s.volts]) <+: t.link.notices)
          ∧ t.store = s.store ∧ t.motion.axis = s.motion.axis)
      ∧ ∀ tag : Byte, s.Hears →
        ∃ t, exec (.stopAll tag) s = .next t ∧ (∀ r ∈ t.motion.records, r.state = .stopping)
          ∧ t.link.fifo = s.link.fifo ++ [⟨0x09, tag, .ok, []⟩] ∧ t.motion.estop = s.motion.estop
          ∧ t.store = s.store ∧ t.motion.axis = s.motion.axis

/-! ### Conversions and samples -/

/-- R6, R144, R7, R8, R5, R17: what begins a conversion and what takes its first code. A free-running timer that ends
reloads and triggers its channel; a control-interval event triggers a synchronised channel that is free, as the
snapshot when one is due, and nothing else; a trigger that finds a conversion in progress begins none; the primary code of a dual-track channel waits for the alternate. A
conversion keeps the input mode in force as it begins. The control-interval events of the hydraulic axes fall 2.5 ms
after each multiple of 10 ms and those of the doors 25 µs after it; the next one is the first that is neither before the
clock nor at or before the last (notes/assumptions/1.md). -/
def Obligations.TriggersBeginConversions : Prop :=
  (∀ (s : State) (c : Channel) (t : Nat), (s.sense.get c).timer = some t → (s.sense.get c).conversion = none →
      ∃ u, exec (.freeRunTimerExpiry c) s = .next u ∧ u.clock = max s.clock (t + 10000)
        ∧ u.sense.get c = { s.sense.get c with
            timer := some u.clock
            conversion := some
              { trigger := .freeRunning, began := u.clock, mode := (s.profile.calibration.channel.get c).mode
                primary := none } }
        ∧ (∀ c' ≠ c, u.sense.get c' = s.sense.get c')
        ∧ u.motion = s.motion ∧ u.drive = s.drive ∧ u.link = s.link)
    ∧ (∀ (s : State) (c : Channel) (t : Nat) (cv : Conversion), (s.sense.get c).timer = some t →
      (s.sense.get c).conversion = some cv →
        ∃ u, exec (.freeRunTimerExpiry c) s = .next u ∧ u.clock = max s.clock (t + 10000)
          ∧ u.sense.get c = { s.sense.get c with timer := some u.clock }
          ∧ (∀ c' ≠ c, u.sense.get c' = s.sense.get c')
          ∧ u.motion = s.motion ∧ u.drive = s.drive ∧ u.link = s.link)
    ∧ (∀ (s : State) (a : Axis), (s.sense.get (.axis a)).sync = true → (s.sense.get (.axis a)).conversion = none →
      ∃ u, exec (.controlIntervalEvent a) s = .next u
        ∧ u.drive.control.get a = some (nextControl a (s.drive.control.get a) s.clock)
        ∧ u.sense.get (.axis a) = { s.sense.get (.axis a) with
            snapshotDue := false
            conversion := some
              { trigger := if (s.sense.get (.axis a)).snapshotDue then .snapshot else .synchronised
                began := u.clock, mode := (s.profile.calibration.channel.get (.axis a)).mode, primary := none } }
        ∧ u.motion = s.motion ∧ u.drive.out = s.drive.out ∧ u.link = s.link)
    ∧ (∀ (s : State) (a : Axis), (s.sense.get (.axis a)).sync = false ∨ (s.sense.get (.axis a)).conversion.isSome = true →
      ∃ u, exec (.controlIntervalEvent a) s = .next u ∧ u.sense = s.sense ∧ u.motion = s.motion
        ∧ u.drive.control.get a = some (nextControl a (s.drive.control.get a) s.clock))
    ∧ (∀ (s : State) (c : Channel) (code : RawCode) (cv : Conversion), (c = .axis .lift ∨ c = .axis .tilt) →
      (s.sense.get c).conversion = some cv → cv.primary = none →
        ∃ u, exec (.dualTrackPrimaryComplete c code) s = .next u ∧ u.clock = max s.clock (cv.began + 25)
          ∧ u.sense.get c = { s.sense.get c with
              conversion := some { cv with
                mode := (s.profile.calibration.channel.get c).mode, primary := some (codeValue cv.mode code) } }
          ∧ u.motion = s.motion)
    ∧ ∀ (a : Axis) (last : Option Nat) (now : Nat),
      let t := nextControl a last now
      t % 10000 = (if isHydraulic a then 2500 else 25)
        ∧ now ≤ t ∧ (∀ p ∈ last, p < t)
        ∧ ∀ u, u % 10000 = (if isHydraulic a then 2500 else 25) → now ≤ u → (∀ p ∈ last, p < u) → t ≤ u

/-- R9 to R11, R15: what a completed conversion of an axis channel gives. Whatever triggered it, a code in range gives
the position, brought within travel and its margin, and one out of range takes the position away and latches
SENSOR_RANGE; on a dual-track channel the primary code decides. A free-running sample of a single-track channel that is
in range and within the margin changes nothing else; one beyond the margin latches OVERTRAVEL on an axis in motion and
changes nothing else on any other. The sensor verdict that a FAULT-CLEAR reads later is healthy for a sample in range
and within the margin that agrees where the channel is dual-track (R16). That a late row leaves the clock where it
stands is the model's choice (notes/assumptions/1.md). -/
def Obligations.AxisSamplesAreDelivered : Prop :=
  ∀ (s : State) (a : Axis) (code : RawCode) (cv : Conversion), (s.sense.get (.axis a)).conversion = some cv →
    let k := s.profile.calibration.channel.get (.axis a)
    (∀ c, (dualTrack s.profile.calibration (.axis a) = none ∧ codeValue cv.mode code = c
        ∨ (dualTrack s.profile.calibration (.axis a)).isSome = true ∧ cv.primary = some c) →
      let u := k.points.u1 + ((c - k.points.c1) * (k.points.u2 - k.points.u1)).tdiv (k.points.c2 - k.points.c1)
      ∃ t, exec (.conversionComplete (.axis a) code) s = .next t
        ∧ t.clock = max s.clock (cv.began + if (dualTrack s.profile.calibration (.axis a)).isSome then 50 else 25)
        ∧ t.position a = (if k.clo ≤ c ∧ c ≤ k.chi then some (s.withinMargin a u) else none)
        ∧ (t.motion.axis.get a).rawCode = some c ∧ KeptAxes [a] s t
        ∧ ((t.sense.get (.axis a)).clearable = true ↔
          k.clo ≤ c ∧ c ≤ k.chi ∧ s.withinMargin a u = u
            ∧ ∀ alt tol, dualTrack s.profile.calibration (.axis a) = some (alt, tol) →
              disagrees k (s.limits a) alt tol (s.withinMargin a u) (codeValue cv.mode code) = false)
        ∧ (c < k.clo ∨ k.chi < c → s.faulted a = false →
          Latched a .sensorRange none s t
            ∧ (s.link.notices.length < 16 → (s.link.notices ++ [.axisFault a .sensorRange]) <+: t.link.notices)))
      ∧ let c := codeValue cv.mode code
        let u := k.points.u1 + ((c - k.points.c1) * (k.points.u2 - k.points.u1)).tdiv (k.points.c2 - k.points.c1)
        dualTrack s.profile.calibration (.axis a) = none → cv.trigger = .freeRunning → k.clo ≤ c → c ≤ k.chi →
          (s.withinMargin a u = u ∨ s.mover a = none →
            ∃ t, exec (.conversionComplete (.axis a) code) s = .next t
              ∧ t.motion = { s.motion with
                  axis := s.motion.axis.set a
                    { s.motion.axis.get a with position := some (s.withinMargin a u), rawCode := some c } }
              ∧ t.sense.get (.axis a) = { s.sense.get (.axis a) with
                  code := some c, value := some (s.withinMargin a u), valid := true, conversion := none
                  clearable := decide (s.withinMargin a u = u) }
              ∧ t.drive = s.drive ∧ t.link = s.link)
            ∧ (s.withinMargin a u ≠ u → (s.mover a).isSome = true → s.faulted a = false →
              ∃ t, exec (.conversionComplete (.axis a) code) s = .next t
                ∧ Latched a .overtravel (some (s.withinMargin a u)) s t
                ∧ (s.link.notices.length < 16 →
                  (s.link.notices ++ [.axisFault a .overtravel]) <+: t.link.notices))

/-- R12, R87, R36, R125: what a completed conversion of SC5 to SC7 gives: the figure, clamped to its range, with its
health flag. A pressure sample starts, keeps and clears the overload watch of a LIFT raise in MOVING, and at 200 ms
begins its controlled stop. A battery sample with a value sets V and the budget that V gives, and starts, ends or
completes a low or a recovery run, with the SUPPLY notice of a change; one with no value ends both runs and leaves V and
the budget. With no record in WAITING for the attempt of the sample, the notices are those of the change alone. That the
watch is judged after the figure, and the supply after the budget and its attempt, is the model's reading
(notes/assumptions/9.md). That a late row leaves the clock where it stands is the model's choice
(notes/assumptions/1.md). -/
def Obligations.FiguresAreDelivered : Prop :=
  (∀ (s : State) (code : RawCode) (cv : Conversion),
      let k := s.profile.calibration.channel.pitch
      let c := codeValue cv.mode code
      let u := k.points.u1 + ((c - k.points.c1) * (k.points.u2 - k.points.u1)).tdiv (k.points.c2 - k.points.c1)
      s.sense.pitch.conversion = some cv →
        exec (.conversionComplete .pitch code) s =
          .next { s with
            clock := max s.clock (cv.began + 25)
            sense := { s.sense with
              pitch := { s.sense.pitch with
                code := some c
                value := if k.clo ≤ c ∧ c ≤ k.chi then some (max (-150) (min 150 u)) else s.sense.pitch.value
                valid := decide (k.clo ≤ c ∧ c ≤ k.chi), healthy := decide (k.clo ≤ c ∧ c ≤ k.chi)
                conversion := none, clearable := decide (k.clo ≤ c ∧ c ≤ k.chi) } } })
    ∧ (∀ (s : State) (code : RawCode) (cv : Conversion),
      let k := s.profile.calibration.channel.pressure
      let c := codeValue cv.mode code
      let u := k.points.u1 + ((c - k.points.c1) * (k.points.u2 - k.points.u1)).tdiv (k.points.c2 - k.points.c1)
      let v := max 0 (min 2500 u)
      let now := max s.clock (cv.began + 25)
      let taken : State := { s with
        clock := now
        sense := { s.sense with
          pressure := { s.sense.pressure with
            code := some c
            value := if k.clo ≤ c ∧ c ≤ k.chi then some v else s.sense.pressure.value
            valid := decide (k.clo ≤ c ∧ c ≤ k.chi), healthy := decide (k.clo ≤ c ∧ c ≤ k.chi)
            conversion := none, clearable := decide (k.clo ≤ c ∧ c ≤ k.chi) } } }
      s.sense.pressure.conversion = some cv → s.motion.attemptsDue = 0 →
        ((∀ r, s.mover .lift = some r → r.state ≠ .moving ∨ r.dir = .dec) →
          exec (.conversionComplete .pressure code) s = .next taken)
          ∧ ∀ r, s.mover .lift = some r → r.state = .moving → r.dir = .inc →
            ((k.clo ≤ c ∧ c ≤ k.chi ∧ (s.profile.limits.pMax : Int) < v) → r.overload = none →
              exec (.conversionComplete .pressure code) s =
                .next (taken.onRecord r.tag (fun x => { x with overload := some now })))
              ∧ (¬(k.clo ≤ c ∧ c ≤ k.chi ∧ (s.profile.limits.pMax : Int) < v) → r.overload.isSome = true →
                exec (.conversionComplete .pressure code) s =
                  .next (taken.onRecord r.tag (fun x => { x with overload := none })))
              ∧ ((k.clo ≤ c ∧ c ≤ k.chi ∧ (s.profile.limits.pMax : Int) < v) → ∀ b, r.overload = some b →
                (now < b + 200000 → exec (.conversionComplete .pressure code) s = .next taken)
                  ∧ (b + 200000 ≤ now → r.dPrev ≠ 0 →
                    exec (.conversionComplete .pressure code) s =
                      .next (taken.onRecord r.tag (fun _ =>
                        { r with
                          state := .stopping, pendingResult := some .overload, stall := none, overload := none
                          currentSince := none, seq := r.seq.map (fun q => { q with pause := false }) })))
                  ∧ (b + 200000 ≤ now → r.dPrev = 0 → s.find r.tag = some r →
                    ∃ t, exec (.conversionComplete .pressure code) s = .next t ∧ Ended r .overload s t
                      ∧ t.motion.axis = s.motion.axis ∧ Kept s t)))
    ∧ (∀ (s : State) (code : RawCode) (cv : Conversion),
      let k := s.profile.calibration.channel.battery
      let c := codeValue cv.mode code
      let u := k.points.u1 + ((c - k.points.c1) * (k.points.u2 - k.points.u1)).tdiv (k.points.c2 - k.points.c1)
      let v := max 0 (min 400 u)
      let now := max s.clock (cv.began + 25)
      s.sense.battery.conversion = some cv →
        (k.clo ≤ c → c ≤ k.chi →
          ∃ t, exec (.conversionComplete .battery code) s = .next t ∧ t.clock = now ∧ t.volts = some v
            ∧ t.sense.battery.healthy = true ∧ t.motion.budget = budgetFor s.profile.limits v
            ∧ s.link.notices <+: t.link.notices
            ∧ (s.motion.attemptsDue = 0 → (∀ r ∈ s.motion.records, r.state ≠ .waiting) → s.link.notices.length < 16 →
              (t.motion.supply = s.motion.supply → t.link = s.link)
                ∧ (s.motion.supply = .normal → t.motion.supply = .cut →
                  (s.link.notices ++ [.supply .cut (some v)]) <+: t.link.notices)
                ∧ (s.motion.supply = .cut → t.motion.supply = .normal →
                  t.link = { s.link with notices := s.link.notices ++ [.supply .normal (some v)] }))
            ∧ (s.motion.supply = .normal →
              (190 ≤ v → t.motion.supply = .normal ∧ t.motion.lowRun = none)
                ∧ (v < 190 → s.motion.lowRun = none → t.motion.supply = .normal ∧ t.motion.lowRun = some now)
                ∧ (v < 190 → ∀ b, s.motion.lowRun = some b → now < b + 500000 →
                  t.motion.supply = .normal ∧ t.motion.lowRun = some b)
                ∧ (v < 190 → ∀ b, s.motion.lowRun = some b → b + 500000 ≤ now → s.tags.Nodup →
                  t.motion.supply = .cut ∧ t.motion.lowRun = none ∧ t.motion.recoveryRun = none
                    ∧ (∀ r ∈ t.motion.records, r.state = .stopping)))
            ∧ (s.motion.supply = .cut →
              (v < 210 → t.motion.supply = .cut ∧ t.motion.recoveryRun = none)
                ∧ (210 ≤ v → s.motion.recoveryRun = none → t.motion.supply = .cut ∧ t.motion.recoveryRun = some now)
                ∧ (210 ≤ v → ∀ b, s.motion.recoveryRun = some b → now < b + 1000000 →
                  t.motion.supply = .cut ∧ t.motion.recoveryRun = some b)
                ∧ (210 ≤ v → ∀ b, s.motion.recoveryRun = some b → b + 1000000 ≤ now →
                  t.motion.supply = .normal ∧ t.motion.lowRun = none ∧ t.motion.recoveryRun = none)))
          ∧ (c < k.clo ∨ k.chi < c →
            exec (.conversionComplete .battery code) s =
              .next { s with
                clock := now
                sense := { s.sense with
                  battery := { s.sense.battery with
                    code := some c, valid := false, healthy := false, conversion := none, clearable := false } }
                motion := { s.motion with lowRun := none, recoveryRun := none } }))
    ∧ ∀ (l : Limits) (v : Int), l.vZero < l.vFull →
      (l.vFull ≤ v → budgetFor l v = l.bNom)
        ∧ (v ≤ l.vZero → budgetFor l v = 0)
        ∧ (l.vZero < v → v < l.vFull →
          (budgetFor l v : Int) * (l.vFull - l.vZero) ≤ l.bNom * (v - l.vZero)
            ∧ (l.bNom : Int) * (v - l.vZero) < (budgetFor l v + 1) * (l.vFull - l.vZero))

/-! ### Faults -/

/-- R127, R128, R129: STALL of a record in MOVING, a third disagreement, and an OPEN or ECHO finding on a drive
output latch on each of their axes that has no fault record, end every record that claims it, and hold its outputs
off. A finding with every axis already FAULTED changes only its own count, and the latest echo (R130). R161, R60, R61: an
OPEN or ECHO finding on a lamp output with no lamp fault latches there with its notice, leaves the lamp driven, and on B2
clears the road mark of a record in PREWARN on RDOOR; with a lamp fault it changes only the same two. -/
def Obligations.FindingsLatchOnTheirAxes : Prop :=
  (∀ (s : State) (a : Axis) (r : Record), s.mover a = some r → r.state = .moving → s.faulted a = false →
      ∃ t, exec (.stall a) s = .next t ∧ Latched a .stall (s.position a) s t
        ∧ KeptAxes [a] s t ∧ Kept s t
        ∧ (s.link.notices.length < 16 → (s.link.notices ++ [.axisFault a .stall]) <+: t.link.notices))
    ∧ (∀ (s : State) (a : Axis), (a = .lift ∨ a = .tilt) → s.faulted a = false →
      ∃ t, exec (.sensorDisagree (.axis a)) s = .next t ∧ Latched a .sensorDisagree none s t
        ∧ (t.sense.get (.axis a)).disagree = 0 ∧ KeptAxes [a] s t ∧ Kept s t
        ∧ (s.link.notices.length < 16 → (s.link.notices ++ [.axisFault a .sensorDisagree]) <+: t.link.notices))
    ∧ (∀ (s : State) (o : DriveOut),
      (∃ t, exec (.openFinding (.drive o)) s = .next t ∧ (t.drive.out.get o).openCount = 0
          ∧ KeptAxes (axesOf o) s t ∧ Kept s t
          ∧ ∀ a ∈ axesOf o, s.faulted a = false → Latched a .loadOpen (s.position a) s t)
        ∧ (∃ t, exec (.echoFinding (.drive o)) s = .next t ∧ (t.drive.out.get o).echoCount = 0
          ∧ (t.drive.out.get o).echoMatch = false ∧ KeptAxes (axesOf o) s t ∧ Kept s t
          ∧ ∀ a ∈ axesOf o, s.faulted a = false → Latched a .echo (s.position a) s t)
        ∧ (s.motion.attemptsDue = 0 → (∀ a ∈ axesOf o, s.faulted a = true) →
          exec (.openFinding (.drive o)) s = .next (s.onOut o (fun r => { r with openCount := 0 }))
            ∧ exec (.echoFinding (.drive o)) s =
              .next (s.onOut o (fun r => { r with echoMatch := false, echoCount := 0 }))))
    ∧ ∀ (s : State) (l : Lamp),
      (s.lampFaulted l = false → s.link.notices.length < 16 →
        (∃ t, exec (.openFinding (.lamp l)) s = .next t
            ∧ (t.beacon.channel.get l).fault = some .open
            ∧ t.link.notices = s.link.notices ++ [.beaconFault l .open]
            ∧ t.drive.lamp.get l = { s.drive.lamp.get l with openCount := 0 }
            ∧ t.motion.records = s.motion.records.map (fun r =>
                if l = .b2 ∧ r.state = .prewarn ∧ r.axis = .rdoor then { r with road := false } else r)
            ∧ t.motion.axis = s.motion.axis ∧ t.drive.out = s.drive.out)
          ∧ ∃ t, exec (.echoFinding (.lamp l)) s = .next t
            ∧ (t.beacon.channel.get l).fault = some .echo
            ∧ t.link.notices = s.link.notices ++ [.beaconFault l .echo]
            ∧ t.drive.lamp.get l = { s.drive.lamp.get l with echoMatch := false, echoCount := 0 }
            ∧ t.motion.records = s.motion.records.map (fun r =>
                if l = .b2 ∧ r.state = .prewarn ∧ r.axis = .rdoor then { r with road := false } else r)
            ∧ t.motion.axis = s.motion.axis ∧ t.drive.out = s.drive.out)
        ∧ (s.lampFaulted l = true →
          exec (.openFinding (.lamp l)) s = .next (s.onLampOut l (fun r => { r with openCount := 0 }))
            ∧ exec (.echoFinding (.lamp l)) s =
              .next (s.onLampOut l (fun r => { r with echoMatch := false, echoCount := 0 })))

/-! ### Motions -/

/-- R155, R70, R73, R136, R8, R89: how a motion starts. As its prewarn ends, a record whose interlocks hold, with no
envelope limit reached and no strip pressed, enters STARTING: its outputs take its tag, its directional valve is staged
1000 with the hit mark and its other outputs 0, and its channel waits for the snapshot. An interlock that fails then
ends it INTERLOCK, one of RDOOR opening with no road mark too; a limit that is reached ends a MOVE or JOG record
LIMITED, and the step of a SEQUENCE, which ends with its last step and else goes on to the next; and a strip that is
pressed ends it OBSTRUCTED (R65, R105, R90). A good snapshot takes it to MOVING at once and runs no control update; one
out of range, or beyond the margin, latches its fault and ends it. That a late row leaves the clock where it stands is
the model's choice (notes/assumptions/1.md). -/
def Obligations.MotionsStart : Prop :=
  (∀ (s : State) (tag : Nat) (e : PrewarnEntry) (p : PrewarnTimer) (r : Record), s.motion.attemptsDue = 0 →
    s.beacon.prewarn.find? (fun e => e.tag = tag) = some e → e.timer = some p → s.find tag = some r →
    r.state = .prewarn → r.axis = p.axis → r.dir = p.dir → interlocksPrewarnEnd s r = true →
    envelopeBlocked s r.axis r.dir = false → stripPressed s r.axis = false →
    (∀ o ∈ outputsOf r.axis, (s.drive.out.get o).force.faultHold = false ∧ (s.drive.out.get o).force.holdoff = false) →
      ∃ t, exec (.prewarnTimerExpiry tag) s = .next t
        ∧ t.clock = max s.clock (p.began + p.time * 1000)
        ∧ (∃ r', t.find tag = some r' ∧ r'.state = .starting ∧ r'.dPrev = 0 ∧ r'.axis = r.axis ∧ r'.dir = r.dir
            ∧ r'.warned = (r.axis == .rdoor || r.warned))
        ∧ (∀ o ∈ outputsOf r.axis, (t.drive.out.get o).claim = some tag ∧ (t.drive.out.get o).updatePending = true
            ∧ (t.drive.out.get o).staged = (if valveOf r.axis r.dir = some o then 1000 else 0)
            ∧ (t.drive.out.get o).hitMark = decide (valveOf r.axis r.dir = some o))
        ∧ (∀ o ∈ driveOuts, o ∉ outputsOf r.axis → t.drive.out.get o = s.drive.out.get o)
        ∧ (t.sense.get (.axis r.axis)).sync = true ∧ (t.sense.get (.axis r.axis)).snapshotDue = true
        ∧ (t.sense.get (.axis r.axis)).timer = none
        ∧ t.link = s.link ∧ t.motion.bank = s.motion.bank ∧ t.motion.axis = s.motion.axis ∧ Kept s t)
    ∧ (∀ (s : State) (tag : Nat) (e : PrewarnEntry) (p : PrewarnTimer) (r : Record),
      s.beacon.prewarn.find? (fun e => e.tag = tag) = some e → e.timer = some p → s.find tag = some r →
      r.state = .prewarn → r.axis = p.axis → r.dir = p.dir →
      let opens : Prop := r.axis = .rdoor ∧ r.dir = .inc
      let allowed : Prop := interlocks s r.axis r.dir r.source = true ∧ (opens → r.road = true)
      ∃ t, exec (.prewarnTimerExpiry tag) s = .next t ∧ t.clock = max s.clock (p.began + p.time * 1000)
        ∧ t.motion.axis = s.motion.axis ∧ Kept s t
        ∧ (¬allowed → Ended r .interlock s t)
        ∧ (allowed → envelopeBlocked s r.axis r.dir = true →
          (r.seq = none → Ended r .limited s t)
            ∧ ∀ q, r.seq = some q →
              ((stepsOf s q.number).length ≤ q.index → Ended r .limited s t)
                ∧ ∀ x, s.AloneWaits r → s.NextStarts r q true x →
                  t.find tag = some { formMarks s x with state := .prewarn, waitReason := none }
                    ∧ t.motion.bank = s.motion.bank ∧ t.drive.out = s.drive.out ∧ t.link = s.link)
        ∧ (allowed → envelopeBlocked s r.axis r.dir = false → stripPressed s r.axis = true → Ended r .obstructed s t))
    ∧ ∀ (s : State) (a : Axis) (code : RawCode) (r : Record), s.mover a = some r → r.state = .starting →
      s.find r.tag = some r →
      (∀ p, s.GoodSample a .snapshot code p →
        ∃ t, exec (.conversionComplete (.axis a) code) s = .next t
          ∧ t.find r.tag = some { r with state := .moving } ∧ t.position a = some p
          ∧ (∀ x ∈ s.motion.records, x.tag ≠ r.tag → x ∈ t.motion.records)
          ∧ t.drive = s.drive ∧ t.link = s.link ∧ t.motion.bank = s.motion.bank ∧ KeptAxes [a] s t ∧ Kept s t)
        ∧ ∀ cv, (s.sense.get (.axis a)).conversion = some cv → cv.trigger = .snapshot → s.faulted a = false →
          r.claims a = true →
          ∀ c, (dualTrack s.profile.calibration (.axis a) = none ∧ codeValue cv.mode code = c
            ∨ (dualTrack s.profile.calibration (.axis a)).isSome = true ∧ cv.primary = some c) →
          let k := s.profile.calibration.channel.get (.axis a)
          (k.inRange c = false →
            ∃ t, exec (.conversionComplete (.axis a) code) s = .next t ∧ t.find r.tag = none
              ∧ Latched a .sensorRange none s t ∧ KeptAxes [a] s t ∧ Kept s t)
            ∧ (k.inRange c = true → s.withinMargin a (k.points.scale c) ≠ k.points.scale c →
              (s.sense.get (.axis a)).disagree < 2 →
                ∃ t, exec (.conversionComplete (.axis a) code) s = .next t ∧ t.find r.tag = none
                  ∧ Latched a .overtravel (some (s.withinMargin a (k.points.scale c))) s t
                  ∧ KeptAxes [a] s t ∧ Kept s t)

/-- R56, R76 to R79, R86, R92: the control update that a good synchronised sample runs for a record in MOVING. An
interlock that has failed, or a bearing limit that is reached before the target, begins a controlled stop with its first
ramp-down step; an arrival ends a record with no step to follow; an axis that has not moved for 1000 ms latches STALL;
and otherwise the drive output takes the duty of the approach law, the held-off outputs 0, and d_prev that duty. The
envelope stop of a reversal pends LIMITED too, and gives OBSTRUCTED when its ramp-down ends. The first update of the
envelope stop of a SEQUENCE step is in SequenceStepsFollow where it ends that step. -/
def Obligations.MovingUpdatesDriveOrStop : Prop :=
  ∀ (s : State) (a : Axis) (code : RawCode) (p : Int) (r : Record), s.GoodSample a .synchronised code p →
    s.mover a = some r → r.state = .moving → s.find r.tag = some r → s.motion.attemptsDue = 0 →
    let w := s.withPosition a p
    let drives (o : DriveOut) : Prop := (s.drive.out.get o).takes r.tag = true
    ∃ t, exec (.conversionComplete (.axis a) code) s = .next t ∧ t.position a = some p ∧ KeptAxes [a] s t ∧ Kept s t
      ∧ (∀ res : Result,
        interlocksMoving w a r.source = false ∧ res = .interlock
          ∨ interlocksMoving w a r.source = true ∧ ¬s.ArrivedAt r p ∧ envelopeBlocked w a r.dir = true
            ∧ res = .limited →
        ((s.limits a).stepDown < r.dPrev →
          t.find r.tag = some
              { r with
                state := .stopping, pendingResult := some res, dPrev := r.dPrev - (s.limits a).stepDown
                stall := none, overload := none, currentSince := none
                seq := r.seq.map (fun q => { q with pause := false }) }
            ∧ (drives (driveOutput a r.dir) →
              (t.drive.out.get (driveOutput a r.dir)).staged = r.dPrev - (s.limits a).stepDown
                ∧ (t.drive.out.get (driveOutput a r.dir)).updatePending = true)
            ∧ (∀ o ∈ driveOuts, o ≠ driveOutput a r.dir → t.drive.out.get o = s.drive.out.get o) ∧ t.link = s.link)
          ∧ (r.dPrev ≤ (s.limits a).stepDown → (r.seq = none ∨ res ≠ .limited ∨ r.reversing = true) →
            Ended r (if res = .limited ∧ r.reversing = true then .obstructed else res) w t))
      ∧ (interlocksMoving w a r.source = true → s.ArrivedAt r p → (r.seq = none ∨ r.reversing = true) →
        Ended r (if r.reversing then .obstructed else if r.limitMark then .limited else .arrived) w t
          ∧ (s.AloneWaits r → ∀ o ∈ outputsOf a, drives o →
            (t.drive.out.get o).staged = 0 ∧ (t.drive.out.get o).updatePending = true
              ∧ (t.drive.out.get o).claim = none))
      ∧ (interlocksMoving w a r.source = true → ¬s.ArrivedAt r p → envelopeBlocked w a r.dir = false →
        (∀ st, r.stall = some st → (p - st.reference).natAbs < (s.limits a).stall →
          st.since + 1000000 ≤ t.clock → s.faulted a = false → Latched a .stall (some p) s t)
          ∧ ∀ st : StallWatch,
            (r.stall = none ∧ st = ⟨p, t.clock⟩
              ∨ (∃ old, r.stall = some old ∧ (s.limits a).stall ≤ (p - old.reference).natAbs ∧ st = ⟨p, t.clock⟩)
              ∨ r.stall = some st ∧ (p - st.reference).natAbs < (s.limits a).stall
                ∧ t.clock < st.since + 1000000) →
            t.find r.tag = some { r with stall := some st, dPrev := dutyFor w r p }
              ∧ (drives (driveOutput a r.dir) →
                (t.drive.out.get (driveOutput a r.dir)).staged = dutyFor w r p
                  ∧ (t.drive.out.get (driveOutput a r.dir)).updatePending = true)
              ∧ (∀ o ∈ heldOff a r.dir, drives o →
                (t.drive.out.get o).staged = 0 ∧ (t.drive.out.get o).updatePending = true)
              ∧ (∀ o ∈ driveOuts, o ≠ driveOutput a r.dir → o ∉ heldOff a r.dir →
                t.drive.out.get o = s.drive.out.get o)
              ∧ t.link = s.link ∧ t.motion.bank = s.motion.bank)

/-- R83, R87, R94, R84, R92, R109, R110: a controlled stop begins and runs. An overload of a LIFT raise, and a hold
lapse of a JOG, each put a record in MOVING that has been driven into STOPPING with the pending result, the watches
cleared, and nothing staged until the next update; and each good synchronised sample of the axis takes the duty one step
down, until 0 ends the record with its pending result, a reversal's envelope stop with OBSTRUCTED, or a pause stop in
PAUSED. That a late row of a timer leaves the clock where it is is the model's choice (notes/assumptions/1.md). -/
def Obligations.ControlledStopsRun : Prop :=
  (∀ (s : State) (r : Record) (u : Nat), s.motion.attemptsDue = 0 → s.mover .lift = some r → r.state = .moving →
      r.dir = .inc → r.overload = some u → r.dPrev ≠ 0 → r.seq = none →
        exec .overload s =
          .next { s with
            clock := max s.clock (u + 200000)
            motion := { s.motion with
              records := s.motion.records.map (fun x =>
                if x.tag = r.tag then
                  { r with
                    state := .stopping, pendingResult := some .overload, stall := none, overload := none
                    currentSince := none }
                else x) } })
    ∧ (∀ (s : State) (tag : Nat) (r : Record), s.motion.attemptsDue = 0 → s.find tag = some r → r.state = .moving →
      r.held = true → r.dPrev ≠ 0 → r.seq = none →
        exec (.holdTimerExpiry tag) s =
          .next { s with
            clock := max s.clock (r.lastRefresh + 250000)
            motion := { s.motion with
              records := s.motion.records.map (fun x =>
                if x.tag = r.tag then
                  { r with
                    state := .stopping, pendingResult := some .holdLapse, stall := none, overload := none
                    currentSince := none }
                else x) } })
    ∧ ∀ (s : State) (a : Axis) (code : RawCode) (p : Int) (r : Record) (res : Result),
      s.GoodSample a .synchronised code p → s.mover a = some r → r.state = .stopping → r.pendingResult = some res →
      s.find r.tag = some r → s.motion.attemptsDue = 0 →
        ∃ t, exec (.conversionComplete (.axis a) code) s = .next t ∧ t.position a = some p ∧ KeptAxes [a] s t ∧ Kept s t
          ∧ ((s.limits a).stepDown < r.dPrev →
            t.find r.tag = some { r with dPrev := r.dPrev - (s.limits a).stepDown }
              ∧ ((s.drive.out.get (driveOutput a r.dir)).takes r.tag = true →
                (t.drive.out.get (driveOutput a r.dir)).staged = r.dPrev - (s.limits a).stepDown
                  ∧ (t.drive.out.get (driveOutput a r.dir)).updatePending = true)
              ∧ (∀ o ∈ driveOuts, o ≠ driveOutput a r.dir → t.drive.out.get o = s.drive.out.get o)
              ∧ t.link = s.link)
          ∧ (r.dPrev ≤ (s.limits a).stepDown →
            ((r.seq = none ∨ (res ≠ .limited ∨ r.reversing = true) ∧ ∀ q ∈ r.seq, q.pause = false) →
              Ended r (if res = .limited ∧ r.reversing = true then .obstructed else res) (s.withPosition a p) t)
              ∧ ∀ q, r.seq = some q → q.pause = true → res ≠ .limited →
                (∃ r', t.find r.tag = some r' ∧ r'.state = .paused ∧ r'.pauseSince = t.clock
                  ∧ r'.pendingResult = none ∧ r'.seq = some { q with pause := false })
                  ∧ (∀ o ∈ outputsOf a, (s.drive.out.get o).takes r.tag = true →
                    (t.drive.out.get o).staged = 0 ∧ (t.drive.out.get o).updatePending = true
                      ∧ (t.drive.out.get o).claim = none)
                  ∧ (t.sense.get (.axis a)).sync = false ∧ t.motion.bank = s.motion.bank ∧ t.link = s.link)

/-- R43, R94, R112, R45, Law 6: the timers that end a record. An unheld record 30,000 ms in WAITING ends EXPIRED, a held
MOVE or JOG in WAITING or PREWARN whose hold lapses ends HOLD_LAPSE, and a PAUSED record ends HOLD_LAPSE at 5000 ms. A
held SEQUENCE in PREWARN, or in WAITING after its first grant, pauses on a lapse, with its step index, claims and bank
(R108, R110). Whatever held record the hold timer expires on, no record with its tag is left in WAITING, PREWARN,
STARTING or MOVING. That a late row leaves the clock where it stands is the model's choice (notes/assumptions/1.md). -/
def Obligations.RecordTimersEndOrPause : Prop :=
  ∀ (s : State) (tag : Nat) (r : Record), s.find tag = some r →
    (r.state = .waiting → r.held = false →
      ∃ t, exec (.waitTimerExpiry tag) s = .next t ∧ Ended r .expired s t ∧ t.motion.axis = s.motion.axis ∧ Kept s t
        ∧ t.clock = max s.clock (r.waitSince + 30000000))
      ∧ (r.state = .waiting ∨ r.state = .prewarn → r.held = true → r.seq = none →
        ∃ t, exec (.holdTimerExpiry tag) s = .next t ∧ Ended r .holdLapse s t ∧ t.motion.axis = s.motion.axis ∧ Kept s t
          ∧ t.clock = max s.clock (r.lastRefresh + 250000))
      ∧ (r.state = .paused →
        ∃ t, exec (.pauseWindowExpiry tag) s = .next t ∧ Ended r .holdLapse s t ∧ t.motion.axis = s.motion.axis ∧ Kept s t
          ∧ t.clock = max s.clock (r.pauseSince + 5000000))
      ∧ (r.held = true → (r.state = .waiting ∨ r.state = .prewarn ∨ r.state = .starting ∨ r.state = .moving) →
        ∃ t, exec (.holdTimerExpiry tag) s = .next t ∧ Kept s t
          ∧ ∀ x ∈ t.motion.records, x.tag = tag → x.state = .stopping ∨ x.state = .paused)
      ∧ ∀ q : SeqFields, s.motion.attemptsDue = 0 → r.seq = some q → r.held = true →
        (r.state = .prewarn ∨ r.state = .waiting ∧ q.granted = true) →
        ∃ t, exec (.holdTimerExpiry tag) s = .next t
          ∧ t.clock = max s.clock (r.lastRefresh + 250000)
          ∧ (∃ r', t.find tag = some r' ∧ r'.state = .paused ∧ r'.pauseSince = t.clock ∧ r'.pendingResult = none
              ∧ r'.seq = some { q with pause := false } ∧ r'.axis = r.axis)
          ∧ t.motion.bank = s.motion.bank ∧ t.motion.axis = s.motion.axis ∧ t.drive.out = s.drive.out
          ∧ t.link = s.link ∧ Kept s t

/-- R89 to R91, R61: an obstruction of a door, by current or by its edge strip. A closing door in MOVING, with a
position and not reversing, is stopped at once; the same record enters STARTING for a reversal of 100 mm at SLOW,
clamped to travel and envelopes, unless that target lies within the deadband, a limit bears at the place, or the door is
RDOOR and its road and warned marks are not both set. In every other case (opening, reversing, STARTING, STOPPING under
the strip) the record ends OBSTRUCTED. That nothing is pending in the reversal is the model's choice
(notes/assumptions/34.md). The current watch is judged at each bridge boundary on the half that the motion drives, in
STARTING and MOVING: a reading above the limit starts it, one that is not clears it, and one above it 100 ms after the
start is the obstruction; here the other readings of the boundary are sound, those of the other door at its limit or
below it, and no two records share a tag, as in every sound list (StepKeepsTheListSound). That a late row leaves the clock where it stands is the model's choice (notes/assumptions/1.md). -/
def Obligations.ObstructedDoorsStopOrReverse : Prop :=
  (∀ (s : State) (a : Axis) (r : Record) (p : Readings), s.mover a = some r → s.find r.tag = some r →
      s.CurrentAbove a r p → s.tags.Nodup → ∀ now, now = nextMultiple 50 s.drive.bridgeBase s.clock →
        (r.currentSince = none →
          ∃ t, exec (.periodBoundary p) s = .next t ∧ t.clock = now ∧ t.link = s.link
            ∧ t.find r.tag = some { r with currentSince := some now })
          ∧ ∀ since, r.currentSince = some since → now < since + 100000 →
            ∃ t, exec (.periodBoundary p) s = .next t ∧ t.clock = now ∧ t.link = s.link ∧ t.find r.tag = some r)
    ∧ (∀ (s : State) (a : Axis) (r : Record) (p : Readings), s.mover a = some r → s.find r.tag = some r →
      s.BridgeSound p → r.comparesCurrent → (∀ b ∈ [Axis.kdoor, .rdoor], s.WatchRests p b) →
        (∃ x ∈ sensesOf p, x.1 = driveOutput a r.dir) →
          ∃ t, exec (.periodBoundary p) s = .next t ∧ t.link = s.link ∧ t.find r.tag = some { r with currentSince := none })
    ∧ ∀ (s : State) (a : Axis) (i : Input) (r : Record) (c : Instr), (a = .kdoor ∧ i = .edgeK ∨ a = .rdoor ∧ i = .edgeR) →
    s.mover a = some r → s.find r.tag = some r →
    (c = .doorCurrentObstruction a ∧ (r.state = .starting ∨ r.state = .moving)
      ∨ c = .debounceStateChange i ∧ r.stripArmed = true ∧ (s.pins.filter.get i).since.isSome = true
        ∧ (s.pins.filter.get i).active = false ∧ s.pins.level.input.get i = true
      ∨ ∃ p since, c = .periodBoundary p ∧ s.tags.Nodup ∧ s.CurrentAbove a r p ∧ r.currentSince = some since
        ∧ since + 100000 ≤ nextMultiple 50 s.drive.bridgeBase s.clock) →
    let reverses : Prop := r.state = .moving ∧ r.dir = .dec ∧ r.reversing = false ∧ (s.position a).isSome = true
    ∃ t, exec c s = .next t ∧ t.store = s.store ∧ t.motion.axis = s.motion.axis ∧ t.pins.level = s.pins.level
      ∧ (¬reverses → Ended r .obstructed s t)
      ∧ ∀ p, reverses → s.position a = some p →
        let goal := envelopeClamp s a .inc (min (p + 100) (s.limits a).high)
        let refused : Prop := a = .rdoor ∧ ¬(r.road = true ∧ r.warned = true) ∨ withinDeadband s a p goal = true
          ∨ envelopeBlocked s a .inc = true
        (refused → Ended r .obstructed s t)
          ∧ (¬refused → s.motion.attemptsDue = 0 →
            (∀ o ∈ outputsOf a, (s.drive.out.get o).claim = some r.tag ∧ (s.drive.out.get o).force.faultHold = false
              ∧ (s.drive.out.get o).force.holdoff = false) →
              (∃ r', t.find r.tag = some r' ∧ r'.state = .starting ∧ r'.reversing = true ∧ r'.dir = .inc
                ∧ r'.target = goal ∧ r'.speed = .slow ∧ r'.dPrev = 0 ∧ r'.draw = r.draw ∧ r'.stripArmed = true
                ∧ r'.limitMark = (goal != min (p + 100) (s.limits a).high)
                ∧ r'.clamped = (r.clamped || goal != p + 100) ∧ r'.pendingResult = none)
                ∧ (∀ o ∈ outputsOf a, (t.drive.out.get o).active = 0 ∧ (t.drive.out.get o).staged = 0
                  ∧ (t.drive.out.get o).force.any = false ∧ (t.drive.out.get o).claim = some r.tag)
                ∧ (t.sense.get (.axis a)).snapshotDue = true ∧ t.link = s.link)

/-! ### Sequences -/

/-- R111, R103 to R105, R99: a JOG-REFRESH of a PAUSED held CAB SEQUENCE resumes it at its step. -/
def Obligations.PausedSequencesResume : Prop :=
  ∀ (s : State) (tag : Byte) (r : Record) (q : SeqFields), s.Hears → s.find tag.toNat = some r → r.source = .cab →
    r.held = true → r.state = .paused → r.seq = some q → s.AloneWaits r →
    ∃ t, exec (.jogRefresh tag) s = .next t ∧ s.Resumed r q t ∧ t.link.fifo = s.link.fifo ++ [⟨0x06, tag, .ok, []⟩]
      ∧ t.motion.axis = s.motion.axis ∧ t.clock = s.clock ∧ Kept s t

/-- R105, R102, R66, R84, R93, R106: a step ends. A step that arrives in MOVING, and a step pending LIMITED whose stop
reaches 0, at its first update too, end the record with its last step, ARRIVED or, with the limited mark, LIMITED;
before that the step index moves on, and the record pauses there with its pause mark, or its next step starts, keeping
the bank. A step that is complete at the grant of an accepted RUN-SEQUENCE ends in the same way. -/
def Obligations.SequenceStepsFollow : Prop :=
  (∀ (s : State) (a : Axis) (code : RawCode) (p : Int) (r : Record) (q : SeqFields),
    s.GoodSample a .synchronised code p → s.mover a = some r → s.find r.tag = some r → r.seq = some q →
    s.AloneWaits r →
    let w := s.withPosition a p
    ∃ t, exec (.conversionComplete (.axis a) code) s = .next t ∧ t.position a = some p ∧ KeptAxes [a] s t ∧ Kept s t
      ∧ (r.state = .moving → r.reversing = false → interlocksMoving w a r.source = true → s.ArrivedAt r p →
        let limited : Bool := q.limited || r.limitMark
        ((stepsOf s q.number).length ≤ q.index → Ended r (if limited then .limited else .arrived) w t)
          ∧ ∀ x, w.NextStarts r q limited x →
              t.find r.tag = some { formMarks w x with state := .prewarn, waitReason := none }
                ∧ (∀ o ∈ outputsOf a, (s.drive.out.get o).takes r.tag = true →
                  (t.drive.out.get o).staged = 0 ∧ (t.drive.out.get o).updatePending = true
                    ∧ (t.drive.out.get o).claim = none)
                ∧ t.motion.bank = s.motion.bank ∧ t.link = s.link)
      ∧ (r.state = .stopping → r.pendingResult = some .limited → r.reversing = false → r.dPrev ≤ (s.limits a).stepDown →
        ((stepsOf s q.number).length ≤ q.index → Ended r .limited w t)
          ∧ (q.index < (stepsOf s q.number).length → q.pause = true →
            (∃ r', t.find r.tag = some r' ∧ r'.state = .paused ∧ r'.pauseSince = t.clock ∧ r'.pendingResult = none
              ∧ r'.seq = some { q with limited := true, index := q.index + 1, formed := false, pause := false })
              ∧ t.motion.bank = s.motion.bank ∧ t.link = s.link))
      ∧ ((r.state = .stopping ∧ r.pendingResult = some .limited
          ∨ r.state = .moving ∧ interlocksMoving w a r.source = true ∧ ¬s.ArrivedAt r p
            ∧ envelopeBlocked w a r.dir = true) → r.reversing = false → r.dPrev ≤ (s.limits a).stepDown →
        (r.state = .moving → (stepsOf s q.number).length ≤ q.index → Ended r .limited w t)
          ∧ ∀ x, w.NextStarts r q true x →
            t.find r.tag = some { formMarks w x with
                state := .prewarn, waitReason := none, dPrev := 0
                lastRefresh := if r.held then t.clock else r.lastRefresh }
              ∧ (∀ o ∈ outputsOf a, (s.drive.out.get o).takes r.tag = true →
                (t.drive.out.get o).staged = 0 ∧ (t.drive.out.get o).updatePending = true
                  ∧ (t.drive.out.get o).claim = none)
              ∧ t.motion.bank = s.motion.bank ∧ t.link = s.link))
    ∧ ∀ (s : State) (tag seq held : Byte) (r : Record) (res : Result), s.Hears → 1 ≤ tag.toNat → tag.toNat ≤ 199 →
      1 ≤ seq.toNat → seq.toNat ≤ 6 → held.toNat ≤ 1 →
      judgeRequest s { tag := some tag.toNat, source := .cab, station := none, demand := .sequence seq.toNat (held = 1) }
        = .accept r →
      s.motion.records = [] → s.motion.bank = none → (r.needsBank = true → s.bankWithheld = false) →
      r.draw ≤ s.motion.budget → (∀ q ∈ r.seq, formStep s r q = some r) → completeAtGrant s r = some res →
      (stepsOf s seq.toNat).length = 1 →
        ∃ t, exec (.runSequence tag seq held) s = .next t ∧ t.motion.records = [] ∧ t.motion.bank = none
          ∧ t.link.fifo = s.link.fifo ++ [⟨0x07, tag, .ok, []⟩]
          ∧ (s.link.notices.length < 16 → ∃ n, t.link.notices = s.link.notices ++ [n] ∧
            ∃ claimed positions, n = .recordEnd tag.toNat .sequence seq.toNat res claimed positions)
          ∧ t.motion.axis = s.motion.axis ∧ Kept s t

/-! ### Drive outputs -/

/-- R138, R145, R146, R80, R89: a period boundary of the pump, valve or bridge base whose readings are sound, with
nothing for the guard of R143 to do, and no reading above the door current limit on the half that a door in motion
drives. Each output takes its staged duty, a staging with the hit mark opens a hit phase, a hit with nothing staged
counts its boundaries and goes to the hold duty and HOLD at the 20th, and any other output keeps its duty; the reading
is the current of an output that conducted, and else the off-state diagnostic; the on-time starts with the duty and runs
with it; and the current watch of a door in STARTING or MOVING is clear. An output that was on in its period before a
force, or a lamp before a change of its duty, has conducted in it (the model's reading, notes/assumptions/48.md). A lamp
base whose readings are sound gives only readings and on-times, a whole period each (notes/assumptions/37.md). The 20th
boundary of a hit has a row of its own. That a late row leaves its boundary at the next multiple of the period is the
model's choice (notes/assumptions/1.md). -/
def Obligations.StagedDutiesApplyAtTheBoundary : Prop :=
  (∀ (s : State) (p : Readings), (∀ l0 l1 l2 l3, p ≠ .lamp l0 l1 l2 l3) → (∀ x ∈ sensesOf p, s.ReadsSound x) →
    ((∃ d7 d8 d9 d10, p = .bridge d7 d8 d9 d10) →
      s.GuardRests ∧ s.WatchRests p .kdoor ∧ s.WatchRests p .rdoor) →
      ∃ t, exec (.periodBoundary p) s = .next t
        ∧ (∀ x ∈ sensesOf p,
          let r := s.drive.out.get x.1
          let r' := t.drive.out.get x.1
          let hits : Prop := isDirectional x.1 = true ∧ r.phase = .hit
          t.clock = nextMultiple (periodTime x.1) (s.drive.baseOf x.1) s.clock ∧ t.drive.baseOf x.1 = t.clock
            ∧ r'.reading = (if s.Conducted x.1 then x.2.current else if x.2.shorted then 4000 else 0)
            ∧ r'.updatePending = false
            ∧ (r.updatePending = true →
              r'.active = r.staged
                ∧ r'.phase = (if isDirectional x.1 then
                    (if r.hitMark then .hit else if r.staged = 0 then .off else r.phase) else r.phase)
                ∧ (isDirectional x.1 = true → r.hitMark = true → r'.hitCount = 0 ∧ r'.hitMark = false))
            ∧ (r.updatePending = false → ¬hits → r'.active = r.active ∧ r'.phase = r.phase)
            ∧ (r.updatePending = false → hits →
              (r.hitCount < 19 → r'.active = r.active ∧ r'.phase = .hit ∧ r'.hitCount = r.hitCount + 1)
                ∧ (19 ≤ r.hitCount →
                  r'.active = s.profile.limits.holdDuty ∧ r'.phase = .hold ∧ r'.hitCount = 20))
            ∧ r'.onTime = (if r'.active = 0 then none else if r.active = 0 then some 0
                else r.onTime.map (· + periodTime x.1))
            ∧ r'.claim = r.claim ∧ r'.force = r.force ∧ r'.conducted = false)
        ∧ (∀ o ∈ driveOuts, (∀ x ∈ sensesOf p, x.1 ≠ o) → t.drive.out.get o = s.drive.out.get o)
        ∧ t.motion = { s.motion with
            records := s.motion.records.map (fun x =>
              if s.comparesAt p x.tag then { x with currentSince := none } else x) }
        ∧ t.link = s.link ∧ t.sense = s.sense)
    ∧ (∀ (s : State) (p : Readings) (l0 l1 l2 l3 : Sense), p = .lamp l0 l1 l2 l3 →
      (∀ x ∈ lampSensesOf p, s.LampReadsSound x) →
        ∃ t, exec (.periodBoundary p) s = .next t ∧ t.clock = nextMultiple 1000 s.drive.lampBase s.clock
          ∧ t.drive.lampBase = t.clock
          ∧ (∀ x ∈ lampSensesOf p,
            let r := s.drive.lamp.get x.1
            let r' := t.drive.lamp.get x.1
            (s.LampConducted x.1 → r'.reading = x.2.current)
              ∧ (¬s.LampConducted x.1 → r'.reading = if x.2.shorted then 4000 else 0) ∧ r'.duty = r.duty
              ∧ r'.onTime = r.onTime.map (· + 1000) ∧ r'.shortForce = r.shortForce ∧ r'.conducted = false
              ∧ r'.drivenFrom = t.clock)
          ∧ t.drive.out = s.drive.out ∧ t.motion = s.motion ∧ t.link = s.link ∧ t.beacon = s.beacon)
    ∧ (∀ (s : State) (o : DriveOut), ∀ f ∈ [forceImmediate, forceFault, forceHoldoff],
      let r := s.drive.out.get o
      let c := compareValue o r.active
      ((f s o).drive.out.get o).conducted = true ↔
        r.conducted = true
          ∨ ∃ h, h < 8 * (s.clock - s.drive.baseOf o)
            ∧ if isBridge o then gateIn c (h % 400) = .high else onAt o c (h % (2 * periodTicks o)) = true)
    ∧ (∀ (s : State) (l : Lamp) (d : Nat),
      let r := (driveLamp l d s).drive.lamp.get l
      r.duty = d ∧ r.drivenFrom = s.clock
        ∧ (r.conducted = true ↔ (s.drive.lamp.get l).OnBy s.drive.lampBase s.clock))
    ∧ ∀ (s : State) (o : DriveOut), isDirectional o = true → (s.drive.out.get o).phase = .hit →
      (s.drive.out.get o).updatePending = false →
        ∃ t, exec (.hitPhaseEnd o) s = .next t
          ∧ t.clock = nextMultiple 5000 s.drive.valveBase s.clock
          ∧ t.drive.out.get o =
              { s.drive.out.get o with hitCount := 20, active := s.profile.limits.holdDuty, phase := .hold }
          ∧ (∀ o' ∈ driveOuts, o' ≠ o → t.drive.out.get o' = s.drive.out.get o')
          ∧ t.motion = s.motion ∧ t.link = s.link ∧ t.sense = s.sense

/-- R143: the halves of a door's bridge go on one at a time. A half that would newly take a duty beside a partner that
has or takes one takes 0, and its staged value with it, so that two halves newly to take duties both take 0; and no two
halves come to be on together. R139, R141: under HOLDOFF both gates of a half are off; its release turns the low gate of
a half at 0 on at once; and a force on a half whose high gate is on turns both off for 8 ticks and then the low one on.
-/
def Obligations.BridgeHalvesAreNeverBothOn : Prop :=
  (∀ (s t : State) (d7 d8 d9 d10 : Sense), exec (.periodBoundary (.bridge d7 d8 d9 d10)) s = .next t →
    ∀ x ∈ [(DriveOut.do7, DriveOut.do8), (.do8, .do7), (.do9, .do10), (.do10, .do9)],
      ((s.drive.out.get x.1).newlyOn = true → (s.drive.out.get x.2).nextOn = true →
        (t.drive.out.get x.1).active = 0 ∧ (t.drive.out.get x.1).staged = 0)
        ∧ ((s.drive.out.get x.1).active = 0 ∨ (s.drive.out.get x.2).active = 0 →
          (t.drive.out.get x.1).active = 0 ∨ (t.drive.out.get x.2).active = 0))
    ∧ (∀ (o : DriveOut) (r : DriveRecord) (now h : Nat), r.force.holdoff = true → r.gate o now h = .neither)
    ∧ ∀ (s : State) (o : DriveOut), isBridge o = true →
      let r := s.drive.out.get o
      let now := 8 * s.clock
      (r.active = 0 → ∀ n h, now ≤ n → ((liftHoldoff s o).drive.out.get o).gate o n h = .low)
        ∧ (r.gate o now (phaseAt o s.drive.bridgeBase s.clock) = .high →
          ∀ f ∈ [forceImmediate s o, forceFault s o], ∀ n h, now ≤ n →
            (f.drive.out.get o).gate o n h = (if n < now + 16 then .neither else .low))

/-- R146, R147, R127, R161: a reading outside its thresholds, the other readings of its base sound. A drive output on
for 20 ms with a reading above the short threshold is forced off under FAULT HOLD, and LOAD_SHORT latches on each of its
axes; one below the open threshold in its window counts, and the third in a row latches LOAD_OPEN. A lamp output's short
is forced off and its third open leaves it driven, each with its lamp fault. A reading at a threshold passes. That a
late row leaves the clock where it stands is the model's choice (notes/assumptions/1.md). -/
def Obligations.ReadingsAreJudged : Prop :=
  (∀ o ∈ driveOuts, (Builtin.driveThresholds o).openBelow = (thresholdsOf o).1
      ∧ (Builtin.driveThresholds o).shortAbove = (thresholdsOf o).2)
    ∧ (∀ (s : State) (p : Readings) (x : DriveOut × Sense), x ∈ sensesOf p →
      (∀ y ∈ sensesOf p, y.1 ≠ x.1 → s.ReadsSound y) → s.WatchedAlone x.1 →
      let r := s.drive.out.get x.1
      conducts x.1 r.active = true →
        (∀ n, r.onTime = some n → 20000 ≤ n + periodTime x.1 → (thresholdsOf x.1).2 < x.2.current →
          ∃ t, exec (.periodBoundary p) s = .next t ∧ (t.drive.out.get x.1).Quiet
            ∧ (t.drive.out.get x.1).force.faultHold = true ∧ (t.drive.out.get x.1).reading = x.2.current
            ∧ KeptAxes (axesOf x.1) s t ∧ Kept s t
            ∧ ∀ a ∈ axesOf x.1, s.faulted a = false → Latched a .loadShort (s.position a) s t)
        ∧ ∀ n, (if isBridge x.1 then r.dminTimer else r.onTime) = some n →
          (if isBridge x.1 then 200000 else 20000) ≤ n + periodTime x.1 → (∀ d ∈ dminOf s x.1, d ≤ r.active) →
          r.updatePending = false → (r.phase = .hit → r.hitCount < 19) → x.2.current < (thresholdsOf x.1).1 →
          (isBridge x.1 = true → x.2.current ≤ s.profile.limits.doorCurrent) →
            (r.openCount < 2 →
              ∃ t, exec (.periodBoundary p) s = .next t ∧ (t.drive.out.get x.1).openCount = r.openCount + 1
                ∧ (t.drive.out.get x.1).reading = x.2.current ∧ (t.drive.out.get x.1).active = r.active
                ∧ t.link = s.link ∧ t.motion.axis = s.motion.axis)
              ∧ (2 ≤ r.openCount →
                ∃ t, exec (.periodBoundary p) s = .next t ∧ (t.drive.out.get x.1).openCount = 0
                  ∧ KeptAxes (axesOf x.1) s t ∧ Kept s t
                  ∧ ∀ a ∈ axesOf x.1, s.faulted a = false → Latched a .loadOpen (s.position a) s t))
    ∧ ∀ (s : State) (p : Readings) (x : Lamp × Sense) (n : Nat), x ∈ lampSensesOf p →
      (∀ y ∈ lampSensesOf p, y.1 ≠ x.1 → s.LampReadsSound y) →
      let r := s.drive.lamp.get x.1
      let now := nextMultiple 1000 s.drive.lampBase s.clock
      s.LampConducted x.1 → r.onTime = some n → 20000 ≤ n + 1000 →
        (60 < x.2.current →
          ∃ t, exec (.periodBoundary p) s = .next t
            ∧ t.drive.lamp.get x.1 =
              { r with
                reading := x.2.current, duty := 0, onTime := none, openCount := 0, shortForce := true
                conducted := false, drivenFrom := now }
            ∧ (s.lampFaulted x.1 = false → (t.beacon.channel.get x.1).fault = some .short
              ∧ (s.link.notices.length < 16 → t.link.notices = s.link.notices ++ [.beaconFault x.1 .short]))
            ∧ t.motion.axis = s.motion.axis ∧ t.drive.out = s.drive.out)
          ∧ (x.2.current < 3 →
            (r.openCount < 2 →
              ∃ t, exec (.periodBoundary p) s = .next t
                ∧ t.drive.lamp.get x.1 =
                  { r with
                    reading := x.2.current, onTime := some (n + 1000), openCount := r.openCount + 1
                    conducted := false, drivenFrom := now }
                ∧ t.motion = s.motion ∧ t.link = s.link ∧ t.beacon = s.beacon)
              ∧ (2 ≤ r.openCount →
                ∃ t, exec (.periodBoundary p) s = .next t
                  ∧ t.drive.lamp.get x.1 =
                    { r with
                      reading := x.2.current, onTime := some (n + 1000), openCount := 0, conducted := false
                      drivenFrom := now }
                  ∧ (s.lampFaulted x.1 = false → (t.beacon.channel.get x.1).fault = some .open
                    ∧ (s.link.notices.length < 16 → t.link.notices = s.link.notices ++ [.beaconFault x.1 .open]))
                  ∧ t.motion.axis = s.motion.axis ∧ t.drive.out = s.drive.out))

/-- R148, R127, R161: a period centre. With no third mismatch among them, every output's pin is compared with what the
output commands at that instant: a match sets its echo count to 0, a mismatch adds one, and a half in its dead time or
under HOLDOFF is not compared. A third mismatch of one output, alone at its centre, takes the count to 0 and latches
ECHO on each of its axes, or as a lamp fault, and the mismatch stands as the latest echo. That a force leaves a low gate
that is already on without a dead time is the model's reading (notes/assumptions/45.md). That a late row leaves the
clock where it stands is the model's choice (notes/assumptions/1.md). -/
def Obligations.EchoesAreCounted : Prop :=
  (∀ (s : State) (p : Levels), (∀ l0 l1 l2 l3, p ≠ .lamp l0 l1 l2 l3) → (∀ x ∈ pinsOf p, ¬s.ThirdMismatch x) →
      ∃ t, exec (.periodCentre p) s = .next t
        ∧ (∀ x ∈ pinsOf p, t.clock = max s.clock (s.centreOf x.1)
          ∧ t.drive.out.get x.1 = (s.drive.out.get x.1).compared x.2 (s.centreCommand x.1))
        ∧ (∀ o ∈ driveOuts, (∀ x ∈ pinsOf p, x.1 ≠ o) → t.drive.out.get o = s.drive.out.get o)
        ∧ t.drive.lamp = s.drive.lamp ∧ t.motion = s.motion ∧ t.link = s.link)
    ∧ (∀ (s : State) (p : Levels) (x : DriveOut × Bool), x ∈ pinsOf p → s.ThirdMismatch x →
      (∀ y ∈ pinsOf p, y.1 ≠ x.1 → ¬s.ThirdMismatch y) →
        ∃ t, exec (.periodCentre p) s = .next t ∧ t.clock = max s.clock (s.centreOf x.1)
          ∧ (t.drive.out.get x.1).echoMatch = false ∧ (t.drive.out.get x.1).echoCount = 0
          ∧ KeptAxes (axesOf x.1) s t ∧ Kept s t
          ∧ ∀ a ∈ axesOf x.1, s.faulted a = false → Latched a .echo (s.position a) s t)
    ∧ (∀ (s : State) (p : Levels) (l0 l1 l2 l3 : Bool), p = .lamp l0 l1 l2 l3 →
      (∀ x ∈ lampPinsOf p, ¬s.ThirdLampMismatch x) →
        ∃ t, exec (.periodCentre p) s = .next t ∧ t.clock = max s.clock (s.drive.lampBase + 500)
          ∧ (∀ x ∈ lampPinsOf p, t.drive.lamp.get x.1 = (s.drive.lamp.get x.1).compared x.2)
          ∧ t.drive.out = s.drive.out ∧ t.motion = s.motion ∧ t.link = s.link ∧ t.beacon = s.beacon)
    ∧ ∀ (s : State) (p : Levels) (x : Lamp × Bool), x ∈ lampPinsOf p → s.ThirdLampMismatch x →
      (∀ y ∈ lampPinsOf p, y.1 ≠ x.1 → ¬s.ThirdLampMismatch y) →
        ∃ t, exec (.periodCentre p) s = .next t
          ∧ t.drive.lamp.get x.1 = { s.drive.lamp.get x.1 with echoMatch := false, echoCount := 0 }
          ∧ (s.lampFaulted x.1 = false → (t.beacon.channel.get x.1).fault = some .echo
            ∧ (s.link.notices.length < 16 → t.link.notices = s.link.notices ++ [.beaconFault x.1 .echo]))
          ∧ t.motion.axis = s.motion.axis ∧ t.drive.out = s.drive.out

/-- R134, R142: when the outputs are on. The compare value of a duty, with the table of R134; DO0 is on from the boundary,
a valve centred on its period, a bridge half commanded high as a valve is; duty 0 is off for the whole period and duty 1000
on. Each gate of a half that keeps its compare value is on once the command has called for it for 8 ticks, so that both are
off for 8 ticks after every change of the command, at the boundary too where the compare value is 200. The gate times in a
period are those of the table of R142, and fill the period. Instants are half ticks of the period. -/
def Obligations.GateTimesFillThePeriod : Prop :=
  let outs := driveOuts.filter (fun o => o ≠ .do0 ∧ isBridge o = false)
  let period (o : DriveOut) : Nat := if o = .do0 then 4000 else if isBridge o then 200 else 20000
  let commanded (c h : Nat) : Bool := decide (200 ≤ h + c ∧ h < 200 + c)
  (∀ o d, compareValue o d = d * period o / 1000)
    ∧ ([(DriveOut.do0, 866), (.do0, 200), (.do1, 600), (.do2, 433), (.do2, 133), (.do7, 332), (.do7, 1000)].map
        (fun x => compareValue x.1 x.2) = [3464, 800, 12000, 8660, 2660, 66, 200])
    ∧ (∀ d, compareValue .do0 (d + 1) = compareValue .do0 d + 4
      ∧ (∀ o ∈ outs, compareValue o (d + 1) = compareValue o d + 20)
      ∧ ∀ o, isBridge o = true → compareValue o (d + 5) = compareValue o d + 1)
    ∧ (∀ d, 330 ≤ d → d ≤ 334 → compareValue .do7 d = 66)
    ∧ (∀ c h, onAt .do0 c h = decide (h < 2 * c))
    ∧ (∀ o ∈ outs, ∀ c h, onAt o c h = decide (20000 ≤ h + c ∧ h < 20000 + c))
    ∧ (∀ o, isBridge o = false → ∀ h, onAt o (compareValue o 0) h = false
      ∧ (h < 2 * period o → onAt o (compareValue o 1000) h = true))
    ∧ (∀ c h : Nat, c ≤ 200 → h < 400 →
      (steadyGate c h = .high ↔ 1 ≤ c ∧ if c = 200 then 16 ≤ h else ∀ k ≤ 16, commanded c ((h + 400 - k) % 400) = true)
        ∧ (steadyGate c h = .low ↔ c ≤ 199 ∧ ∀ k ≤ 16, commanded c ((h + 400 - k) % 400) = false))
    ∧ ([200, 332, 400, 1000].map (fun d => gateTimes (compareValue .do7 d)) =
        [⟨32, 152, 16⟩, ⟨58, 126, 16⟩, ⟨72, 112, 16⟩, ⟨192, 0, 8⟩])
    ∧ ∀ c : Nat, c ≤ 200 →
      (c = 0 → gateTimes c = ⟨0, 200, 0⟩)
        ∧ (1 ≤ c → c ≤ 7 → gateTimes c = ⟨0, 192 - c, c + 8⟩)
        ∧ (8 ≤ c → c ≤ 191 → gateTimes c = ⟨c - 8, 192 - c, 16⟩)
        ∧ (192 ≤ c → c ≤ 199 → gateTimes c = ⟨c - 8, 0, 208 - c⟩)
        ∧ (c = 200 → gateTimes c = ⟨192, 0, 8⟩)
        ∧ (gateTimes c).high + (gateTimes c).low + (gateTimes c).neither = 200
        ∧ ((List.range 400).filter (fun h => steadyGate c h = .high)).length = 2 * (gateTimes c).high
        ∧ ((List.range 400).filter (fun h => steadyGate c h = .low)).length = 2 * (gateTimes c).low

/-! ### The approach law -/

/-- Law 4, R76, R78: with the duties of its axis in order, the duty that the approach law gives a record lies from
Dmin to Dmax of its speed class, and grows by no more than the step up, or to Dmin. It is the smaller of the ramp, the
last staged duty with the step up capped at Dmax, and of the taper, which is Dmax from the approach distance on and within
it grows from Dmin in proportion, truncated, raised to Dmin. Load compensation leaves a duty
alone up to the reference pressure, and above it scales it down, truncated, with a floor at Dmin, for LIFT DECREASING. -/
def Obligations.ApproachDutyLiesInItsRange : Prop :=
  (∀ (s : State) (r : Record) (p : Int), (s.limits r.axis).dmin ≤ dmax s r.axis r.speed →
    (s.limits r.axis).dmin ≤ dutyFor s r p ∧ dutyFor s r p ≤ dmax s r.axis r.speed
      ∧ dutyFor s r p ≤ max (r.dPrev + (s.limits r.axis).stepUp) (s.limits r.axis).dmin)
    ∧ (∀ (s : State) (r : Record) (p : Int) (taper : Nat),
      let l := s.limits r.axis
      let top := if r.speed = .slow then l.dmaxSlow else l.dmaxNormal
      let dist := (r.target - p).natAbs
      l.dmin ≤ top → (l.approach ≤ dist → taper = top) →
      (dist < l.approach → l.dmin ≤ taper ∧ (taper - l.dmin) * l.approach ≤ (top - l.dmin) * dist
        ∧ (top - l.dmin) * dist < (taper - l.dmin + 1) * l.approach) →
        let d := max (min (min (r.dPrev + l.stepUp) top) taper) l.dmin
        (r.axis ≠ .lift ∨ r.dir = .inc → dutyFor s r p = d)
          ∧ (r.axis = .lift → r.dir = .dec → ∀ v, s.sense.pressure.value = some v →
            (v ≤ s.profile.limits.pRef → dutyFor s r p = d)
              ∧ ((s.profile.limits.pRef : Int) < v →
                (dutyFor s r p : Int) = max ((d * s.profile.limits.pRef : Int).tdiv v) l.dmin)))
    ∧ ∀ (dmin pRef d : Nat) (p : Int),
      (p ≤ pRef → compensate dmin pRef d p = d)
        ∧ ((pRef : Int) < p → (compensate dmin pRef d p : Int) = max ((d * pRef : Int).tdiv p) dmin)

/-! ### Notices and the disagreement count -/

/-- R189, R190, R188, R118, R202: the notice queue. Power-on reset and a RESTART leave it empty with LOST clear, but for
the notice of an ESTOP_N that is low then (that the sent OK and RESTART_TAKES_EFFECT both are the RESTART's effect is
the model's reading, notes/assumptions/19.md); a notice joins the tail of a queue of fewer than 16, and is discarded
with LOST set at 16; and it keeps its place until a READ-NOTICES removes it with up to three others from the head, LOST
standing until that request's dispatch. The request comes as its row or as the character that completes its frame. A
REPLY_SENT and a RESTART_TAKES_EFFECT that reset nothing, as no RESTART waits or its OK is not the one reply left, keep
the queue too. -/
def Obligations.NoticesKeepTheirPlace : Prop :=
  (State.reset.link.notices = [] ∧ State.reset.link.lost = false
      ∧ ∀ s : State, ∃ t, exec .powerOnReset s = .next t ∧ t.link.lost = false
        ∧ (s.pins.level.estopN = true → t.link.notices = [])
        ∧ ∀ r, s.link.restarting = true → s.link.fifo = [r] →
          exec .restartTakesEffect s = .next t ∧ exec .replySent s = .next t)
    ∧ (∀ (s : State) (n : Notice),
      (s.link.notices.length < 16 →
        appendNotice n s = { s with link := { s.link with notices := s.link.notices ++ [n] } })
        ∧ (16 ≤ s.link.notices.length → appendNotice n s = { s with link := { s.link with lost := true } }))
    ∧ ∀ (c : Instr) (s t : State), exec c s = .next t →
      (¬Resets c ∨ c ≠ .powerOnReset ∧ (s.link.restarting = false ∨ s.link.fifo.length ≠ 1)) →
      (s.link.notices <+: t.link.notices ∧ (s.link.lost = true → t.link.lost = true))
        ∨ (((∃ tag, c = .readNotices tag)
            ∨ ∃ len tag x last, c = .hostCharacterReceived x true ∧ s.link.framing = .inside [len, 0x0E, tag] last)
          ∧ t.link.notices = s.link.notices.drop 4 ∧ t.link.lost = false)

/-- R14: on a dual-track channel an agreeing sample sets the disagreement count to 0, a disagreeing one adds one, and
the one that would make it 3 sets it to 0 and raises SENSOR_DISAGREE, whatever triggered it; a fault latched before is
kept. A sample whose primary code fails the range check, and any sample of another channel, leaves the count. That
SENSOR_DISAGREE stands before OVERTRAVEL for a sample that is also beyond the margin of an axis in motion is the model's
reading (notes/assumptions/9.md). That a late row leaves the clock where it stands is the model's choice
(notes/assumptions/1.md). -/
def Obligations.DisagreementCountsFollowTheSamples : Prop :=
  (∀ a ∈ axes, (State.reset.sense.axis.get a).disagree = 0)
    ∧ (∀ (s : State) (a : Axis) (code : RawCode) (cv : Conversion) (p : Int) (alt : Points) (tol : Int),
      let k := s.profile.calibration.channel.get (.axis a)
      let agrees := !disagrees k (s.limits a) alt tol (marginClamp (s.limits a) (k.points.scale p))
        (codeValue cv.mode code)
      let n := (s.sense.get (.axis a)).disagree
      dualTrack s.profile.calibration (.axis a) = some (alt, tol) → (s.sense.get (.axis a)).conversion = some cv →
      cv.primary = some p →
        ∃ t, exec (.conversionComplete (.axis a) code) s = .next t ∧ t.clock = max s.clock (cv.began + 50)
          ∧ (k.inRange p = false → (t.sense.get (.axis a)).disagree = n)
          ∧ (k.inRange p = true → agrees = true → (t.sense.get (.axis a)).disagree = 0)
          ∧ (k.inRange p = true → agrees = false → n < 2 → (t.sense.get (.axis a)).disagree = n + 1)
          ∧ (k.inRange p = true → agrees = false → 2 ≤ n →
            (t.sense.get (.axis a)).disagree = 0
              ∧ (s.faulted a = false →
                Latched a .sensorDisagree none s t
                  ∧ (s.link.notices.length < 16 →
                    (s.link.notices ++ [.axisFault a .sensorDisagree]) <+: t.link.notices))
              ∧ (s.faulted a = true → (t.motion.axis.get a).fault = (s.motion.axis.get a).fault)))
    ∧ ∀ (s t : State) (c : Channel) (code : RawCode), dualTrack s.profile.calibration c = none →
      exec (.conversionComplete c code) s = .next t → (t.sense.get c).disagree = (s.sense.get c).disagree

/-! ### Beacons -/

/-- R150 to R154, R157 to R160: a lamp boundary. The blink clock counts, a running lamp test counts its periods up to
1000, and each channel takes the highest level in force with its lit phase: levels 3 to 6 in every mode after LOADING,
the configuration in RUN, and the lamp test in LAMPTEST. A limited override counts down, a stretch timer is reloaded or
counts, a STRETCH override pulses once, and the output is driven full, dimmed at night, or not at all. The order of this
event and the lamp readings at one instant is the model's (notes/assumptions/14.md). That a late row leaves the clock
where it stands is the model's choice (notes/assumptions/1.md). -/
def Obligations.LampBoundaryTakesTheHighestLevel : Prop :=
  ([Rate.hz1, .hz2, .hz4, .hz8].map blinkCycle = [(1000, 500), (500, 250), (250, 125), (125, 63)])
    ∧ ∀ s : State, ∃ t, exec .lampBoundary s = .next t
      ∧ t.clock = nextMultiple 1000 s.beacon.base s.clock ∧ t.beacon.base = t.clock
      ∧ t.beacon.blink = (s.beacon.blink + 1) % 1000
      ∧ t.beacon.judged = (s.beacon.judged || s.store.mode != .loading)
      ∧ (∀ n < 1000, s.beacon.test = .running n → t.beacon.test = .running (n + 1) ∧ t.store = s.store)
      ∧ (s.beacon.test = .running 1000 → t.beacon.test = .over ∧ t.store.mode = .run)
      ∧ (s.beacon.test = .notRun ∨ s.beacon.test = .over → t.beacon.test = s.beacon.test ∧ t.store = s.store)
      ∧ (∀ l ∈ lamps,
          let b := s.beacon.channel.get l
          let b' := t.beacon.channel.get l
          let k := s.profile.beacons.channel.get l
          t.LampShows l
            ∧ (b.override = none → b'.override = none)
            ∧ (∀ p, b.override = some ⟨p, none⟩ → b'.override = some ⟨p, none⟩)
            ∧ (∀ p n, b.override = some ⟨p, some (n + 2)⟩ → b'.override = some ⟨p, some (n + 1)⟩)
            ∧ (∀ p, b.override = some ⟨p, some 1⟩ → b'.override = none)
            ∧ (∀ o, b'.override = some o → o.pattern = .stretch → b'.level = some .override →
              b'.shown = true ∧ b'.pulse = (if b.shown then b.pulse - 1 else s.profile.beacons.stretch))
            ∧ (b'.level ≠ some .override → b'.pulse = 0 ∧ b'.shown = false)
            ∧ b'.stretch = (if t.store.mode ≠ .loading ∧ k.pattern = .stretch then
                (if stretchCondition s l then s.profile.beacons.stretch else b.stretch - 1) else 0))
      ∧ t.motion = s.motion ∧ t.drive.out = s.drive.out ∧ t.link = s.link ∧ t.pins = s.pins ∧ t.crew = s.crew

/-- R160, R153, R158, R157: the lamp test ends in RUN; a stretch timer that its condition no longer serves, and a pulse
timer, go to 0 as they end; an override that ends is gone with its pulse. Nothing else changes: the lamps take it up at
the lamp boundary (notes/assumptions/14.md). -/
def Obligations.BeaconTimersEnd : Prop :=
  ∀ (s : State) (l : Lamp),
    let b := s.beacon.channel.get l
    (s.store.mode = .lampTest →
      exec .lampTestComplete s =
        .next { s with beacon := { s.beacon with test := .over }, store := { s.store with mode := .run } })
      ∧ (0 < b.stretch → stretchCondition s l = false →
        exec (.stretchTimerExpiry l) s =
          .next { s with beacon := { s.beacon with channel := s.beacon.channel.set l { b with stretch := 0 } } })
      ∧ (0 < b.pulse →
        exec (.overridePulseExpiry l) s =
          .next { s with beacon := { s.beacon with channel := s.beacon.channel.set l { b with pulse := 0 } } })
      ∧ ∀ (p : OverridePattern) (n : Nat), b.override = some ⟨p, some n⟩ →
        exec (.overrideExpiry l) s =
          .next { s with beacon := { s.beacon with
            channel := s.beacon.channel.set l { b with override := none, pulse := 0, shown := false } } }

/-! ### The crew bus -/

/-- R165, R166, R168, R169, R172, R121: a HOLD frame from an enabled station becomes its last set and restarts its silence
timer; an empty one clears release pending. A CLEAR from a REAR station clears the latch when it may, and else
starts the clear refused timer; from any other station it clears nothing. Every byte of each is acknowledged; that the
marks of the last frame stand in the state is the model's choice (notes/assumptions/18.md). -/
def Obligations.HoldFramesSetTheHeldButtons : Prop :=
  ∀ (s : State) (st : StationRecord) (src dst : BitVec 4), busReceives s = true → s.station src.toNat = some st →
    (dst = 15 ∨ dst = 0) → src ≠ 0 → src ≠ 15 →
    (∀ data : Byte, ∃ t, exec (.holdFrame src dst data) s = .next t
        ∧ (∃ u, t.station src.toNat = some u ∧ u.lastSet = buttonSet data ∧ u.silence = some s.clock
            ∧ u.releasePending = (st.releasePending && !(buttonSet data).empty)
            ∧ u.role = st.role ∧ u.function = st.function ∧ u.clearRefused = st.clearRefused)
        ∧ t.crew.freeAt = s.clock + 200 ∧ t.crew.inFrame = false ∧ t.crew.bus ≠ .receiving
        ∧ t.crew.acks = [true, true, true, true]
        ∧ s.link.notices <+: t.link.notices ∧ t.link.fifo = s.link.fifo ∧ t.motion.axis = s.motion.axis
        ∧ t.clock = s.clock ∧ Kept s t)
      ∧ (st.role = .rear → s.motion.estop = true → clearAllowed s = true → s.link.notices.length < 16 →
        ∃ t, exec (.clearFrame src dst) s = .next t
          ∧ t.motion = { s.motion with estop := false }
          ∧ t.link = { s.link with notices := s.link.notices ++ [.estopCleared] }
          ∧ t.station src.toNat = some { st with silence := some s.clock } ∧ t.crew.acks = [true, true, true]
          ∧ t.pins = s.pins ∧ t.drive = s.drive)
      ∧ (st.role = .rear → s.motion.estop = true → clearAllowed s = false →
        ∃ t, exec (.clearFrame src dst) s = .next t
          ∧ t.station src.toNat = some { st with silence := some s.clock, clearRefused := some s.clock }
          ∧ t.crew.acks = [true, true, true]
          ∧ t.motion = s.motion ∧ t.link = s.link ∧ t.pins = s.pins ∧ t.drive = s.drive)
      ∧ (st.role ≠ .rear ∨ s.motion.estop = false →
        ∃ t, exec (.clearFrame src dst) s = .next t
          ∧ t.station src.toNat = some { st with silence := some s.clock } ∧ t.crew.acks = [true, true, true]
          ∧ t.motion = s.motion ∧ t.link = s.link ∧ t.pins = s.pins ∧ t.drive = s.drive)

/-- R27, R94, R106, R108, R111, R169 to R171: what a HOLD frame does to the motion list. `b` is the one button of the
frame's set, or the one that it lets go. A button let go releases its record: one in WAITING or PREWARN, or with no duty
staged yet, ends RELEASED, and a driven one stops; a SEQUENCE pauses instead, at once in WAITING after its first grant, in
PREWARN and with no duty staged, and at the end of its stop when it is driven, but ends RELEASED in WAITING before that
grant and in a reversal. That one in STOPPING pending LIMITED takes the pause mark is the model's choice
(notes/assumptions/39.md). A held button refreshes its record, and resumes a PAUSED one. A newly held STOP button stops
every record. A press of a JOG button is judged with the station as owner: a refusal marks the button and leaves the list;
an accepted one takes the free pendant tag at the next-tag pointer, which moves past it. A press of a SEQ button is judged
as a request for a held run of its sequence in the same way. Under release pending every press is refused. A press of the
SEQ button of a PAUSED record resumes it, and of an UNUSED button does nothing. Two opposite buttons release the record of
the one, as a button let go does, and refuse the other. -/
def Obligations.HoldFramesActOnTheList : Prop :=
  ∀ (s : State) (st : StationRecord) (src dst : BitVec 4) (data : Byte) (b : Button), busReceives s = true →
    s.station src.toNat = some st → (dst = 15 ∨ dst = 0) → s.motion.attemptsDue = 0 →
    let only (n : PerButton Bool) : Prop := ∀ c ∈ buttons, n.get c = decide (c = b)
    let refused (t : State) (c : Button) : Prop := ∃ u, t.station src.toNat = some u ∧ u.refused.get c = true
    ∃ t, exec (.holdFrame src dst data) s = .next t ∧ t.motion.axis = s.motion.axis
      ∧ (∀ n r, only st.lastSet → (buttonSet data).empty = true → st.tags.get b = some n → s.find n = some r →
        s.LetGo r t)
      ∧ (∀ n r, only st.lastSet → only (buttonSet data) → st.refused.get b = false → st.tags.get b = some n →
        s.find n = some r →
          (r.held = true → (r.state = .waiting ∨ r.state = .prewarn ∨ r.state = .starting ∨ r.state = .moving) →
            t.motion = { s.motion with
                records := s.motion.records.map (fun x => if x.tag = n then { x with lastRefresh := s.clock } else x) }
              ∧ t.link = s.link ∧ t.drive = s.drive)
            ∧ ∀ q, r.state = .paused → r.seq = some q → st.releasePending = false → s.AloneWaits r → s.Resumed r q t)
      ∧ (st.lastSet.empty = true → only (buttonSet data) →
        (st.function.get b = .stop → s.tags.Nodup → ∀ r ∈ t.motion.records, r.state = .stopping)
          ∧ (st.function.get b = .unused → t.motion = s.motion ∧ t.link = s.link)
          ∧ (∀ a d sp, st.function.get b = .jog a d sp → st.releasePending = true →
            t.motion = s.motion ∧ t.link = s.link ∧ refused t b)
          ∧ (∀ a d sp, st.function.get b = .jog a d sp → st.releasePending = false →
            let rq : Request :=
              { tag := none, source := st.role, station := some st.address, demand := .jog a d sp }
            (∀ e, judgeRequest s rq = .refuse e → t.motion = s.motion ∧ t.link = s.link ∧ refused t b)
              ∧ ∀ r, judgeRequest s rq = .accept r →
                t.motion.arrivals = (s.motion.arrivals + 1) % 65536
                  ∧ t.motion.nextTag = (if 255 ≤ freeTag s then 200 else freeTag s + 1)
                  ∧ (s.motion.records = [] → s.motion.bank = none → (isHydraulic a = true → s.bankWithheld = false) →
                    r.draw ≤ s.motion.budget → completeAtGrant s r = none → 0 < (s.limits a).prewarn →
                      ∃ x u, t.motion.records = [x] ∧ x.tag = freeTag s ∧ x.station = some st.address
                        ∧ x.source = st.role ∧ x.kind = .jog ∧ x.held = true ∧ x.axis = a ∧ x.dir = d
                        ∧ x.state = .prewarn ∧ x.arrival = s.motion.arrivals ∧ x.lastRefresh = s.clock
                        ∧ t.station src.toNat = some u ∧ u.tags.get b = some (freeTag s)
                        ∧ u.refused.get b = false))
          ∧ (∀ m, st.function.get b = .seq m → (∀ n r, st.tags.get b = some n → s.find n = some r → r.state ≠ .paused) →
            (st.releasePending = true → t.motion = s.motion ∧ t.link = s.link ∧ refused t b)
              ∧ (st.releasePending = false →
                let rq : Request :=
                  { tag := none, source := st.role, station := some st.address, demand := .sequence m true }
                (∀ e, judgeRequest s rq = .refuse e → t.motion = s.motion ∧ t.link = s.link ∧ refused t b)
                  ∧ ∀ r, judgeRequest s rq = .accept r →
                    t.motion.arrivals = (s.motion.arrivals + 1) % 65536
                      ∧ t.motion.nextTag = (if 255 ≤ freeTag s then 200 else freeTag s + 1)
                      ∧ (s.motion.records = [] → s.motion.bank = none → (r.needsBank = true → s.bankWithheld = false) →
                        r.draw ≤ s.motion.budget → (∀ q ∈ r.seq, formStep s r q = some r) → completeAtGrant s r = none →
                        0 < (s.limits r.axis).prewarn →
                          ∃ x q u, t.motion.records = [x] ∧ x.tag = freeTag s ∧ x.station = some st.address
                            ∧ x.source = st.role ∧ x.kind = .sequence ∧ x.held = true ∧ x.axis = r.axis
                            ∧ x.dir = r.dir ∧ x.target = r.target ∧ x.state = .prewarn
                            ∧ x.arrival = s.motion.arrivals ∧ x.lastRefresh = s.clock ∧ x.seq = some q
                            ∧ q.number = m ∧ q.index = 1 ∧ q.granted = true ∧ q.pause = false ∧ q.limited = false
                            ∧ t.motion.bank = (if r.needsBank then some (freeTag s) else none)
                            ∧ t.station src.toNat = some u ∧ u.tags.get b = some (freeTag s)
                            ∧ u.refused.get b = false)))
          ∧ (∀ m n r q, st.function.get b = .seq m → st.tags.get b = some n → s.find n = some r → r.state = .paused →
            r.seq = some q →
              (st.releasePending = true → t.motion = s.motion ∧ t.link = s.link ∧ refused t b)
                ∧ (st.releasePending = false → s.AloneWaits r → s.Resumed r q t)))
      ∧ ∀ (c : Button) (a : Axis) (d d' : Dir) (sp sp' : Speed) (n : Nat) (r : Record), c ≠ b →
        (∀ x ∈ buttons, (buttonSet data).get x = decide (x = b ∨ x = c)) → only st.lastSet →
        st.function.get b = .jog a d sp → st.function.get c = .jog a d' sp' → d ≠ d' → st.tags.get b = some n →
        s.find n = some r → (st.tags.get c).bind s.find = none → s.LetGo r t ∧ refused t c

/-- R164 to R166, R176, R168, R172: a frame that is not good, by its bytes or by a STOP within a byte, or good but for
nothing, only ends, with its acknowledge bits; a START and a 1 ms silence move only the bus state; a station's silence
empties its last set, and its clear refused timer stops. The header is acknowledged to the part from a station 1 to 14
that is enabled, or as a broadcast to 0, and the other bytes up to the fifth where the header was and the station is
enabled or the kind is HALT. That the marks of the last frame stand in the state is the model's choice
(notes/assumptions/18.md). That a late row leaves the clock where it stands is the model's choice
(notes/assumptions/1.md). -/
def Obligations.FramesWithNoEffectOnlyEnd : Prop :=
  ∀ s : State,
    (∀ bytes : List Byte, busReceives s = true →
      let ended : State := { s with
        crew := { s.crew with
          bus := if s.crew.bus = .backoff then .backoff else .idle, inFrame := false, freeAt := s.clock + 200
          acks := ackBits s bytes } }
      (crewFrameOf bytes = none → exec (.crewFrameDiscard ⟨bytes, 0⟩) s = .next ended)
        ∧ (∀ rest : Nat, rest ≠ 0 → exec (.crewFrameDiscard ⟨bytes, rest⟩) s = .next ended)
        ∧ ∀ f : CrewFrame, crewFrameOf bytes = some f →
          ((∃ x y, f.kind = .lamps x y) ∨ f.src = 15 ∧ f.kind = .halt
            ∨ f.kind ≠ .halt ∧ (s.station f.src.toNat = none ∨ f.dst ≠ 0 ∧ f.dst ≠ 15)) →
            exec (.crewFrameIgnored bytes) s = .next ended)
      ∧ (∀ (src dst : BitVec 4) (rest : List Byte),
        let bytes : List Byte := (src ++ dst : BitVec 8) :: rest
        let enabled := (s.station src.toNat).isSome
        let header : Prop := (dst = 15 ∨ dst = 0) ∧ src ≠ 0 ∧ src ≠ 15 ∧ (enabled = true ∨ dst = 0)
        (ackBits s bytes).length = bytes.length
          ∧ ((ackBits s bytes)[0]? = some true ↔ header)
          ∧ ∀ n, 1 ≤ n → n < bytes.length →
            ((ackBits s bytes)[n]? = some true ↔
              header ∧ (enabled = true ∨ rest.head? = some 0x03) ∧ n + 1 ≤ 5))
      ∧ (s.crew.bus = .idle →
        exec .crewFrameStart s = .next { s with crew := { s.crew with bus := .receiving, inFrame := true } })
      ∧ (s.crew.bus = .backoff → exec .crewFrameStart s = .next { s with crew := { s.crew with inFrame := true } })
      ∧ (s.crew.inFrame = true →
        exec .crewFrameTimeout s =
          .next { s with
            crew := { s.crew with
              bus := if s.crew.bus = .backoff then .backoff else .idle, inFrame := false } })
      ∧ ∀ (n : Nat) (st : StationRecord) (t : Nat), s.station n = some st →
        (st.silence = some t →
          exec (.silenceTimerExpiry n) s =
            .next { s with
              clock := max s.clock (t + 1000000)
              crew := { s.crew with
                stations := s.crew.stations.map (fun x =>
                  if x.address = n then
                    { x with
                      silence := none, lastSet := ⟨false, false, false, false, false, false⟩
                      releasePending := x.releasePending || !x.lastSet.empty }
                  else x) } })
          ∧ (st.clearRefused = some t →
            exec (.clearRefusedTimerExpiry n) s =
              .next { s with
                clock := max s.clock (t + 1000000)
                crew := { s.crew with
                  stations := s.crew.stations.map (fun x =>
                    if x.address = n then { x with clearRefused := none } else x) } })

/-- R173 to R178: the LAMPS timer makes every station due; on an idle bus the first due station gets its frame, with its
lamps as they stand; sent, refused or lost, the bus goes on; a stuck line holds every pendant record and sends no more
until it recovers. A JOG or SEQ button shows FAST while the clear refused timer of its station runs, SLOW while its
record is past WAITING and not PAUSED, FAST while it is one of these or its press is refused, OFF without permission or
with a fault on any of its axes, and else ON; a STOP button FAST under the timer or the latch, and else ON; the frame
carries the six states. That an UNUSED button is OFF under the timer too, and that the bus is free at once after STUCK,
are the model's choices (notes/assumptions/42.md and 50.md). That a late row leaves the clock where it stands is the
model's choice (notes/assumptions/1.md). -/
def Obligations.LampsFramesGoOutInTurn : Prop :=
  ∀ s : State,
    (∀ (st : StationRecord) (b : Button),
      let shows := lampState s st b
      let on (a : Axis) : Prop := (∃ d sp, st.function.get b = .jog a d sp)
        ∨ ∃ n, st.function.get b = .seq n ∧ ∃ x ∈ stepsOf s n, x.axis = a
      (st.function.get b = .unused → shows = .off)
        ∧ (st.function.get b = .stop →
          shows = if st.clearRefused.isSome = true ∨ s.motion.estop = true then .fast else .on)
        ∧ ((∃ a d sp, st.function.get b = .jog a d sp) ∨ (∃ n, st.function.get b = .seq n) →
          (st.clearRefused.isSome = true → shows = .fast)
            ∧ (st.clearRefused = none →
              (∀ n r, st.tags.get b = some n → s.find n = some r →
                (r.state = .prewarn ∨ r.state = .starting ∨ r.state = .moving ∨ r.state = .stopping → shows = .slow)
                  ∧ (r.state = .waiting ∨ r.state = .paused → shows = .fast))
                ∧ ((∀ n, st.tags.get b = some n → s.find n = none) →
                  (st.refused.get b = true → shows = .fast)
                    ∧ (st.refused.get b = false →
                      ((∃ a, on a ∧ mayHold s st.role a = false) ∨ (∃ a, on a ∧ s.faulted a = true) → shows = .off)
                        ∧ ((∀ a, on a → mayHold s st.role a = true ∧ s.faulted a = false) → shows = .on))))))
      ∧ (∀ f : LampsFrame,
        let two (b : Button) : Byte := (f.lamps.get b).code
        f.frame.bytes.length = 5 ∧ f.frame.src = 15 ∧ f.frame.dst = BitVec.ofNat 4 f.station
          ∧ f.frame.kind = .lamps (64 * two .b1 + 16 * two .b2 + 4 * two .b3 + two .b4) (64 * two .b5 + 16 * two .b6))
      ∧ (∀ t, s.crew.lampsTick = some t →
      exec .lampsTimer s =
        .next { s with
          clock := max s.clock (t + 200000)
          crew := { s.crew with
            lampsTick := some (t + 200000)
            stations :=
              if s.crew.bus = .stuck then s.crew.stations
              else s.crew.stations.map (fun x => { x with lampsDue := true }) } })
      ∧ (∀ st, s.crew.bus = .idle → s.crew.stations.find? (fun x => x.lampsDue) = some st →
        exec .lampsFrameStart s =
          .next { s with
            clock := max s.clock s.crew.freeAt
            crew := { s.crew with
              bus := .transmitting
              sending := some ⟨st.address, .ofFn (lampState s st)⟩
              stations := s.crew.stations.map (fun x =>
                if x.address = st.address then { x with lampsDue := false } else x) } })
      ∧ (s.crew.bus = .transmitting →
        exec .lampsFrameSent s =
            .next { s with crew := { s.crew with bus := .idle, sending := none, freeAt := s.clock + 200 } }
          ∧ exec .lampsNotAcknowledged s =
            .next { s with crew := { s.crew with bus := .idle, sending := none, freeAt := s.clock + 200 } }
          ∧ ∀ f, s.crew.sending = some f →
            exec .arbitrationLost s =
              .next { s with
                crew := { s.crew with
                  bus := .backoff, sending := none, inFrame := true
                  stations := s.crew.stations.map (fun x =>
                    if x.address = f.station then { x with lampsDue := true } else x) } })
      ∧ (s.crew.bus = .backoff → s.crew.inFrame = false →
        exec .backoffEnd s =
          .next { s with clock := max s.clock s.crew.freeAt, crew := { s.crew with bus := .idle } })
      ∧ (s.crew.bus ≠ .stuck → s.tags.Nodup →
        ∃ t, exec .busStuck s = .next t ∧ t.crew.bus = .stuck ∧ t.crew.sending = none ∧ t.crew.inFrame = false
          ∧ (∀ st ∈ t.crew.stations, st.lampsDue = false)
          ∧ (∀ r ∈ t.motion.records, r.station.isSome = true → r.state = .stopping ∨ r.state = .paused)
          ∧ (s.link.notices.length < 16 → (s.link.notices ++ [.busState .stuck]) <+: t.link.notices)
          ∧ t.motion.axis = s.motion.axis ∧ t.clock = s.clock ∧ Kept s t)
      ∧ (s.crew.bus = .stuck → s.link.notices.length < 16 →
        exec .busRecover s =
          .next { s with
            crew := { s.crew with bus := .idle, freeAt := s.clock }
            link := { s.link with notices := s.link.notices ++ [.busState .idle] } })

/-- R164, R203: the bytes of a frame form it again and no other bytes do, so a frame is good exactly when it is laid
out with its XOR, from a source that is not 0, a HALT to 0; and no good frame stays good with one byte changed. -/
def Obligations.CrewFrameBytesRoundTrip : Prop :=
  (∀ (f : CrewFrame) (bytes : List Byte),
      crewFrameOf bytes = some f ↔ bytes = f.bytes ∧ f.src ≠ 0 ∧ (f.kind = .halt → f.dst = 0))
    ∧ ∀ (f : CrewFrame) (i : Nat) (b : Byte), crewFrameOf f.bytes = some f → f.bytes.set i b ≠ f.bytes →
      crewFrameOf (f.bytes.set i b) = none

/-! ### The host link -/

/-- R179 to R184: what the receiver does outside a good request: bad frames are counted to 255, good frames to 9999, a
fifth waiting request is an overrun, an unknown kind is answered, and the reply at the head leaves. Inside a frame a
character whose stop bit ends more than 694 µs and a character time (173 µs) after the last one has ended a long gap:
the partial frame is discarded and counted, and the character is judged as a possible SYNC. That a gap is timed from
stop bit to stop bit is the model's reading (notes/assumptions/44.md), and so is that bad CHECKs go uncounted while a
RESTART waits (notes/assumptions/19.md). From the acceptance of a RESTART on a good frame is dropped, neither counted
nor answered (R188), whether it comes as its row, as an overrun or as its characters; that it leaves OVERRUN as it is where
it finds four replies is the model's choice (notes/assumptions/64.md). That a late row leaves the clock where it stands
is the model's choice (notes/assumptions/1.md). -/
def Obligations.BadFramesAreCounted : Prop :=
  ∀ s : State,
    let sync (c : Byte) : Framing := if c = 0xC3 then .inside [] s.clock else .hunting
    let framed (f : Framing) : State := { s with link := { s.link with framing := f } }
    let counted (f : Framing) : State :=
      { s with link := { s.link with framing := f, bad := min (s.link.bad + 1) 255 } }
    (∀ c : Byte, (c.toNat < 2 ∨ 60 < c.toNat) → exec (.hostFrameBad (.len c)) s = .next (counted (sync c)))
      ∧ (s.link.restarting = false → exec (.hostFrameBad .check) s = .next (counted .hunting))
      ∧ (∀ taken last, s.link.framing = .inside taken last →
        exec (.hostFrameBad .framing) s = .next (counted .hunting)
          ∧ exec .hostGapTimeout s = .next { counted .hunting with clock := max s.clock (last + 695) }
          ∧ (last + 867 < s.clock → ∀ c,
            exec (.hostCharacterReceived c false) s = .next (counted .hunting)
              ∧ exec (.hostCharacterReceived c true) s = .next (counted (sync c)))
          ∧ (s.clock ≤ last + 867 →
            (∀ c, exec (.hostCharacterReceived c false) s = .next (counted .hunting))
              ∧ (∀ c, taken = [] → 2 ≤ c.toNat → c.toNat ≤ 60 →
                exec (.hostCharacterReceived c true) s = .next (framed (.inside [c] s.clock)))
              ∧ (∀ c, taken = [] → (c.toNat < 2 ∨ 60 < c.toNat) →
                exec (.hostCharacterReceived c true) s = .next (counted (sync c)))
              ∧ ∀ (len : Byte) (rest : List Byte) (c : Byte), taken = len :: rest →
                (rest.length < len.toNat →
                  exec (.hostCharacterReceived c true) s = .next (framed (.inside (taken ++ [c]) s.clock)))
                  ∧ (len.toNat ≤ rest.length → c ≠ checkOf taken → s.link.restarting = false →
                    exec (.hostCharacterReceived c true) s = .next (counted .hunting))
                  ∧ (len.toNat ≤ rest.length → s.link.restarting = true →
                    exec (.hostCharacterReceived c true) s = .next (framed .hunting))))
      ∧ (s.link.restarting = true →
        exec (.hostFrameBad .check) s = .next (framed .hunting)
          ∧ (4 ≤ s.link.fifo.length → exec .frameOverrun s = .next (framed .hunting))
          ∧ (∀ c kind tag payload, requestOf c = some (kind, tag, payload) → exec c s = .next (framed .hunting))
          ∧ ∀ kind tag : Byte, (kind = 0 ∨ 20 < kind.toNat) → exec (.unknownKind kind tag) s = .next (framed .hunting))
      ∧ (s.link.framing = .hunting →
        exec (.hostFrameBad .framing) s = .next s ∧ exec .hostGapTimeout s = .next s
          ∧ ∀ c, exec (.hostCharacterReceived c false) s = .next s
            ∧ exec (.hostCharacterReceived c true) s = .next (framed (sync c)))
      ∧ (s.link.restarting = false → 4 ≤ s.link.fifo.length →
        exec .frameOverrun s =
          .next { s with link := { s.link with
            framing := .hunting, good := (s.link.good + 1) % 10000, overrun := true } })
      ∧ (∀ kind tag : Byte, (kind = 0 ∨ 20 < kind.toNat) → s.Hears →
        exec (.unknownKind kind tag) s = .next (s.answered ⟨kind, tag, .badKind, []⟩))
      ∧ ∀ r rest, s.link.fifo = r :: rest → s.link.restarting = false →
        exec .replySent s = .next { s with link := { s.link with fifo := rest } }

/-- R179, R184, R203: the characters of a request's frame, received from HUNTING one after another, do what the
request's own row does, for each of the twenty requests; a known kind with a payload of another length is answered
BAD_LENGTH, and any other kind does what UNKNOWN_KIND does. -/
def Obligations.CharactersRunTheirRequest : Prop :=
  ∀ s : State, s.link.framing = .hunting →
    (∀ (c : Instr) (kind tag : Byte) (payload : List Byte), requestOf c = some (kind, tag, payload) →
      payload.length ≤ 58 → receive (requestFrame kind tag payload) s = exec c s)
      ∧ (∀ (kind tag : Byte) (payload : List Byte), 1 ≤ kind.toNat → kind.toNat ≤ 20 → payload.length ≤ 58 →
        (∀ c, requestOf c ≠ some (kind, tag, payload)) → s.Hears →
          receive (requestFrame kind tag payload) s = .next (s.answered ⟨kind, tag, .badLength, []⟩))
      ∧ ∀ (kind tag : Byte) (payload : List Byte), (kind = 0 ∨ 20 < kind.toNat) → payload.length ≤ 58 →
        receive (requestFrame kind tag payload) s = exec (.unknownKind kind tag) s

/-- R185, R186, R203: STATUS, QUERY-AXIS and QUERY-LIST answer from the state as it stands and change nothing else,
but that STATUS sets its two counters to 0 and clears OVERRUN. That QUERY-LIST shows 0 ms since the last refresh of a record
that is not held is the model's choice (notes/assumptions/51.md). -/
def Obligations.QueriesOnlyReport : Prop :=
  ∀ (s : State) (tag : Byte), s.Hears →
    exec (.status tag) s =
        .next { s with link := { s.link.answered ⟨0x01, tag, .ok,
            [s.store.mode.code, s.store.source.code, flag s.store.service, flag s.motion.estop, flag s.pins.holdoff,
              s.motion.supply.code] ++ be16? s.volts ++ be16 s.motion.budget ++ be16 s.drawSum
            ++ [s.crew.bus.code, byte s.link.notices.length, flag s.link.lost] ++ be16 ((s.link.good + 1) % 10000 : Nat)
            ++ [byte s.link.bad, flag s.link.overrun, flag s.store.lock, s.store.commit.code]⟩ with
          good := 0, bad := 0, overrun := false } }
      ∧ (∀ (axis : Byte) (a : Axis), axis.toNat = axisNumber a →
        exec (.queryAxis tag axis) s =
          .next (s.answered ⟨0x02, tag, .ok, be16? (s.position a) ++ be16? (s.motion.axis.get a).rawCode
            ++ [axisStateCode s a]
            ++ (match (s.motion.axis.get a).fault with
                | some f => [f.kind.code] ++ be16? f.position ++ [byte (f.tag.getD 0)]
                | none => [0, 0x80, 0, 0])
            ++ [byte (((s.claimant a).map Record.tag).getD 0)]⟩))
      ∧ (∀ axis : Byte, 5 ≤ axis.toNat →
        exec (.queryAxis tag axis) s = .next (s.answered ⟨0x02, tag, .badField, []⟩))
      ∧ exec (.queryList tag) s =
        .next (s.answered ⟨0x03, tag, .ok,
          byte s.motion.records.length :: s.motion.records.flatMap (fun r =>
            [byte r.tag, r.source.code, byte (r.station.getD 0), r.kind.code, byte (axisNumber r.axis)]
              ++ (match r.seq with
                  | some q => [byte q.number, byte q.index]
                  | none => [0, 0])
              ++ be16 r.target
              ++ [r.dir.code, r.speed.code,
                  byte ((if r.clamped then 1 else 0) + (if r.degraded then 2 else 0)), flag r.held]
              ++ be16 (if r.held then ((min ((s.clock - r.lastRefresh) / 1000) 65535 : Nat) : Int) else 0)
              ++ [if r.held then (1 : Byte) else 2] ++ be16 (r.arrival : Int)
              ++ [r.state.code, (match r.waitReason with | some x => x.code | none => 0)] ++ be16 (r.draw : Int)
              ++ [flag (s.motion.bank == some r.tag), (match r.pendingResult with | some x => x.code | none => 0)])⟩)
      ∧ ∀ r : Record, (recordContent s r).length = 24

/-- R190, R191: READ-NOTICES is answered in every mode with the count removed, LOST as it stood, the count still
held and up to four oldest notices; they leave the queue and LOST clears, and a notice discarded afterwards sets it
again. ATTN is high while a notice is held: it rises with the first, and falls as the last is removed. -/
def Obligations.ReadNoticesRemovesTheOldest : Prop :=
  State.reset.attn = false
    ∧ (∀ s : State, s.attn = !s.link.notices.isEmpty)
    ∧ (∀ (s : State) (n : Notice), (appendNotice n s).attn = true
        ∧ (s.link.notices.length < 16 → (appendNotice n s).link.notices = s.link.notices ++ [n])
        ∧ (16 ≤ s.link.notices.length →
          (appendNotice n s).link.notices = s.link.notices ∧ (appendNotice n s).link.lost = true))
    ∧ ∀ (s : State) (tag : Byte), s.Hears →
      let removed := s.link.notices.take 4
      let held := s.link.notices.drop 4
      ∃ t, exec (.readNotices tag) s = .next t
        ∧ t = { s with link := { s.link.answered ⟨0x0E, tag, .ok,
              [byte removed.length, flag s.link.lost, byte held.length] ++ removed.flatMap Notice.bytes⟩ with
            notices := held, lost := false } }
        ∧ (t.attn = false ↔ s.link.notices.length ≤ 4)

/-! ### Requests -/

/-- R28, R31, R32, R101, R184, R187: a CAB motion request with a malformed field is BAD_FIELD; any other is answered with
what its judgement refuses it with, and then changes nothing else. Checks 1 to 5 come first, in their order. Then each
check only where those before it pass: no permission on an axis of the request is NOT_PERMITTED (TARGET for a MOVE and an
unheld SEQUENCE, HOLD for the others), a faulted axis FAULTED, a tag in the list DUP_TAG, an axis claimed by a pendant
record OWNED, one claimed by a CAB record COMMITTED but for a MOVE over a MOVE in WAITING, an interlock of the first motion
INTERLOCK, and a limit that bears on it ENVELOPE. The first motion of a SEQUENCE is its first step; one whose LEVEL target
cannot be formed is judged in both directions and by no limit. -/
def Obligations.MotionRequestsAreJudged : Prop :=
  ∀ (s : State) (tag : Byte), s.Hears →
    let cab (d : Demand) : Request := { tag := some tag.toNat, source := .cab, station := none, demand := d }
    let judged (d : Demand) (e : Status) : Prop := judgeRequest s (cab d) = .refuse e
    let badTag : Prop := tag = 0 ∨ 199 < tag.toNat
    let ready : Prop := s.store.mode = .run ∧ s.store.commit = .idle ∧ s.pins.holdoff = false
      ∧ s.motion.estop = false ∧ s.motion.supply = .normal
    (∀ (axis speed : Byte) (target : Half),
      (badTag ∨ axisOf axis.toNat = none ∨ speedOf speed.toNat = none →
        exec (.move tag axis target speed) s = .next (s.answered ⟨0x04, tag, .badField, []⟩))
        ∧ ∀ a sp e, ¬badTag → axisOf axis.toNat = some a → speedOf speed.toNat = some sp →
          judged (.move a target.toInt sp) e →
            exec (.move tag axis target speed) s = .next (s.answered ⟨0x04, tag, e, []⟩))
      ∧ (∀ axis dir speed : Byte,
        (badTag ∨ axisOf axis.toNat = none ∨ dirOf dir.toNat = none ∨ speedOf speed.toNat = none →
          exec (.jog tag axis dir speed) s = .next (s.answered ⟨0x05, tag, .badField, []⟩))
          ∧ ∀ a d sp e, ¬badTag → axisOf axis.toNat = some a → dirOf dir.toNat = some d →
            speedOf speed.toNat = some sp → judged (.jog a d sp) e →
              exec (.jog tag axis dir speed) s = .next (s.answered ⟨0x05, tag, e, []⟩))
      ∧ (∀ seq held : Byte,
        (badTag ∨ seq = 0 ∨ 6 < seq.toNat ∨ 1 < held.toNat →
          exec (.runSequence tag seq held) s = .next (s.answered ⟨0x07, tag, .badField, []⟩))
          ∧ ∀ e, ¬badTag → 1 ≤ seq.toNat → seq.toNat ≤ 6 → held.toNat ≤ 1 →
            judged (.sequence seq.toNat (held = 1)) e →
              exec (.runSequence tag seq held) s = .next (s.answered ⟨0x07, tag, e, []⟩))
      ∧ (∀ n held, stepsOf s n = [] → judged (.sequence n held) .badField)
      ∧ (∀ d : Demand, (∀ n held, d = .sequence n held → stepsOf s n ≠ []) →
        (s.store.mode ≠ .run → judged d .starting)
          ∧ (s.store.mode = .run → s.store.commit ≠ .idle → judged d .profileBusy)
          ∧ (s.store.mode = .run → s.store.commit = .idle →
            (s.pins.holdoff = true → judged d .holdoff)
              ∧ (s.pins.holdoff = false → s.motion.estop = true → judged d .estopActive)
              ∧ (s.pins.holdoff = false → s.motion.estop = false → s.motion.supply = .cut → judged d .supplyLow)))
      ∧ (∀ (a : Axis) (d : Demand) (sp : Speed) (dir : Dir), ready →
        (∃ target, d = .move a target sp ∧ dir = moveDir s a target) ∨ d = .jog a dir sp →
          let allowed : Bool := if d = .jog a dir sp then mayHold s .cab a else mayTarget s .cab a
          let amends (x : Record) : Prop := x.kind = .move ∧ x.state = .waiting ∧ d ≠ .jog a dir sp
          (allowed = false → judged d .notPermitted)
            ∧ (allowed = true → s.faulted a = true → judged d .faulted)
            ∧ (allowed = true → s.faulted a = false →
              ((s.find tag.toNat).isSome = true → judged d .dupTag)
                ∧ (s.find tag.toNat = none →
                  ((∃ x ∈ s.motion.records, x.claims a = true ∧ x.station.isSome = true) → judged d .owned)
                    ∧ ((∀ x ∈ s.motion.records, x.claims a = true → x.station = none) →
                      (∀ x ∈ s.claimant a, ¬amends x → judged d .committed)
                        ∧ ((∀ x ∈ s.claimant a, amends x) →
                          (interlocks s a dir .cab = false → judged d .interlock)
                            ∧ (interlocks s a dir .cab = true → envelopeBlocked s a dir = true → judged d .envelope)
                            ∧ (interlocks s a dir .cab = true → envelopeBlocked s a dir = false →
                              (s.claimant a = none →
                                ∃ r, judgeRequest s (cab d) = .accept r ∧ r.axis = a ∧ r.dir = dir)
                                ∧ ∀ x ∈ s.claimant a,
                                  ∃ r, judgeRequest s (cab d) = .amend x r ∧ r.axis = a ∧ r.dir = dir))))))
      ∧ ∀ (n : Nat) (held : Bool) (first : Step) (rest : List Step), ready → stepsOf s n = first :: rest →
        let d : Demand := .sequence n held
        let on (a : Axis) : Prop := ∃ st ∈ stepsOf s n, st.axis = a
        let allowed (a : Axis) : Bool := if held then mayHold s .cab a else mayTarget s .cab a
        let free (dir : Dir) : Bool := interlocks s first.axis dir .cab
        ((∃ a, on a ∧ allowed a = false) → judged d .notPermitted)
          ∧ ((∀ a, on a → allowed a = true) →
            ((∃ a, on a ∧ s.faulted a = true) → judged d .faulted)
              ∧ ((∀ a, on a → s.faulted a = false) →
                ((s.find tag.toNat).isSome = true → judged d .dupTag)
                  ∧ (s.find tag.toNat = none →
                    ((∃ x ∈ s.motion.records, (∃ a, on a ∧ x.claims a = true) ∧ x.station.isSome = true) →
                      judged d .owned)
                      ∧ ((∀ x ∈ s.motion.records, (∃ a, on a ∧ x.claims a = true) → x.station = none) →
                        ((∃ x ∈ s.motion.records, ∃ a, on a ∧ x.claims a = true) → judged d .committed)
                          ∧ ((∀ x ∈ s.motion.records, ∀ a, on a → x.claims a = false) →
                            (requestedTarget s first = none →
                              (free .inc = false ∨ free .dec = false → judged d .interlock)
                                ∧ (free .inc = true → free .dec = true →
                                  ∃ r, judgeRequest s (cab d) = .accept r ∧ r.axis = first.axis))
                              ∧ ∀ v ∈ requestedTarget s first,
                                let dir := stepDir s first.axis (travelClamp s first.axis v) .inc
                                (free dir = false → judged d .interlock)
                                  ∧ (free dir = true → envelopeBlocked s first.axis dir = true → judged d .envelope)
                                  ∧ (free dir = true → envelopeBlocked s first.axis dir = false →
                                    ∃ r, judgeRequest s (cab d) = .accept r ∧ r.axis = first.axis
                                      ∧ r.dir = dir))))))

/-- R28 to R30, R34, R40, R41, R93, R100, R102, R187: what an accepted CAB request does. Every acceptance takes the next arrival
number; a MOVE is answered with its clamped target and its flags, the others with their status alone. On an empty list a
MOVE, a JOG or a SEQUENCE whose first step can be formed, whose bank, budget and interlocks allow, enters PREWARN with its
bank, or STARTING on an axis with no prewarn time and no strip pressed; behind a bank that another holds or that is withheld
it waits for BANK, and above the budget for BUDGET. A SEQUENCE starts at its first step, claims the axes of all its steps and
needs the bank for a hydraulic one. A MOVE amends a CAB
MOVE of a door that waits for its budget: the record takes the new motion in its place and keeps the rest, and the answer
is AMENDED. A JOG-REFRESH of no held CAB record is BAD_FIELD; of one whose hold timer runs it restarts that timer. -/
def Obligations.AcceptedRequestsAct : Prop :=
  ∀ (s : State) (tag : Byte), s.Hears → s.motion.attemptsDue = 0 →
    let rq (d : Demand) : Request := { tag := some tag.toNat, source := .cab, station := none, demand := d }
    let goodTag : Prop := 1 ≤ tag.toNat ∧ tag.toNat ≤ 199
    (∀ (axis speed : Byte) (target : Half) (a : Axis) (sp : Speed), goodTag → axisOf axis.toNat = some a →
      speedOf speed.toNat = some sp →
      (∀ r, judgeRequest s (rq (.move a target.toInt sp)) = .accept r →
        ∃ t, exec (.move tag axis target speed) s = .next t
          ∧ t.motion.arrivals = (s.motion.arrivals + 1) % 65536
          ∧ t.link.fifo = s.link.fifo ++ [⟨0x04, tag, .ok, be16 r.target ++ [r.flags]⟩]
          ∧ s.link.notices <+: t.link.notices ∧ t.motion.axis = s.motion.axis ∧ Kept s t
          ∧ r.axis = a ∧ r.seq = none ∧ s.Enters tag.toNat .move false (isHydraulic a) r t)
        ∧ ∀ old r, judgeRequest s (rq (.move a target.toInt sp)) = .amend old r → old.seq = none →
          ∃ t, exec (.move tag axis target speed) s = .next t
            ∧ t.link.fifo = s.link.fifo ++ [⟨0x04, tag, .amended, be16 r.target ++ [r.flags]⟩]
            ∧ t.motion.arrivals = s.motion.arrivals ∧ t.motion.axis = s.motion.axis ∧ Kept s t
            ∧ (isHydraulic a = false → s.AloneWaits old → s.find old.tag = some old → 0 < r.draw → s.motion.budget < s.drawSum + r.draw →
              t.motion = { s.motion with
                  records := s.motion.records.map (fun x =>
                    if x.tag = old.tag then
                      { old with
                        target := r.target, limitMark := r.limitMark, dir := r.dir, draw := r.draw, speed := r.speed
                        clamped := r.clamped, degraded := r.degraded, waitReason := some .budget }
                    else x) }
                ∧ t.link.notices = s.link.notices))
      ∧ (∀ (axis dir speed : Byte) (a : Axis) (d : Dir) (sp : Speed) (r : Record), goodTag → axisOf axis.toNat = some a →
        dirOf dir.toNat = some d → speedOf speed.toNat = some sp →
        judgeRequest s (rq (.jog a d sp)) = .accept r →
          ∃ t, exec (.jog tag axis dir speed) s = .next t
            ∧ t.motion.arrivals = (s.motion.arrivals + 1) % 65536
            ∧ t.link.fifo = s.link.fifo ++ [⟨0x05, tag, .ok, []⟩]
            ∧ s.link.notices <+: t.link.notices ∧ t.motion.axis = s.motion.axis ∧ Kept s t
            ∧ r.axis = a ∧ r.dir = d ∧ r.seq = none ∧ s.Enters tag.toNat .jog true (isHydraulic a) r t)
      ∧ (∀ (seq held : Byte) (r : Record), goodTag → 1 ≤ seq.toNat → seq.toNat ≤ 6 → held.toNat ≤ 1 →
        judgeRequest s (rq (.sequence seq.toNat (held = 1))) = .accept r →
          ∃ t, exec (.runSequence tag seq held) s = .next t
            ∧ t.motion.arrivals = (s.motion.arrivals + 1) % 65536
            ∧ t.link.fifo = s.link.fifo ++ [⟨0x07, tag, .ok, []⟩]
            ∧ s.link.notices <+: t.link.notices ∧ t.motion.axis = s.motion.axis ∧ Kept s t
            ∧ ∃ q, r.seq = some q ∧ q.number = seq.toNat ∧ q.index = 1 ∧ q.limited = false ∧ q.pause = false
              ∧ (q.needsBank = true ↔ ∃ st ∈ stepsOf s seq.toNat, isHydraulic st.axis = true)
              ∧ (∀ a ∈ axes, q.claimed.get a = true ↔ ∃ st ∈ stepsOf s seq.toNat, st.axis = a)
              ∧ (formStep s r q = some r → s.Enters tag.toNat .sequence (decide (held = 1)) q.needsBank r t))
      ∧ ((∀ r, s.find tag.toNat = some r → r.source ≠ .cab ∨ r.held = false) →
        exec (.jogRefresh tag) s = .next (s.answered ⟨0x06, tag, .badField, []⟩))
      ∧ ∀ r, s.find tag.toNat = some r → r.source = .cab → r.held = true →
        (r.state = .waiting ∨ r.state = .prewarn ∨ r.state = .starting ∨ r.state = .moving) →
          exec (.jogRefresh tag) s =
            .next { s.answered ⟨0x06, tag, .ok, []⟩ with
              motion := { s.motion with
                records := s.motion.records.map (fun x =>
                  if x.tag = tag.toNat then { x with lastRefresh := s.clock } else x) } }

/-- R115, R116, R105, R109, R113, R121, R131, R132, R162, R157: a STOP of an axis, and a STOP of the tag of a record that is
not a held CAB one that runs (an unheld CAB record, a pendant's record that CAB may stop, a PAUSED one), end the record in
WAITING, PREWARN, PAUSED or, with no duty staged yet, STARTING, begin the controlled stop of a driven one, and take one in
STOPPING out of its pause stop, or out of its pending LIMITED; a STOP of the tag of a held CAB record releases it;
a STOP of the tag of a held CAB SEQUENCE pauses it by R108, or ends a PAUSED one STOPPED;
ESTOP-CLEAR clears the latch or is HELD; FAULT-CLEAR removes a fault whose checks pass and else is STILL_FAULTED, the checks
being the sensor verdict of the axis (R16), and the latest echo and reading of each of its outputs;
BEACON-OVERRIDE is taken in RUN. That a STOP of an axis that nothing claims is OK whatever the
permission is the model's reading (notes/assumptions/17.md), and that a release so made sets the pause mark of a SEQUENCE
that stops pending LIMITED, changes nothing in its pause stop, and pauses it in WAITING after its first grant, its choices
(notes/assumptions/39.md, 40.md and 55.md); so is that a STOP proper puts STOPPED in the place of LIMITED in a step
that is reversing too (notes/assumptions/54.md), and that a clear of a lamp fault leaves the lamp's on-time and counts as they are
(notes/assumptions/57.md). -/
def Obligations.StopsAndClearsAreAnswered : Prop :=
  ∀ (s : State) (tag : Byte), s.Hears →
    (∀ (axis : Byte) (a : Axis), axisOf axis.toNat = some a →
      (s.claimant a = none → exec (.stop tag axis 0) s = .next (s.answered ⟨0x08, tag, .ok, []⟩))
        ∧ (∀ r, s.claimant a = some r →
          (mayHold s .cab a = false →
            exec (.stop tag axis 0) s = .next (s.answered ⟨0x08, tag, .notPermitted, []⟩))
            ∧ (mayHold s .cab a = true → s.find r.tag = some r →
              ∃ t, exec (.stop tag axis 0) s = .next t ∧ t.motion.axis = s.motion.axis ∧ Kept s t
                ∧ t.link.fifo = s.link.fifo ++ [⟨0x08, tag, .ok, []⟩]
                ∧ s.StoppedProperly r t))
        ∧ (faultClears s a = true ↔ (s.sense.get (.axis a)).clearable = true
          ∧ ∀ o ∈ outputsOf a, (s.drive.out.get o).echoMatch = true ∧ (s.drive.out.get o).reading ≤ (thresholdsOf o).2)
        ∧ (s.faulted a = false → exec (.faultClear tag axis 0xFF) s = .next (s.answered ⟨0x0C, tag, .ok, []⟩))
        ∧ (s.faulted a = true → faultClears s a = false →
          exec (.faultClear tag axis 0xFF) s = .next (s.answered ⟨0x0C, tag, .stillFaulted, []⟩))
        ∧ (s.faulted a = true → faultClears s a = true →
          ∃ t, exec (.faultClear tag axis 0xFF) s = .next t ∧ t.faulted a = false ∧ KeptAxes [a] s t
            ∧ (∀ o ∈ outputsOf a, (∀ b ∈ axesOf o, b ≠ a → s.faulted b = false) →
              (t.drive.out.get o).force.faultHold = false)
            ∧ t.link.fifo = s.link.fifo ++ [⟨0x0C, tag, .ok, []⟩] ∧ Kept s t))
      ∧ (∀ (n : Byte) (r : Record), n ≠ 0 → s.find n.toNat = some r → mayStop s r = true → r.source = .cab →
        r.held = true → r.seq = none →
          ∃ t, exec (.stop tag 0xFF n) s = .next t ∧ t.motion.axis = s.motion.axis ∧ Kept s t
            ∧ t.link.fifo = s.link.fifo ++ [⟨0x08, tag, .ok, []⟩]
            ∧ (r.state = .waiting ∨ r.state = .prewarn ∨ (r.state = .starting ∨ r.state = .moving) ∧ r.dPrev = 0 →
              Ended r .released s t)
            ∧ ((r.state = .starting ∨ r.state = .moving) → r.dPrev ≠ 0 → s.motion.attemptsDue = 0 →
              t.motion = { s.motion with
                records := s.motion.records.map (fun x =>
                  if x.tag = r.tag then
                    { r with
                      state := .stopping, pendingResult := some .released, stall := none, overload := none
                      currentSince := none }
                  else x) })
            ∧ (r.state = .stopping → s.motion.attemptsDue = 0 → t.motion = s.motion))
      ∧ (∀ (n : Byte) (r : Record) (q : SeqFields), n ≠ 0 → s.find n.toNat = some r → mayStop s r = true →
        r.source = .cab → r.held = true → r.seq = some q →
          let paused (t : State) : Prop := (∃ r', t.find r.tag = some r' ∧ r'.state = .paused ∧ r'.pauseSince = s.clock
            ∧ r'.pendingResult = none ∧ r'.axis = r.axis ∧ r'.seq = some { q with pause := false })
            ∧ t.motion.bank = s.motion.bank ∧ t.link.notices = s.link.notices
          let now (x : Record) : Motion := { s.motion with
            records := s.motion.records.map (fun y => if y.tag = r.tag then x else y) }
          ∃ t, exec (.stop tag 0xFF n) s = .next t ∧ t.motion.axis = s.motion.axis ∧ Kept s t
            ∧ t.link.fifo = s.link.fifo ++ [⟨0x08, tag, .ok, []⟩]
            ∧ (r.state = .paused → Ended r .stopped s t)
            ∧ (r.state = .waiting → q.granted = false → Ended r .released s t)
            ∧ (s.motion.attemptsDue = 0 →
              (r.state = .waiting ∧ q.granted = true ∨ r.state = .prewarn
                ∨ (r.state = .starting ∨ r.state = .moving) ∧ r.dPrev = 0 ∧ r.reversing = false → paused t)
                ∧ ((r.state = .starting ∨ r.state = .moving) → r.dPrev ≠ 0 →
                  t.motion = now { r with
                    state := .stopping, pendingResult := some .released, stall := none, overload := none
                    currentSince := none, seq := some { q with pause := !r.reversing } }
                    ∧ t.drive = s.drive ∧ t.link.notices = s.link.notices)
                ∧ (r.state = .stopping → s.tags.Nodup →
                  t.motion = now { r with
                    seq := some { q with
                      pause := q.pause || decide (r.pendingResult = some .limited ∧ r.reversing = false) } }
                    ∧ t.drive = s.drive ∧ t.link.notices = s.link.notices)))
      ∧ (∀ (n : Byte) (r : Record), n ≠ 0 → s.find n.toNat = some r → mayStop s r = true →
        (r.source ≠ .cab ∨ r.held = false ∨ r.state = .paused) →
          ∃ t, exec (.stop tag 0xFF n) s = .next t ∧ s.StoppedProperly r t
            ∧ t.link.fifo = s.link.fifo ++ [⟨0x08, tag, .ok, []⟩] ∧ t.motion.axis = s.motion.axis ∧ Kept s t)
      ∧ (∀ (n : Byte) (r : Record), n ≠ 0 → s.find n.toNat = some r → mayStop s r = false →
        exec (.stop tag 0xFF n) s = .next (s.answered ⟨0x08, tag, .notPermitted, []⟩))
      ∧ (∀ n : Byte, n = 0 ∨ s.find n.toNat = none →
        exec (.stop tag 0xFF n) s = .next (s.answered ⟨0x08, tag, .badField, []⟩))
      ∧ (s.motion.estop = false → exec (.estopClear tag) s = .next (s.answered ⟨0x0B, tag, .ok, []⟩))
      ∧ (s.motion.estop = true → clearAllowed s = false →
        exec (.estopClear tag) s = .next (s.answered ⟨0x0B, tag, .held, []⟩))
      ∧ (s.motion.estop = true → clearAllowed s = true → s.link.notices.length < 16 →
        exec (.estopClear tag) s =
          .next { s with
            motion := { s.motion with estop := false }
            link := { s.link.answered ⟨0x0B, tag, .ok, []⟩ with
              notices := s.link.notices ++ [.estopCleared] } })
      ∧ ∀ (channel : Byte) (l : Lamp), lampOf channel.toNat = some l →
        (s.lampFaulted l = false → exec (.faultClear tag 0xFF channel) s = .next (s.answered ⟨0x0C, tag, .ok, []⟩))
          ∧ (s.lampFaulted l = true → (s.drive.lamp.get l).echoMatch = true → (s.drive.lamp.get l).reading ≤ 60 →
            ∃ t, exec (.faultClear tag 0xFF channel) s = .next t
              ∧ t.beacon.channel = s.beacon.channel.set l { s.beacon.channel.get l with fault := none }
              ∧ t.drive.lamp = s.drive.lamp.set l { s.drive.lamp.get l with shortForce := false }
              ∧ t.link = s.link.answered ⟨0x0C, tag, .ok, []⟩ ∧ t.motion = s.motion)
          ∧ (s.lampFaulted l = true →
            ((s.drive.lamp.get l).echoMatch = false ∨ 60 < (s.drive.lamp.get l).reading) →
              exec (.faultClear tag 0xFF channel) s = .next (s.answered ⟨0x0C, tag, .stillFaulted, []⟩))
          ∧ ∀ (pattern : Byte) (seconds : Half) (p : Option OverridePattern), overrideOf pattern.toNat = some p →
            seconds.toNat ≤ 600 →
              (s.store.mode ≠ .run →
                exec (.beaconOverride tag channel pattern seconds) s =
                  .next (s.answered ⟨0x0D, tag, .starting, []⟩))
                ∧ (s.store.mode = .run →
                  ∃ t, exec (.beaconOverride tag channel pattern seconds) s = .next t
                    ∧ (t.beacon.channel.get l).override =
                      p.map (fun p => ⟨p, if seconds = 0 then none else some (seconds.toNat * 1000)⟩)
                    ∧ (∀ l' ∈ lamps, l' ≠ l → t.beacon.channel.get l' = s.beacon.channel.get l')
                    ∧ t.link = s.link.answered ⟨0x0D, tag, .ok, []⟩ ∧ t.motion = s.motion ∧ t.drive = s.drive)

/-! ### The profile store -/

/-- R197, R198, R201, R188, R196: PROFILE-READ returns the bytes in force; PROFILE-STAGE writes the staging copy of
a region that is open to it, and PROFILE-DISCARD takes the copy again from the image in force; LOCK-ENVELOPES sets
the lock for good; RESTART is taken unless the latch is set. That a region, offset or count outside its bounds is
BAD_FIELD before STARTING, that NOT_PERMITTED stands before LOCKED, and that a lock during a commit waits for its end are
the model's readings (notes/assumptions/24.md, 43.md and 22.md). -/
def Obligations.ProfileRequestsAreAnswered : Prop :=
  ∀ (s : State) (tag : Byte), s.Hears →
    (∀ (region : Byte) (offset : Half) (length : Byte) (m : Image), s.store.inForce = some m → m.Sound →
      (region.toNat ≤ 7 ∧ 1 ≤ length.toNat ∧ length.toNat ≤ 48
          ∧ offset.toNat + length.toNat ≤ regionLength region.toNat →
        (s.store.mode = .run →
          exec (.profileRead tag region offset length) s =
            .next (s.answered ⟨0x0F, tag, .ok,
              m.readAll (m.offset region.toNat + offset.toNat) length.toNat⟩))
          ∧ (s.store.mode ≠ .run →
            exec (.profileRead tag region offset length) s = .next (s.answered ⟨0x0F, tag, .starting, []⟩)))
        ∧ ((7 < region.toNat ∨ length.toNat = 0 ∨ 48 < length.toNat
            ∨ regionLength region.toNat < offset.toNat + length.toNat) →
          exec (.profileRead tag region offset length) s = .next (s.answered ⟨0x0F, tag, .badField, []⟩)))
      ∧ (∀ (region : Byte) (offset : Half) (bytes : List Byte) (m : Image), s.store.staging = some m → m.Sound →
        region.toNat ≤ 6 → 1 ≤ bytes.length → bytes.length ≤ 48 →
        offset.toNat + bytes.length ≤ regionLength region.toNat →
          (s.store.mode ≠ .run →
            exec (.profileStage tag region offset bytes) s = .next (s.answered ⟨0x10, tag, .starting, []⟩))
            ∧ (s.store.mode = .run → s.store.commit ≠ .idle →
            exec (.profileStage tag region offset bytes) s = .next (s.answered ⟨0x10, tag, .committed, []⟩))
            ∧ (s.store.mode = .run → s.store.commit = .idle →
              (3 ≤ region.toNat → s.store.service = false →
                exec (.profileStage tag region offset bytes) s = .next (s.answered ⟨0x10, tag, .notPermitted, []⟩))
                ∧ (s.store.service = true → region.toNat = 5 → s.store.lock = true →
                  exec (.profileStage tag region offset bytes) s = .next (s.answered ⟨0x10, tag, .locked, []⟩))
                ∧ ((3 ≤ region.toNat → s.store.service = true) → (region.toNat = 5 → s.store.lock = false) →
                  exec (.profileStage tag region offset bytes) s =
                    .next { s.answered ⟨0x10, tag, .ok, []⟩ with
                      store := { s.store with
                        staging := some (m.writeAll (m.offset region.toNat + offset.toNat) bytes) } })))
      ∧ (∀ (region : Byte) (offset : Half) (bytes : List Byte),
        (6 < region.toNat ∨ bytes.length = 0 ∨ 48 < bytes.length
          ∨ regionLength region.toNat < offset.toNat + bytes.length) →
          exec (.profileStage tag region offset bytes) s = .next (s.answered ⟨0x10, tag, .badField, []⟩))
      ∧ (s.store.mode = .run →
        exec (.profileDiscard tag) s =
            .next { s.answered ⟨0x11, tag, .ok, []⟩ with
              store := { s.store with
                staging := if s.store.commit = .idle then s.store.inForce else s.store.staging } }
          ∧ (s.store.lock = true → exec (.lockEnvelopes tag) s = .next (s.answered ⟨0x13, tag, .ok, []⟩))
          ∧ (s.store.lock = false → s.store.commit ≠ .idle →
            exec (.lockEnvelopes tag) s =
              .next { s.answered ⟨0x13, tag, .ok, []⟩ with store := { s.store with lockDue := true } })
          ∧ ∀ m f : Image, s.store.lock = false → s.store.commit = .idle → s.store.staging = some m →
            s.store.inForce = some f →
              exec (.lockEnvelopes tag) s =
                .next { s.answered ⟨0x13, tag, .ok, []⟩ with
                  store := { s.store with lock := true, lockDue := false, staging := some (copyEnvelopes m f) } })
      ∧ (s.store.mode ≠ .run →
        exec (.profileDiscard tag) s = .next (s.answered ⟨0x11, tag, .starting, []⟩)
          ∧ exec (.lockEnvelopes tag) s = .next (s.answered ⟨0x13, tag, .starting, []⟩))
      ∧ (s.motion.estop = true → exec (.restart tag) s = .next (s.answered ⟨0x14, tag, .estopActive, []⟩))
      ∧ (s.motion.estop = false →
        exec (.restart tag) s =
          .next { s with link := { s.link.answered ⟨0x14, tag, .ok, []⟩ with restarting := true } })

/-- R199, R200, R201: a commit. It starts on an empty list with a staging copy whose relations hold, goes through ERASE,
sixteen PROGRAM pages and VERIFY, and ends with the new image in force, or failed with the old one; either way the
staging copy is the image in force and the notice says which. Which region and offset a BAD_PROFILE names, that a step
of exactly 500 ms is in time, and what becomes of a lock during a commit are the model's readings
(notes/assumptions/23.md, 21.md and 22.md), and what it checks of a combine flag above 1, the value of a step slot that is not ABSOLUTE, button bytes that are
00H, and the slot that ends a sequence entry its choices (notes/assumptions/52.md, 53.md, 61.md and 63.md). As the new profile comes into force the station records are formed again, a
kept address with its last set, release pending mark and silence timer (R167); the stretch and pulse timers are cut to
the new length and nothing else of a channel changes (R149); the disagreement counts are 0 and the positions brought
within the new travel and its margin (R17). A step that its own row ends after more than 500 ms fails its stage. That a
late row leaves the clock where it stands is the model's choice (notes/assumptions/1.md). -/
def Obligations.CommitsGoThroughTheirStages : Prop :=
  ∀ s : State,
    (∀ tag : Byte, s.Hears →
      (s.store.mode ≠ .run → exec (.profileCommit tag) s = .next (s.answered ⟨0x12, tag, .starting, []⟩))
        ∧ (s.store.mode = .run → s.store.commit ≠ .idle →
          exec (.profileCommit tag) s = .next (s.answered ⟨0x12, tag, .profileBusy, []⟩))
        ∧ (s.store.mode = .run → s.store.commit = .idle →
          (s.motion.records ≠ [] → exec (.profileCommit tag) s = .next (s.answered ⟨0x12, tag, .notEmpty, []⟩))
            ∧ (s.motion.records = [] → ∀ m, s.store.staging = some m →
              (∀ r k, m.firstBad = some (r, k) →
                exec (.profileCommit tag) s = .next (s.answered ⟨0x12, tag, .badProfile, byte r :: be16 k⟩))
                ∧ (m.firstBad = none →
                  exec (.profileCommit tag) s =
                    .next { s.answered ⟨0x12, tag, .ok, []⟩ with
                      store := { s.store with
                        staging := some m.sealed, commit := .erase, stepSince := s.clock } }))))
      ∧ (s.store.commit = .erase → s.clock ≤ s.store.stepSince + 500000 →
        exec .commitEraseDone s =
          .next { s with store := { s.store with commit := .program 0, stepSince := s.clock } })
      ∧ (∀ n, s.store.commit = .program n → s.clock ≤ s.store.stepSince + 500000 →
        exec .commitPageDone s =
          .next { s with
            store := { s.store with commit := if n < 15 then .program (n + 1) else .verify, stepSince := s.clock } })
      ∧ (∀ (bytes : List Byte), s.store.commit = .verify → s.clock ≤ s.store.stepSince + 500000 →
        s.store.staging = some (imageOf bytes) → s.store.lockDue = false → s.link.notices.length < 16 →
          ∃ t, exec (.commitVerifyDone bytes) s = .next t ∧ t.profile = (imageOf bytes).profile
            ∧ t.store = { s.store with
                inForce := some (imageOf bytes), staging := some (imageOf bytes), source := .flash, commit := .idle }
            ∧ t.link = { s.link with notices := s.link.notices ++ [.profileDone none] }
            ∧ t.motion.records = s.motion.records ∧ t.motion.estop = s.motion.estop ∧ t.drive = s.drive
            ∧ t.pins = s.pins
            ∧ t.crew = { s.crew with stations := t.crew.stations }
            ∧ t.crew.stations.length = t.profile.stations.length
            ∧ (∀ (n : Nat) (e : Station), t.profile.stations[n]? = some e → ∃ u, t.crew.stations[n]? = some u
              ∧ u.address = e.address ∧ u.role = e.role ∧ u.function = e.function
              ∧ (∀ b ∈ buttons, u.tags.get b = none ∧ u.refused.get b = false)
              ∧ u.clearRefused = none ∧ u.lampsDue = false
              ∧ (∀ st, s.station e.address = some st →
                u.lastSet = st.lastSet ∧ u.releasePending = st.releasePending ∧ u.silence = st.silence)
              ∧ (s.station e.address = none →
                (∀ b ∈ buttons, u.lastSet.get b = false) ∧ u.releasePending = false ∧ u.silence = none))
            ∧ (∀ l ∈ lamps, t.beacon.channel.get l = { s.beacon.channel.get l with
                stretch := min (s.beacon.channel.get l).stretch t.profile.beacons.stretch
                pulse := min (s.beacon.channel.get l).pulse t.profile.beacons.stretch })
            ∧ t.beacon = { s.beacon with channel := t.beacon.channel }
            ∧ (∀ c, t.sense.get c = { s.sense.get c with disagree := 0 })
            ∧ (∀ a ∈ axes, t.motion.axis.get a = { s.motion.axis.get a with
                position := (s.position a).map (t.withinMargin a) }))
      ∧ (∀ (bytes : List Byte) (m : Image), s.store.commit = .verify → s.store.staging = some m → imageOf bytes ≠ m →
        s.store.lockDue = false → s.link.notices.length < 16 →
          exec (.commitVerifyDone bytes) s =
            .next { s with
              store := { s.store with staging := s.store.inForce, commit := .idle }
              link := { s.link with notices := s.link.notices ++ [.profileDone (some .verify)] } })
      ∧ (∀ g, s.store.stepSince + 500000 < s.clock → s.store.lockDue = false → s.link.notices.length < 16 →
        let failed : State := { s with
          store := { s.store with staging := s.store.inForce, commit := .idle }
          link := { s.link with notices := s.link.notices ++ [.profileDone (some g)] } }
        (g = .erase → s.store.commit = .erase → exec .commitEraseDone s = .next failed)
          ∧ (∀ n, g = .program → s.store.commit = .program n → exec .commitPageDone s = .next failed)
          ∧ ∀ bytes : List Byte, g = .verify → s.store.commit = .verify →
            exec (.commitVerifyDone bytes) s = .next failed)
      ∧ ∀ g, s.store.commit.stage = some g →
        (s.store.lockDue = false → s.link.notices.length < 16 →
          exec .commitStepTimeout s =
            .next { s with
              clock := max s.clock (s.store.stepSince + 500000)
              store := { s.store with staging := s.store.inForce, commit := .idle }
              link := { s.link with notices := s.link.notices ++ [.profileDone (some g)] } })
          ∧ (s.store.lockDue = true → ∃ t, exec .commitStepTimeout s = .next t
            ∧ t.store.lock = true ∧ t.store.lockDue = false ∧ t.store.commit = .idle)
end

