-- ==== Sys2Proof/Laws/Image.lean ====
section
/-! SUPPORT. Laws/Image.lean: the profile image as memory. A read after a write gives the value written, a write
leaves every other byte alone, every operation keeps the canonical form, and an image is the image of its own bytes. -/

namespace Sys2Proof.Machine

open Sys2Proof

/-! ### The canonical form -/

theorem Image.wfFrom_cons (lo a : Nat) (b : Byte) (m : Image) :
    Image.wfFrom lo ((a, b) :: m) = true ↔ lo ≤ a ∧ a < 4096 ∧ b ≠ 0 ∧ Image.wfFrom (a + 1) m = true := by
  simp only [Image.wfFrom, Bool.and_eq_true, decide_eq_true_eq, and_assoc]
  exact Iff.rfl

theorem Image.wfFrom_mono {lo lo' : Nat} (h : lo' ≤ lo) : ∀ {m : Image}, m.wfFrom lo = true → m.wfFrom lo' = true
  | [], _ => rfl
  | (a, b) :: m, hm => by
      rw [Image.wfFrom_cons] at hm ⊢
      exact ⟨le_trans h hm.1, hm.2⟩

theorem Image.write_wfFrom (k : Nat) (v : Byte) (hk : k < 4096) :
    ∀ (m : Image) (lo : Nat), lo ≤ k → m.wfFrom lo = true → (m.write k v).wfFrom lo = true
  | [], lo, hlo, _ => by
      by_cases hv : v = 0#8
      · simp [Image.write, hv, Image.wfFrom]
      · simp only [Image.write, show ¬ v = 0 from hv, if_false]
        exact (Image.wfFrom_cons lo k v []).2 ⟨hlo, hk, hv, rfl⟩
  | (a, b) :: m, lo, hlo, hm => by
      have h := (Image.wfFrom_cons lo a b m).1 hm
      unfold Image.write
      by_cases hka : k < a
      · by_cases hv : v = 0#8
        · simpa [hka, hv] using hm
        · simpa [hka, hv, Image.wfFrom_cons, hlo, hk, h.2.1, h.2.2.2, Nat.succ_le_of_lt hka] using h.2.2.1
      · by_cases he : k = a
        · subst he
          by_cases hv : v = 0#8
          · simpa [hv] using Image.wfFrom_mono (by omega) h.2.2.2
          · simp [hv, Image.wfFrom_cons, hlo, hk, h.2.2.2]
        · simp only [hka, he, if_false, Image.wfFrom_cons]
          exact ⟨h.1, h.2.1, h.2.2.1, Image.write_wfFrom k v hk m (a + 1) (by omega) h.2.2.2⟩

theorem Image.write_wf {m : Image} (h : m.wf = true) {k : Nat} (hk : k < 4096) (v : Byte) : (m.write k v).wf = true :=
  Image.write_wfFrom k v hk m 0 (Nat.zero_le k) h

theorem Image.writeAll_wf : ∀ (bytes : List Byte) (m : Image) (k : Nat),
    m.wf = true → k + bytes.length ≤ 4096 → (m.writeAll k bytes).wf = true
  | [], _, _, h, _ => h
  | b :: bytes, m, k, h, hk => by
      simp only [List.length_cons] at hk
      exact Image.writeAll_wf bytes (m.write k b) (k + 1) (Image.write_wf h (by omega) b) (by omega)

theorem imageFrom_wfFrom : ∀ (bytes : List Byte) (k : Nat), k + bytes.length ≤ 4096 → (imageFrom k bytes).wfFrom k = true
  | [], _, _ => rfl
  | b :: bytes, k, hk => by
      simp only [List.length_cons] at hk
      have ih := imageFrom_wfFrom bytes (k + 1) (by omega)
      by_cases hb : b = 0#8
      · simpa [imageFrom, hb] using Image.wfFrom_mono (by omega) ih
      · simp [imageFrom, hb, Image.wfFrom_cons, ih]
        omega

/-- What is read from the flash is in canonical form. -/
theorem imageOf_wf (bytes : List Byte) : (imageOf bytes).wf = true := by
  apply imageFrom_wfFrom
  simp only [List.length_take, Config.imageSize]
  omega

/-- A CRC placed in an image (R200) keeps its canonical form. -/
theorem Image.sealed_wf {m : Image} (h : m.wf = true) : m.sealed.wf = true :=
  Image.write_wf (Image.write_wf h (by omega) _) (by omega) _

/-- No image is held after reset (R202). -/
theorem reset_images : State.reset.store.inForce = none ∧ State.reset.store.staging = none := ⟨rfl, rfl⟩

/-! ### Reads and writes -/

/-- Below its first address an image in canonical form holds 00H. -/
theorem Image.read_below : ∀ (m : Image) (lo k : Nat), m.wfFrom lo = true → k < lo → m.read k = 0
  | [], _, _, _, _ => rfl
  | (a, b) :: m, lo, k, h, hk => by
      have h' := (Image.wfFrom_cons lo a b m).1 h
      have h1 : ¬ k = a := by omega
      have h2 : k < a := by omega
      simp [Image.read, h1, h2]

theorem Image.read_write_from (k : Nat) (v : Byte) (j : Nat) :
    ∀ (m : Image) (lo : Nat), m.wfFrom lo = true → (m.write k v).read j = if j = k then v else m.read j
  | [], lo, _ => by
      by_cases hv : v = 0#8
      · by_cases hj : j = k <;> simp [Image.write, Image.read, hv, hj]
      · by_cases hj : j = k
        · simp [Image.write, Image.read, hv, hj]
        · by_cases hl : j < k <;> simp [Image.write, Image.read, hv, hj, hl]
  | (a, b) :: m, lo, hm => by
      have h := (Image.wfFrom_cons lo a b m).1 hm
      unfold Image.write
      by_cases hka : k < a
      · rw [if_pos hka]
        by_cases hv : v = 0#8
        · rw [if_pos (show v = 0 from hv)]
          by_cases hj : j = k
          · subst hj
            have h1 : ¬ j = a := by omega
            simp [Image.read, h1, hka, hv]
          · simp [hj]
        · rw [if_neg (show ¬ v = 0 from hv)]
          by_cases hj : j = k
          · simp [Image.read, hj]
          · by_cases hl : j < k
            · have h1 : ¬ j = a := by omega
              have h2 : j < a := by omega
              simp [Image.read, hj, hl, h1, h2]
            · simp [Image.read, hj, hl]
      · rw [if_neg hka]
        by_cases he : k = a
        · subst he
          rw [if_pos rfl]
          by_cases hv : v = 0#8
          · rw [if_pos (show v = 0 from hv)]
            by_cases hj : j = k
            · subst hj
              simp [hv, Image.read_below m (j + 1) j h.2.2.2 (Nat.lt_succ_self j)]
            · by_cases hl : j < k
              · simp [Image.read, hj, hl, Image.read_below m (k + 1) j h.2.2.2 (by omega)]
              · simp [Image.read, hj, hl]
          · rw [if_neg (show ¬ v = 0 from hv)]
            by_cases hj : j = k <;> simp [Image.read, hj]
        · rw [if_neg he]
          have ih := Image.read_write_from k v j m (a + 1) h.2.2.2
          by_cases hj : j = a
          · have : ¬ j = k := by omega
            have hne : ¬ a = k := by omega
            simp [Image.read, hj, hne]
          · by_cases hl : j < a
            · have : ¬ j = k := by omega
              simp [Image.read, hj, hl, this]
            · simp only [Image.read, hj, hl, if_false, ih]

/-- A read after a write to the same byte gives the value written. -/
theorem Image.read_write_self {m : Image} (h : m.wf = true) (k : Nat) (v : Byte) : (m.write k v).read k = v := by
  rw [Image.read_write_from k v k m 0 h, if_pos rfl]

/-- A write leaves every other byte alone. -/
theorem Image.read_write_of_ne {m : Image} (h : m.wf = true) {j k : Nat} (hj : j ≠ k) (v : Byte) :
    (m.write k v).read j = m.read j := by
  rw [Image.read_write_from k v j m 0 h, if_neg hj]

/-- Writing a run of bytes leaves every byte outside the run alone. -/
theorem Image.read_writeAll_outside : ∀ (bytes : List Byte) (m : Image) (k j : Nat), m.wf = true →
    k + bytes.length ≤ 4096 → (j < k ∨ k + bytes.length ≤ j) → (m.writeAll k bytes).read j = m.read j
  | [], _, _, _, _, _, _ => rfl
  | b :: bytes, m, k, j, h, hk, hj => by
      simp only [List.length_cons] at hk hj
      have step := Image.read_writeAll_outside bytes (m.write k b) (k + 1) j (Image.write_wf h (by omega) b)
        (by omega) (by omega)
      simpa [Image.writeAll, Image.read_write_of_ne h (show j ≠ k by omega) b] using step

/-- Placing the CRC leaves every byte below it alone. -/
theorem Image.read_sealed {m : Image} (h : m.wf = true) {j : Nat} (hj : j < 4094) : m.sealed.read j = m.read j := by
  unfold Image.sealed
  rw [Image.read_write_of_ne (Image.write_wf h (by omega) _) (by omega), Image.read_write_of_ne h (by omega)]

/-! ### Images as bytes -/

/-- Above an entry's address an image reads as its rest. -/
theorem Image.readAll_cons (a : Nat) (b : Byte) (m : Image) : ∀ (n k : Nat), a < k →
    Image.readAll ((a, b) :: m) k n = m.readAll k n
  | 0, _, _ => rfl
  | n + 1, k, h => by
      simp only [Image.readAll, Image.read]
      rw [if_neg (by omega), if_neg (by omega), Image.readAll_cons a b m n (k + 1) (by omega)]

/-- The bytes of a canonical image are what reading it one byte after another gives. -/
theorem Image.dense_eq_readAll : ∀ (n k : Nat) (m : Image), m.wfFrom k = true → m.dense k n = m.readAll k n
  | 0, _, _, _ => rfl
  | n + 1, k, [], _ => by
      simp only [Image.dense, Image.readAll, Image.read, List.cons.injEq, true_and]
      exact Image.dense_eq_readAll n (k + 1) [] rfl
  | n + 1, k, (a, b) :: m, h => by
      have h' := (Image.wfFrom_cons k a b m).1 h
      simp only [Image.dense, Image.readAll, Image.read]
      by_cases ha : a = k
      · subst ha
        rw [if_pos rfl, if_pos rfl, Image.dense_eq_readAll n (a + 1) m h'.2.2.2,
          Image.readAll_cons a b m n (a + 1) (by omega)]
      · rw [if_neg ha, if_neg (by omega), if_pos (by omega), Image.dense_eq_readAll n (k + 1) ((a, b) :: m)
          ((Image.wfFrom_cons (k + 1) a b m).2 ⟨by omega, h'.2.1, h'.2.2.1, h'.2.2.2⟩)]

/-- A canonical image is the image of its own bytes. -/
theorem imageFrom_dense : ∀ (n k : Nat) (m : Image), m.wfFrom k = true → k + n = 4096 →
    imageFrom k (m.dense k n) = m
  | 0, k, [], _, _ => rfl
  | 0, k, (a, b) :: m, h, hk => by
      have h' := (Image.wfFrom_cons k a b m).1 h
      omega
  | n + 1, k, [], _, hk => by
      simp only [Image.dense, imageFrom, if_true]
      exact imageFrom_dense n (k + 1) [] rfl (by omega)
  | n + 1, k, (a, b) :: m, h, hk => by
      have h' := (Image.wfFrom_cons k a b m).1 h
      by_cases ha : a = k
      · subst ha
        simp only [Image.dense, if_true, imageFrom, h'.2.2.1, if_false,
          imageFrom_dense n (a + 1) m h'.2.2.2 (by omega)]
      · simp only [Image.dense, ha, imageFrom, if_true, if_false]
        exact imageFrom_dense n (k + 1) ((a, b) :: m)
          ((Image.wfFrom_cons (k + 1) a b m).2 ⟨by omega, h'.2.1, h'.2.2.1, h'.2.2.2⟩) (by omega)

theorem Image.dense_length : ∀ (n k : Nat) (m : Image), (m.dense k n).length = n
  | 0, _, _ => rfl
  | n + 1, k, [] => by simp [Image.dense, Image.dense_length n]
  | n + 1, k, (a, b) :: m => by
      simp only [Image.dense]
      split <;> simp [Image.dense_length n]

/-- R192: reading back what was written gives the image written. -/
theorem imageOf_dense {m : Image} (h : m.wf = true) : imageOf (m.dense 0 4096) = m := by
  unfold imageOf
  rw [List.take_of_length_le (by rw [Image.dense_length]; exact Nat.le_refl _)]
  exact imageFrom_dense 4096 0 m h rfl

/-- R193 stage 4: a sealed image passes its CRC. -/
theorem Image.sealed_crcHolds {m : Image} (h : m.wf = true) : m.sealed.crcHolds = true := by
  have hcrc : m.sealed.crc = m.crc := by
    unfold Image.crc
    rw [Image.dense_eq_readAll _ _ _ (Image.sealed_wf h), Image.dense_eq_readAll _ _ _ h]
    have : ∀ n k, k + n ≤ 4094 → m.sealed.readAll k n = m.readAll k n := by
      intro n
      induction n with
      | zero => intro k _; rfl
      | succ n ih =>
          intro k hk
          simp only [Image.readAll]
          rw [ih (k + 1) (by omega), Image.read_sealed h (by omega)]
    rw [this _ _ (by decide)]
  unfold Image.crcHolds
  rw [hcrc, beq_iff_eq]
  unfold Image.sealed
  have hw := Image.write_wf h (k := 4094) (by omega) (m.crc.extractLsb' 8 8)
  rw [Image.read_write_of_ne hw (by omega), Image.read_write_self h, Image.read_write_self hw]
  generalize m.crc = c
  rw [BitVec.extractLsb'_append_extractLsb'_eq_extractLsb' (by decide)]
  simp

/-- R193 stage 5: an image whose every field is in range is not changed by the clamping. -/
theorem Image.clamped_of_inRange {m : Image}
    (h : ∀ r ∈ regions, (numericFields (m.region r) r).all (fun f => f.inRange (m.region r)) = true) :
    m.clamped = m := by
  have inner : ∀ (rd : Reader) (k : Nat) (l : List Field) (acc : Image), l.all (fun f => f.inRange rd) = true →
      l.foldl (fun acc f => if f.inRange rd then acc else acc.writeAll (k + f.offset) (f.clamped rd)) acc = acc := by
    intro rd k l
    induction l with
    | nil => intro acc _; rfl
    | cons f l ih =>
        intro acc hl
        simp only [List.all_cons, Bool.and_eq_true] at hl
        rw [List.foldl_cons, if_pos hl.1]
        exact ih acc hl.2
  have outer : ∀ (l : List Nat), (∀ r ∈ l, r ∈ regions) →
      l.foldl (fun m r => (numericFields (m.region r) r).foldl (fun acc f =>
        if f.inRange (m.region r) then acc else acc.writeAll (m.offset r + f.offset) (f.clamped (m.region r))) m) m
        = m := by
    intro l
    induction l with
    | nil => intro _; rfl
    | cons r l ih =>
        intro hl
        rw [List.foldl_cons, inner _ _ _ _ (h r (hl r (List.mem_cons_self ..)))]
        exact ih (fun x hx => hl x (List.mem_cons_of_mem _ hx))
  exact outer regions (fun _ hr => hr)

end Sys2Proof.Machine
end

