-- ==== Sys2Proof/Laws/State.lean ====
section
/-! SUPPORT. Laws/State.lean: what each named update of the state does to each field, true by unfolding, so that no
later proof unfolds a record update; and what the tables by name answer after a write. -/

namespace Sys2Proof.Machine

open Sys2Proof

/-! ### The whole-block updates -/

@[simp] theorem State.upTo_clock (s : State) (t : Nat) : (s.upTo t).clock = max s.clock t := rfl
@[simp] theorem State.upTo_pending (s : State) (t : Nat) : (s.upTo t).pending = s.pending := rfl
@[simp] theorem State.upTo_pins (s : State) (t : Nat) : (s.upTo t).pins = s.pins := rfl
@[simp] theorem State.upTo_sense (s : State) (t : Nat) : (s.upTo t).sense = s.sense := rfl
@[simp] theorem State.upTo_motion (s : State) (t : Nat) : (s.upTo t).motion = s.motion := rfl
@[simp] theorem State.upTo_drive (s : State) (t : Nat) : (s.upTo t).drive = s.drive := rfl
@[simp] theorem State.upTo_beacon (s : State) (t : Nat) : (s.upTo t).beacon = s.beacon := rfl
@[simp] theorem State.upTo_crew (s : State) (t : Nat) : (s.upTo t).crew = s.crew := rfl
@[simp] theorem State.upTo_link (s : State) (t : Nat) : (s.upTo t).link = s.link := rfl
@[simp] theorem State.upTo_store (s : State) (t : Nat) : (s.upTo t).store = s.store := rfl
@[simp] theorem State.upTo_profile (s : State) (t : Nat) : (s.upTo t).profile = s.profile := rfl

@[simp] theorem State.idle_clock (s : State) : (s.idle).clock = s.clock + 1 := rfl
@[simp] theorem State.idle_pending (s : State) : (s.idle).pending = s.pending := rfl
@[simp] theorem State.idle_pins (s : State) : (s.idle).pins = s.pins := rfl
@[simp] theorem State.idle_sense (s : State) : (s.idle).sense = s.sense := rfl
@[simp] theorem State.idle_motion (s : State) : (s.idle).motion = s.motion := rfl
@[simp] theorem State.idle_drive (s : State) : (s.idle).drive = s.drive := rfl
@[simp] theorem State.idle_beacon (s : State) : (s.idle).beacon = s.beacon := rfl
@[simp] theorem State.idle_crew (s : State) : (s.idle).crew = s.crew := rfl
@[simp] theorem State.idle_link (s : State) : (s.idle).link = s.link := rfl
@[simp] theorem State.idle_store (s : State) : (s.idle).store = s.store := rfl
@[simp] theorem State.idle_profile (s : State) : (s.idle).profile = s.profile := rfl

@[simp] theorem State.onPins_clock (s : State) (f : Pins → Pins) : (s.onPins f).clock = s.clock := rfl
@[simp] theorem State.onPins_pending (s : State) (f : Pins → Pins) : (s.onPins f).pending = s.pending := rfl
@[simp] theorem State.onPins_pins (s : State) (f : Pins → Pins) : (s.onPins f).pins = f s.pins := rfl
@[simp] theorem State.onPins_sense (s : State) (f : Pins → Pins) : (s.onPins f).sense = s.sense := rfl
@[simp] theorem State.onPins_motion (s : State) (f : Pins → Pins) : (s.onPins f).motion = s.motion := rfl
@[simp] theorem State.onPins_drive (s : State) (f : Pins → Pins) : (s.onPins f).drive = s.drive := rfl
@[simp] theorem State.onPins_beacon (s : State) (f : Pins → Pins) : (s.onPins f).beacon = s.beacon := rfl
@[simp] theorem State.onPins_crew (s : State) (f : Pins → Pins) : (s.onPins f).crew = s.crew := rfl
@[simp] theorem State.onPins_link (s : State) (f : Pins → Pins) : (s.onPins f).link = s.link := rfl
@[simp] theorem State.onPins_store (s : State) (f : Pins → Pins) : (s.onPins f).store = s.store := rfl
@[simp] theorem State.onPins_profile (s : State) (f : Pins → Pins) : (s.onPins f).profile = s.profile := rfl

@[simp] theorem State.onMotion_clock (s : State) (f : Motion → Motion) : (s.onMotion f).clock = s.clock := rfl
@[simp] theorem State.onMotion_pending (s : State) (f : Motion → Motion) : (s.onMotion f).pending = s.pending := rfl
@[simp] theorem State.onMotion_pins (s : State) (f : Motion → Motion) : (s.onMotion f).pins = s.pins := rfl
@[simp] theorem State.onMotion_sense (s : State) (f : Motion → Motion) : (s.onMotion f).sense = s.sense := rfl
@[simp] theorem State.onMotion_motion (s : State) (f : Motion → Motion) : (s.onMotion f).motion = f s.motion := rfl
@[simp] theorem State.onMotion_drive (s : State) (f : Motion → Motion) : (s.onMotion f).drive = s.drive := rfl
@[simp] theorem State.onMotion_beacon (s : State) (f : Motion → Motion) : (s.onMotion f).beacon = s.beacon := rfl
@[simp] theorem State.onMotion_crew (s : State) (f : Motion → Motion) : (s.onMotion f).crew = s.crew := rfl
@[simp] theorem State.onMotion_link (s : State) (f : Motion → Motion) : (s.onMotion f).link = s.link := rfl
@[simp] theorem State.onMotion_store (s : State) (f : Motion → Motion) : (s.onMotion f).store = s.store := rfl
@[simp] theorem State.onMotion_profile (s : State) (f : Motion → Motion) : (s.onMotion f).profile = s.profile := rfl

@[simp] theorem State.onDrive_clock (s : State) (f : Drive → Drive) : (s.onDrive f).clock = s.clock := rfl
@[simp] theorem State.onDrive_pending (s : State) (f : Drive → Drive) : (s.onDrive f).pending = s.pending := rfl
@[simp] theorem State.onDrive_pins (s : State) (f : Drive → Drive) : (s.onDrive f).pins = s.pins := rfl
@[simp] theorem State.onDrive_sense (s : State) (f : Drive → Drive) : (s.onDrive f).sense = s.sense := rfl
@[simp] theorem State.onDrive_motion (s : State) (f : Drive → Drive) : (s.onDrive f).motion = s.motion := rfl
@[simp] theorem State.onDrive_drive (s : State) (f : Drive → Drive) : (s.onDrive f).drive = f s.drive := rfl
@[simp] theorem State.onDrive_beacon (s : State) (f : Drive → Drive) : (s.onDrive f).beacon = s.beacon := rfl
@[simp] theorem State.onDrive_crew (s : State) (f : Drive → Drive) : (s.onDrive f).crew = s.crew := rfl
@[simp] theorem State.onDrive_link (s : State) (f : Drive → Drive) : (s.onDrive f).link = s.link := rfl
@[simp] theorem State.onDrive_store (s : State) (f : Drive → Drive) : (s.onDrive f).store = s.store := rfl
@[simp] theorem State.onDrive_profile (s : State) (f : Drive → Drive) : (s.onDrive f).profile = s.profile := rfl

@[simp] theorem State.onBeacon_clock (s : State) (f : Beacons → Beacons) : (s.onBeacon f).clock = s.clock := rfl
@[simp] theorem State.onBeacon_pending (s : State) (f : Beacons → Beacons) : (s.onBeacon f).pending = s.pending := rfl
@[simp] theorem State.onBeacon_pins (s : State) (f : Beacons → Beacons) : (s.onBeacon f).pins = s.pins := rfl
@[simp] theorem State.onBeacon_sense (s : State) (f : Beacons → Beacons) : (s.onBeacon f).sense = s.sense := rfl
@[simp] theorem State.onBeacon_motion (s : State) (f : Beacons → Beacons) : (s.onBeacon f).motion = s.motion := rfl
@[simp] theorem State.onBeacon_drive (s : State) (f : Beacons → Beacons) : (s.onBeacon f).drive = s.drive := rfl
@[simp] theorem State.onBeacon_beacon (s : State) (f : Beacons → Beacons) : (s.onBeacon f).beacon = f s.beacon := rfl
@[simp] theorem State.onBeacon_crew (s : State) (f : Beacons → Beacons) : (s.onBeacon f).crew = s.crew := rfl
@[simp] theorem State.onBeacon_link (s : State) (f : Beacons → Beacons) : (s.onBeacon f).link = s.link := rfl
@[simp] theorem State.onBeacon_store (s : State) (f : Beacons → Beacons) : (s.onBeacon f).store = s.store := rfl
@[simp] theorem State.onBeacon_profile (s : State) (f : Beacons → Beacons) : (s.onBeacon f).profile = s.profile := rfl

@[simp] theorem State.onCrew_clock (s : State) (f : Crew → Crew) : (s.onCrew f).clock = s.clock := rfl
@[simp] theorem State.onCrew_pending (s : State) (f : Crew → Crew) : (s.onCrew f).pending = s.pending := rfl
@[simp] theorem State.onCrew_pins (s : State) (f : Crew → Crew) : (s.onCrew f).pins = s.pins := rfl
@[simp] theorem State.onCrew_sense (s : State) (f : Crew → Crew) : (s.onCrew f).sense = s.sense := rfl
@[simp] theorem State.onCrew_motion (s : State) (f : Crew → Crew) : (s.onCrew f).motion = s.motion := rfl
@[simp] theorem State.onCrew_drive (s : State) (f : Crew → Crew) : (s.onCrew f).drive = s.drive := rfl
@[simp] theorem State.onCrew_beacon (s : State) (f : Crew → Crew) : (s.onCrew f).beacon = s.beacon := rfl
@[simp] theorem State.onCrew_crew (s : State) (f : Crew → Crew) : (s.onCrew f).crew = f s.crew := rfl
@[simp] theorem State.onCrew_link (s : State) (f : Crew → Crew) : (s.onCrew f).link = s.link := rfl
@[simp] theorem State.onCrew_store (s : State) (f : Crew → Crew) : (s.onCrew f).store = s.store := rfl
@[simp] theorem State.onCrew_profile (s : State) (f : Crew → Crew) : (s.onCrew f).profile = s.profile := rfl

@[simp] theorem State.onLink_clock (s : State) (f : Link → Link) : (s.onLink f).clock = s.clock := rfl
@[simp] theorem State.onLink_pending (s : State) (f : Link → Link) : (s.onLink f).pending = s.pending := rfl
@[simp] theorem State.onLink_pins (s : State) (f : Link → Link) : (s.onLink f).pins = s.pins := rfl
@[simp] theorem State.onLink_sense (s : State) (f : Link → Link) : (s.onLink f).sense = s.sense := rfl
@[simp] theorem State.onLink_motion (s : State) (f : Link → Link) : (s.onLink f).motion = s.motion := rfl
@[simp] theorem State.onLink_drive (s : State) (f : Link → Link) : (s.onLink f).drive = s.drive := rfl
@[simp] theorem State.onLink_beacon (s : State) (f : Link → Link) : (s.onLink f).beacon = s.beacon := rfl
@[simp] theorem State.onLink_crew (s : State) (f : Link → Link) : (s.onLink f).crew = s.crew := rfl
@[simp] theorem State.onLink_link (s : State) (f : Link → Link) : (s.onLink f).link = f s.link := rfl
@[simp] theorem State.onLink_store (s : State) (f : Link → Link) : (s.onLink f).store = s.store := rfl
@[simp] theorem State.onLink_profile (s : State) (f : Link → Link) : (s.onLink f).profile = s.profile := rfl

@[simp] theorem State.onStore_clock (s : State) (f : Store → Store) : (s.onStore f).clock = s.clock := rfl
@[simp] theorem State.onStore_pending (s : State) (f : Store → Store) : (s.onStore f).pending = s.pending := rfl
@[simp] theorem State.onStore_pins (s : State) (f : Store → Store) : (s.onStore f).pins = s.pins := rfl
@[simp] theorem State.onStore_sense (s : State) (f : Store → Store) : (s.onStore f).sense = s.sense := rfl
@[simp] theorem State.onStore_motion (s : State) (f : Store → Store) : (s.onStore f).motion = s.motion := rfl
@[simp] theorem State.onStore_drive (s : State) (f : Store → Store) : (s.onStore f).drive = s.drive := rfl
@[simp] theorem State.onStore_beacon (s : State) (f : Store → Store) : (s.onStore f).beacon = s.beacon := rfl
@[simp] theorem State.onStore_crew (s : State) (f : Store → Store) : (s.onStore f).crew = s.crew := rfl
@[simp] theorem State.onStore_link (s : State) (f : Store → Store) : (s.onStore f).link = s.link := rfl
@[simp] theorem State.onStore_store (s : State) (f : Store → Store) : (s.onStore f).store = f s.store := rfl
@[simp] theorem State.onStore_profile (s : State) (f : Store → Store) : (s.onStore f).profile = s.profile := rfl

/-! ### The updates of one entry -/

@[simp] theorem State.onChannel_clock (s : State) (c : Channel) (f : SenseChannel → SenseChannel) : (s.onChannel c f).clock = s.clock := rfl
@[simp] theorem State.onChannel_pending (s : State) (c : Channel) (f : SenseChannel → SenseChannel) : (s.onChannel c f).pending = s.pending := rfl
@[simp] theorem State.onChannel_pins (s : State) (c : Channel) (f : SenseChannel → SenseChannel) : (s.onChannel c f).pins = s.pins := rfl
@[simp] theorem State.onChannel_sense (s : State) (c : Channel) (f : SenseChannel → SenseChannel) : (s.onChannel c f).sense = s.sense.set c (f (s.sense.get c)) := rfl
@[simp] theorem State.onChannel_motion (s : State) (c : Channel) (f : SenseChannel → SenseChannel) : (s.onChannel c f).motion = s.motion := rfl
@[simp] theorem State.onChannel_drive (s : State) (c : Channel) (f : SenseChannel → SenseChannel) : (s.onChannel c f).drive = s.drive := rfl
@[simp] theorem State.onChannel_beacon (s : State) (c : Channel) (f : SenseChannel → SenseChannel) : (s.onChannel c f).beacon = s.beacon := rfl
@[simp] theorem State.onChannel_crew (s : State) (c : Channel) (f : SenseChannel → SenseChannel) : (s.onChannel c f).crew = s.crew := rfl
@[simp] theorem State.onChannel_link (s : State) (c : Channel) (f : SenseChannel → SenseChannel) : (s.onChannel c f).link = s.link := rfl
@[simp] theorem State.onChannel_store (s : State) (c : Channel) (f : SenseChannel → SenseChannel) : (s.onChannel c f).store = s.store := rfl
@[simp] theorem State.onChannel_profile (s : State) (c : Channel) (f : SenseChannel → SenseChannel) : (s.onChannel c f).profile = s.profile := rfl

@[simp] theorem State.onAxis_clock (s : State) (a : Axis) (f : AxisRecord → AxisRecord) : (s.onAxis a f).clock = s.clock := rfl
@[simp] theorem State.onAxis_pending (s : State) (a : Axis) (f : AxisRecord → AxisRecord) : (s.onAxis a f).pending = s.pending := rfl
@[simp] theorem State.onAxis_pins (s : State) (a : Axis) (f : AxisRecord → AxisRecord) : (s.onAxis a f).pins = s.pins := rfl
@[simp] theorem State.onAxis_sense (s : State) (a : Axis) (f : AxisRecord → AxisRecord) : (s.onAxis a f).sense = s.sense := rfl
@[simp] theorem State.onAxis_motion (s : State) (a : Axis) (f : AxisRecord → AxisRecord) : (s.onAxis a f).motion = { s.motion with axis := s.motion.axis.set a (f (s.motion.axis.get a)) } := rfl
@[simp] theorem State.onAxis_drive (s : State) (a : Axis) (f : AxisRecord → AxisRecord) : (s.onAxis a f).drive = s.drive := rfl
@[simp] theorem State.onAxis_beacon (s : State) (a : Axis) (f : AxisRecord → AxisRecord) : (s.onAxis a f).beacon = s.beacon := rfl
@[simp] theorem State.onAxis_crew (s : State) (a : Axis) (f : AxisRecord → AxisRecord) : (s.onAxis a f).crew = s.crew := rfl
@[simp] theorem State.onAxis_link (s : State) (a : Axis) (f : AxisRecord → AxisRecord) : (s.onAxis a f).link = s.link := rfl
@[simp] theorem State.onAxis_store (s : State) (a : Axis) (f : AxisRecord → AxisRecord) : (s.onAxis a f).store = s.store := rfl
@[simp] theorem State.onAxis_profile (s : State) (a : Axis) (f : AxisRecord → AxisRecord) : (s.onAxis a f).profile = s.profile := rfl

@[simp] theorem State.onOut_clock (s : State) (o : DriveOut) (f : DriveRecord → DriveRecord) : (s.onOut o f).clock = s.clock := rfl
@[simp] theorem State.onOut_pending (s : State) (o : DriveOut) (f : DriveRecord → DriveRecord) : (s.onOut o f).pending = s.pending := rfl
@[simp] theorem State.onOut_pins (s : State) (o : DriveOut) (f : DriveRecord → DriveRecord) : (s.onOut o f).pins = s.pins := rfl
@[simp] theorem State.onOut_sense (s : State) (o : DriveOut) (f : DriveRecord → DriveRecord) : (s.onOut o f).sense = s.sense := rfl
@[simp] theorem State.onOut_motion (s : State) (o : DriveOut) (f : DriveRecord → DriveRecord) : (s.onOut o f).motion = s.motion := rfl
@[simp] theorem State.onOut_drive (s : State) (o : DriveOut) (f : DriveRecord → DriveRecord) : (s.onOut o f).drive = { s.drive with out := s.drive.out.set o (f (s.drive.out.get o)) } := rfl
@[simp] theorem State.onOut_beacon (s : State) (o : DriveOut) (f : DriveRecord → DriveRecord) : (s.onOut o f).beacon = s.beacon := rfl
@[simp] theorem State.onOut_crew (s : State) (o : DriveOut) (f : DriveRecord → DriveRecord) : (s.onOut o f).crew = s.crew := rfl
@[simp] theorem State.onOut_link (s : State) (o : DriveOut) (f : DriveRecord → DriveRecord) : (s.onOut o f).link = s.link := rfl
@[simp] theorem State.onOut_store (s : State) (o : DriveOut) (f : DriveRecord → DriveRecord) : (s.onOut o f).store = s.store := rfl
@[simp] theorem State.onOut_profile (s : State) (o : DriveOut) (f : DriveRecord → DriveRecord) : (s.onOut o f).profile = s.profile := rfl

@[simp] theorem State.onLampOut_clock (s : State) (l : Lamp) (f : LampRecord → LampRecord) : (s.onLampOut l f).clock = s.clock := rfl
@[simp] theorem State.onLampOut_pending (s : State) (l : Lamp) (f : LampRecord → LampRecord) : (s.onLampOut l f).pending = s.pending := rfl
@[simp] theorem State.onLampOut_pins (s : State) (l : Lamp) (f : LampRecord → LampRecord) : (s.onLampOut l f).pins = s.pins := rfl
@[simp] theorem State.onLampOut_sense (s : State) (l : Lamp) (f : LampRecord → LampRecord) : (s.onLampOut l f).sense = s.sense := rfl
@[simp] theorem State.onLampOut_motion (s : State) (l : Lamp) (f : LampRecord → LampRecord) : (s.onLampOut l f).motion = s.motion := rfl
@[simp] theorem State.onLampOut_drive (s : State) (l : Lamp) (f : LampRecord → LampRecord) : (s.onLampOut l f).drive = { s.drive with lamp := s.drive.lamp.set l (f (s.drive.lamp.get l)) } := rfl
@[simp] theorem State.onLampOut_beacon (s : State) (l : Lamp) (f : LampRecord → LampRecord) : (s.onLampOut l f).beacon = s.beacon := rfl
@[simp] theorem State.onLampOut_crew (s : State) (l : Lamp) (f : LampRecord → LampRecord) : (s.onLampOut l f).crew = s.crew := rfl
@[simp] theorem State.onLampOut_link (s : State) (l : Lamp) (f : LampRecord → LampRecord) : (s.onLampOut l f).link = s.link := rfl
@[simp] theorem State.onLampOut_store (s : State) (l : Lamp) (f : LampRecord → LampRecord) : (s.onLampOut l f).store = s.store := rfl
@[simp] theorem State.onLampOut_profile (s : State) (l : Lamp) (f : LampRecord → LampRecord) : (s.onLampOut l f).profile = s.profile := rfl

@[simp] theorem State.onLamp_clock (s : State) (l : Lamp) (f : Beacon → Beacon) : (s.onLamp l f).clock = s.clock := rfl
@[simp] theorem State.onLamp_pending (s : State) (l : Lamp) (f : Beacon → Beacon) : (s.onLamp l f).pending = s.pending := rfl
@[simp] theorem State.onLamp_pins (s : State) (l : Lamp) (f : Beacon → Beacon) : (s.onLamp l f).pins = s.pins := rfl
@[simp] theorem State.onLamp_sense (s : State) (l : Lamp) (f : Beacon → Beacon) : (s.onLamp l f).sense = s.sense := rfl
@[simp] theorem State.onLamp_motion (s : State) (l : Lamp) (f : Beacon → Beacon) : (s.onLamp l f).motion = s.motion := rfl
@[simp] theorem State.onLamp_drive (s : State) (l : Lamp) (f : Beacon → Beacon) : (s.onLamp l f).drive = s.drive := rfl
@[simp] theorem State.onLamp_beacon (s : State) (l : Lamp) (f : Beacon → Beacon) : (s.onLamp l f).beacon = { s.beacon with channel := s.beacon.channel.set l (f (s.beacon.channel.get l)) } := rfl
@[simp] theorem State.onLamp_crew (s : State) (l : Lamp) (f : Beacon → Beacon) : (s.onLamp l f).crew = s.crew := rfl
@[simp] theorem State.onLamp_link (s : State) (l : Lamp) (f : Beacon → Beacon) : (s.onLamp l f).link = s.link := rfl
@[simp] theorem State.onLamp_store (s : State) (l : Lamp) (f : Beacon → Beacon) : (s.onLamp l f).store = s.store := rfl
@[simp] theorem State.onLamp_profile (s : State) (l : Lamp) (f : Beacon → Beacon) : (s.onLamp l f).profile = s.profile := rfl

@[simp] theorem State.onStation_clock (s : State) (n : Nat) (f : StationRecord → StationRecord) : (s.onStation n f).clock = s.clock := rfl
@[simp] theorem State.onStation_pending (s : State) (n : Nat) (f : StationRecord → StationRecord) : (s.onStation n f).pending = s.pending := rfl
@[simp] theorem State.onStation_pins (s : State) (n : Nat) (f : StationRecord → StationRecord) : (s.onStation n f).pins = s.pins := rfl
@[simp] theorem State.onStation_sense (s : State) (n : Nat) (f : StationRecord → StationRecord) : (s.onStation n f).sense = s.sense := rfl
@[simp] theorem State.onStation_motion (s : State) (n : Nat) (f : StationRecord → StationRecord) : (s.onStation n f).motion = s.motion := rfl
@[simp] theorem State.onStation_drive (s : State) (n : Nat) (f : StationRecord → StationRecord) : (s.onStation n f).drive = s.drive := rfl
@[simp] theorem State.onStation_beacon (s : State) (n : Nat) (f : StationRecord → StationRecord) : (s.onStation n f).beacon = s.beacon := rfl
@[simp] theorem State.onStation_crew (s : State) (n : Nat) (f : StationRecord → StationRecord) : (s.onStation n f).crew = { s.crew with stations := s.crew.stations.map (fun st => if st.address = n then f st else st) } := rfl
@[simp] theorem State.onStation_link (s : State) (n : Nat) (f : StationRecord → StationRecord) : (s.onStation n f).link = s.link := rfl
@[simp] theorem State.onStation_store (s : State) (n : Nat) (f : StationRecord → StationRecord) : (s.onStation n f).store = s.store := rfl
@[simp] theorem State.onStation_profile (s : State) (n : Nat) (f : StationRecord → StationRecord) : (s.onStation n f).profile = s.profile := rfl

@[simp] theorem State.onRecord_clock (s : State) (t : Nat) (f : Record → Record) : (s.onRecord t f).clock = s.clock := rfl
@[simp] theorem State.onRecord_pending (s : State) (t : Nat) (f : Record → Record) : (s.onRecord t f).pending = s.pending := rfl
@[simp] theorem State.onRecord_pins (s : State) (t : Nat) (f : Record → Record) : (s.onRecord t f).pins = s.pins := rfl
@[simp] theorem State.onRecord_sense (s : State) (t : Nat) (f : Record → Record) : (s.onRecord t f).sense = s.sense := rfl
@[simp] theorem State.onRecord_motion (s : State) (t : Nat) (f : Record → Record) : (s.onRecord t f).motion = { s.motion with records := s.motion.records.map (fun r => if r.tag = t then f r else r) } := rfl
@[simp] theorem State.onRecord_drive (s : State) (t : Nat) (f : Record → Record) : (s.onRecord t f).drive = s.drive := rfl
@[simp] theorem State.onRecord_beacon (s : State) (t : Nat) (f : Record → Record) : (s.onRecord t f).beacon = s.beacon := rfl
@[simp] theorem State.onRecord_crew (s : State) (t : Nat) (f : Record → Record) : (s.onRecord t f).crew = s.crew := rfl
@[simp] theorem State.onRecord_link (s : State) (t : Nat) (f : Record → Record) : (s.onRecord t f).link = s.link := rfl
@[simp] theorem State.onRecord_store (s : State) (t : Nat) (f : Record → Record) : (s.onRecord t f).store = s.store := rfl
@[simp] theorem State.onRecord_profile (s : State) (t : Nat) (f : Record → Record) : (s.onRecord t f).profile = s.profile := rfl

@[simp] theorem State.oweAttempt_clock (s : State) : (s.oweAttempt).clock = s.clock := rfl
@[simp] theorem State.oweAttempt_pending (s : State) : (s.oweAttempt).pending = s.pending := rfl
@[simp] theorem State.oweAttempt_pins (s : State) : (s.oweAttempt).pins = s.pins := rfl
@[simp] theorem State.oweAttempt_sense (s : State) : (s.oweAttempt).sense = s.sense := rfl
@[simp] theorem State.oweAttempt_motion (s : State) : (s.oweAttempt).motion = { s.motion with attemptsDue := s.motion.attemptsDue + 1 } := rfl
@[simp] theorem State.oweAttempt_drive (s : State) : (s.oweAttempt).drive = s.drive := rfl
@[simp] theorem State.oweAttempt_beacon (s : State) : (s.oweAttempt).beacon = s.beacon := rfl
@[simp] theorem State.oweAttempt_crew (s : State) : (s.oweAttempt).crew = s.crew := rfl
@[simp] theorem State.oweAttempt_link (s : State) : (s.oweAttempt).link = s.link := rfl
@[simp] theorem State.oweAttempt_store (s : State) : (s.oweAttempt).store = s.store := rfl
@[simp] theorem State.oweAttempt_profile (s : State) : (s.oweAttempt).profile = s.profile := rfl

@[simp] theorem State.asOneEvent_clock (f : State → State) (s : State) : (s.asOneEvent f).clock = (f s).clock := rfl
@[simp] theorem State.asOneEvent_pending (f : State → State) (s : State) : (s.asOneEvent f).pending = (f s).pending := rfl
@[simp] theorem State.asOneEvent_pins (f : State → State) (s : State) : (s.asOneEvent f).pins = (f s).pins := rfl
@[simp] theorem State.asOneEvent_sense (f : State → State) (s : State) : (s.asOneEvent f).sense = (f s).sense := rfl
@[simp] theorem State.asOneEvent_drive (f : State → State) (s : State) : (s.asOneEvent f).drive = (f s).drive := rfl
@[simp] theorem State.asOneEvent_motion (f : State → State) (s : State) :
    (s.asOneEvent f).motion =
      { (f s).motion with attemptsDue := min (f s).motion.attemptsDue (s.motion.attemptsDue + 1) } := rfl
@[simp] theorem State.asOneEvent_beacon (f : State → State) (s : State) : (s.asOneEvent f).beacon = (f s).beacon := rfl
@[simp] theorem State.asOneEvent_crew (f : State → State) (s : State) : (s.asOneEvent f).crew = (f s).crew := rfl
@[simp] theorem State.asOneEvent_link (f : State → State) (s : State) : (s.asOneEvent f).link = (f s).link := rfl
@[simp] theorem State.asOneEvent_store (f : State → State) (s : State) : (s.asOneEvent f).store = (f s).store := rfl
@[simp] theorem State.asOneEvent_profile (f : State → State) (s : State) : (s.asOneEvent f).profile = (f s).profile := rfl

/-! ### The tables by name -/

@[simp] theorem PerAxis.get_ofFn {α : Type} (f : Axis → α) (a : Axis) : (PerAxis.ofFn f).get a = f a := by
  cases a <;> rfl

@[simp] theorem PerAxis.get_set_self {α : Type} (p : PerAxis α) (a : Axis) (x : α) : (p.set a x).get a = x := by
  cases a <;> rfl

theorem PerAxis.get_set {α : Type} (p : PerAxis α) (a a' : Axis) (x : α) :
    (p.set a x).get a' = if a' = a then x else p.get a' := by
  cases a <;> cases a' <;> rfl

@[simp] theorem PerAxis.get_set_of_ne {α : Type} (p : PerAxis α) (a a' : Axis) (x : α) (h : a' ≠ a) :
    (p.set a x).get a' = p.get a' := by
  rw [PerAxis.get_set, if_neg h]

@[simp] theorem PerDrive.get_ofFn {α : Type} (f : DriveOut → α) (o : DriveOut) : (PerDrive.ofFn f).get o = f o := by
  cases o <;> rfl

@[simp] theorem PerDrive.get_set_self {α : Type} (p : PerDrive α) (o : DriveOut) (x : α) : (p.set o x).get o = x := by
  cases o <;> rfl

theorem PerDrive.get_set {α : Type} (p : PerDrive α) (o o' : DriveOut) (x : α) :
    (p.set o x).get o' = if o' = o then x else p.get o' := by
  cases o <;> cases o' <;> rfl

@[simp] theorem PerDrive.get_set_of_ne {α : Type} (p : PerDrive α) (o o' : DriveOut) (x : α) (h : o' ≠ o) :
    (p.set o x).get o' = p.get o' := by
  rw [PerDrive.get_set, if_neg h]

@[simp] theorem PerLamp.get_ofFn {α : Type} (f : Lamp → α) (l : Lamp) : (PerLamp.ofFn f).get l = f l := by
  cases l <;> rfl

@[simp] theorem PerLamp.get_set_self {α : Type} (p : PerLamp α) (l : Lamp) (x : α) : (p.set l x).get l = x := by
  cases l <;> rfl

theorem PerLamp.get_set {α : Type} (p : PerLamp α) (l l' : Lamp) (x : α) :
    (p.set l x).get l' = if l' = l then x else p.get l' := by
  cases l <;> cases l' <;> rfl

@[simp] theorem PerLamp.get_set_of_ne {α : Type} (p : PerLamp α) (l l' : Lamp) (x : α) (h : l' ≠ l) :
    (p.set l x).get l' = p.get l' := by
  rw [PerLamp.get_set, if_neg h]

@[simp] theorem PerInput.get_ofFn {α : Type} (f : Input → α) (i : Input) : (PerInput.ofFn f).get i = f i := by
  cases i <;> rfl

@[simp] theorem PerInput.get_set_self {α : Type} (p : PerInput α) (i : Input) (x : α) : (p.set i x).get i = x := by
  cases i <;> rfl

theorem PerInput.get_set {α : Type} (p : PerInput α) (i i' : Input) (x : α) :
    (p.set i x).get i' = if i' = i then x else p.get i' := by
  cases i <;> cases i' <;> rfl

@[simp] theorem PerInput.get_set_of_ne {α : Type} (p : PerInput α) (i i' : Input) (x : α) (h : i' ≠ i) :
    (p.set i x).get i' = p.get i' := by
  rw [PerInput.get_set, if_neg h]

@[simp] theorem PerButton.get_ofFn {α : Type} (f : Button → α) (b : Button) : (PerButton.ofFn f).get b = f b := by
  cases b <;> rfl

@[simp] theorem PerButton.get_set_self {α : Type} (p : PerButton α) (b : Button) (x : α) : (p.set b x).get b = x := by
  cases b <;> rfl

theorem PerButton.get_set {α : Type} (p : PerButton α) (b b' : Button) (x : α) :
    (p.set b x).get b' = if b' = b then x else p.get b' := by
  cases b <;> cases b' <;> rfl

@[simp] theorem PerButton.get_set_of_ne {α : Type} (p : PerButton α) (b b' : Button) (x : α) (h : b' ≠ b) :
    (p.set b x).get b' = p.get b' := by
  rw [PerButton.get_set, if_neg h]

@[simp] theorem PerChannel.get_ofFn {α : Type} (f : Channel → α) (c : Channel) : (PerChannel.ofFn f).get c = f c := by
  cases c with
  | axis a => exact PerAxis.get_ofFn (fun a => f (.axis a)) a
  | pitch => rfl
  | pressure => rfl
  | battery => rfl

@[simp] theorem PerChannel.get_set_self {α : Type} (p : PerChannel α) (c : Channel) (x : α) : (p.set c x).get c = x := by
  cases c with
  | axis a => exact PerAxis.get_set_self p.axis a x
  | pitch => rfl
  | pressure => rfl
  | battery => rfl

@[simp] theorem PerChannel.get_set_of_ne {α : Type} (p : PerChannel α) (c c' : Channel) (x : α) (h : c' ≠ c) :
    (p.set c x).get c' = p.get c' := by
  cases c <;> cases c' <;> first | rfl | exact absurd rfl h | skip
  rename_i a a'
  exact PerAxis.get_set_of_ne p.axis a a' x (fun e => h (e ▸ rfl))

theorem mem_axes (a : Axis) : a ∈ axes := by cases a <;> decide

theorem mem_driveOuts (o : DriveOut) : o ∈ driveOuts := by cases o <;> decide

theorem mem_lamps (l : Lamp) : l ∈ lamps := by cases l <;> decide

theorem mem_buttons (b : Button) : b ∈ buttons := by cases b <;> decide

end Sys2Proof.Machine
end

