-- ==== Sys2Proof/Laws/Ops.lean ====
section
/-! SUPPORT. Laws/Ops.lean: for each shared operation, what it can do, said once: notices, outputs, the motion list and
its ends, the grant attempts, requests, and the host's good frames. -/

namespace Sys2Proof.Machine

open Sys2Proof

/-! ### Notices (R189) -/

theorem appendNotice_notices (n : Notice) (s : State) :
    (appendNotice n s).link.notices = if s.link.notices.length < 16 then s.link.notices ++ [n] else s.link.notices := by
  by_cases h : s.link.notices.length < 16 <;> simp [appendNotice, Config.noticeCapacity, h]

theorem appendNotice_lost (n : Notice) (s : State) :
    (appendNotice n s).link.lost = if s.link.notices.length < 16 then s.link.lost else true := by
  by_cases h : s.link.notices.length < 16 <;> simp [appendNotice, Config.noticeCapacity, h]

/-- The queue never passes 16 by an append. -/
theorem appendNotice_length (n : Notice) (s : State) (h : s.link.notices.length ≤ 16) :
    (appendNotice n s).link.notices.length ≤ 16 := by
  rw [appendNotice_notices]
  split
  · simp only [List.length_append, List.length_singleton]
    omega
  · exact h

@[simp] theorem appendNotice_clock (n : Notice) (s : State) : (appendNotice n s).clock = s.clock := rfl
@[simp] theorem appendNotice_pending (n : Notice) (s : State) : (appendNotice n s).pending = s.pending := rfl
@[simp] theorem appendNotice_pins (n : Notice) (s : State) : (appendNotice n s).pins = s.pins := rfl
@[simp] theorem appendNotice_sense (n : Notice) (s : State) : (appendNotice n s).sense = s.sense := rfl
@[simp] theorem appendNotice_motion (n : Notice) (s : State) : (appendNotice n s).motion = s.motion := rfl
@[simp] theorem appendNotice_drive (n : Notice) (s : State) : (appendNotice n s).drive = s.drive := rfl
@[simp] theorem appendNotice_beacon (n : Notice) (s : State) : (appendNotice n s).beacon = s.beacon := rfl
@[simp] theorem appendNotice_crew (n : Notice) (s : State) : (appendNotice n s).crew = s.crew := rfl
@[simp] theorem appendNotice_store (n : Notice) (s : State) : (appendNotice n s).store = s.store := rfl
@[simp] theorem appendNotice_profile (n : Notice) (s : State) : (appendNotice n s).profile = s.profile := rfl

/-! ### Outputs (R136 to R140) -/

theorem onOut_get (s : State) (o o' : DriveOut) (f : DriveRecord → DriveRecord) :
    (s.onOut o f).drive.out.get o' = if o' = o then f (s.drive.out.get o) else s.drive.out.get o' := by
  simp only [State.onOut_drive, PerDrive.get_set]

/-- One change made to each output of a list without repeats. -/
theorem foldl_onOut_get (f : DriveRecord → DriveRecord) (o : DriveOut) :
    ∀ (l : List DriveOut) (s : State), l.Nodup →
      ((l.foldl (fun s o => s.onOut o f) s).drive.out.get o = if o ∈ l then f (s.drive.out.get o) else s.drive.out.get o)
  | [], s, _ => by simp
  | x :: l, s, h => by
      have hx := (List.nodup_cons.1 h).1
      rw [List.foldl_cons, foldl_onOut_get f o l (s.onOut x f) (List.nodup_cons.1 h).2, onOut_get]
      by_cases ho : o = x
      · subst ho
        simp [hx]
      · simp [ho]

theorem outputsOf_nodup (a : Axis) : (outputsOf a).Nodup := by cases a <;> decide

theorem driveOuts_nodup : driveOuts.Nodup := by decide

/-- R136: after a claim of an axis, its outputs carry the tag under no IMMEDIATE force, and no other output is
touched. -/
theorem claim_get (tag : Nat) (a : Axis) (s : State) (o : DriveOut) :
    ((outputsOf a).foldl (claimOut tag) s).drive.out.get o =
      if o ∈ outputsOf a then
        { s.drive.out.get o with claim := some tag, force := { (s.drive.out.get o).force with immediate := false } }
      else s.drive.out.get o :=
  foldl_onOut_get _ o (outputsOf a) s (outputsOf_nodup a)

/-- R136: after a release of an axis, its outputs carry no claim and no IMMEDIATE force; the duties stand. -/
theorem release_get (a : Axis) (s : State) (o : DriveOut) :
    ((outputsOf a).foldl releaseOut s).drive.out.get o =
      if o ∈ outputsOf a then
        { s.drive.out.get o with claim := none, force := { (s.drive.out.get o).force with immediate := false } }
      else s.drive.out.get o :=
  foldl_onOut_get _ o (outputsOf a) s (outputsOf_nodup a)

/-- R137: a staged 0 on every output of an axis is taken where the claim holds and no force stands. -/
theorem stageZero_get (tag : Nat) (a : Axis) (s : State) (o : DriveOut) :
    (stageZero tag a s).drive.out.get o =
      if o ∈ outputsOf a then
        (if (s.drive.out.get o).takes tag then
          { s.drive.out.get o with staged := 0, hitMark := false, updatePending := true }
        else s.drive.out.get o)
      else s.drive.out.get o :=
  foldl_onOut_get _ o (outputsOf a) s (outputsOf_nodup a)

/-- An output that a force turns off keeps nothing to drive. -/
theorem forcedOff_quiet (r : DriveRecord) :
    r.forcedOff.active = 0 ∧ r.forcedOff.staged = 0 ∧ r.forcedOff.updatePending = false ∧ r.forcedOff.hitMark = false
      ∧ r.forcedOff.phase = .off := ⟨rfl, rfl, rfl, rfl, rfl⟩

@[simp] theorem forceImmediate_clock (s : State) (o : DriveOut) : (forceImmediate s o).clock = s.clock := rfl

@[simp] theorem forceImmediate_motion (s : State) (o : DriveOut) : (forceImmediate s o).motion = s.motion := rfl

/-- What an IMMEDIATE force does reads only the clock, the bases and the output's own record. -/
theorem forceImmediate_get (s : State) (o o' : DriveOut) :
    (forceImmediate s o).drive.out.get o' =
      if o' = o then
        { s.turnedOff o (s.drive.out.get o) with
          force := { (s.drive.out.get o).force with immediate := (s.drive.out.get o).claim.isSome } }
      else s.drive.out.get o' := onOut_get s o o' _

theorem foldl_forceImmediate_get (o : DriveOut) :
    ∀ (l : List DriveOut) (s : State), l.Nodup →
      (l.foldl forceImmediate s).drive.out.get o =
        if o ∈ l then
          { s.turnedOff o (s.drive.out.get o) with
            force := { (s.drive.out.get o).force with immediate := (s.drive.out.get o).claim.isSome } }
        else s.drive.out.get o
  | [], s, _ => by simp
  | x :: l, s, h => by
      have hx := (List.nodup_cons.1 h).1
      rw [List.foldl_cons, foldl_forceImmediate_get o l (forceImmediate s x) (List.nodup_cons.1 h).2, forceImmediate_get]
      by_cases ho : o = x
      · subst ho
        simp [hx]
      · have hb : (forceImmediate s x).drive.baseOf o = s.drive.baseOf o := by cases o <;> rfl
        by_cases hl : o ∈ l
        · simp only [hl, ho, if_true, if_false, or_true, List.mem_cons, State.turnedOff, State.dutyTaken, hb, forceImmediate_clock]
        · simp only [hl, ho, if_false, or_false, List.mem_cons]

/-- R139, R140: after an IMMEDIATE force on every output, none is driven. -/
theorem forceImmediate_all_get (s : State) (o : DriveOut) :
    (driveOuts.foldl forceImmediate s).drive.out.get o =
      { s.turnedOff o (s.drive.out.get o) with
        force := { (s.drive.out.get o).force with immediate := (s.drive.out.get o).claim.isSome } } := by
  have h := foldl_forceImmediate_get o driveOuts s driveOuts_nodup
  rw [if_pos (mem_driveOuts o)] at h
  exact h

@[simp] theorem forceHoldoff_clock (s : State) (o : DriveOut) : (forceHoldoff s o).clock = s.clock := rfl

theorem foldl_forceHoldoff_get (o : DriveOut) :
    ∀ (l : List DriveOut) (s : State), l.Nodup →
      (l.foldl forceHoldoff s).drive.out.get o =
        if o ∈ l then
          { s.dutyTaken o (s.drive.out.get o) with force := { (s.drive.out.get o).force with holdoff := true } }
        else s.drive.out.get o
  | [], s, _ => by simp
  | x :: l, s, h => by
      have hx := (List.nodup_cons.1 h).1
      have hg : (forceHoldoff s x).drive.out.get o = _ := onOut_get s x o _
      rw [List.foldl_cons, foldl_forceHoldoff_get o l (forceHoldoff s x) (List.nodup_cons.1 h).2, hg]
      by_cases ho : o = x
      · subst ho
        simp [hx]
      · have hb : (forceHoldoff s x).drive.baseOf o = s.drive.baseOf o := by cases o <;> rfl
        by_cases hl : o ∈ l
        · simp only [hl, ho, if_true, if_false, or_true, List.mem_cons, State.dutyTaken, hb, forceHoldoff_clock]
        · simp only [hl, ho, if_false, or_false, List.mem_cons]

/-- R139, R141: after the HOLDOFF force on every output, none is driven. -/
theorem forceHoldoff_all_get (s : State) (o : DriveOut) :
    (driveOuts.foldl forceHoldoff s).drive.out.get o =
      { s.dutyTaken o (s.drive.out.get o) with force := { (s.drive.out.get o).force with holdoff := true } } := by
  have h := foldl_forceHoldoff_get o driveOuts s driveOuts_nodup
  rw [if_pos (mem_driveOuts o)] at h
  exact h

/-- R141: after the HOLDOFF force is lifted from every output, each stands as before but for it, and no dead time
runs beyond the lift. -/
theorem liftHoldoff_all_get (s : State) (o : DriveOut) :
    (driveOuts.foldl liftHoldoff s).drive.out.get o =
      { s.drive.out.get o with
        force := { (s.drive.out.get o).force with holdoff := false }
        lowFrom := min (s.drive.out.get o).lowFrom (halfTicksAt s.clock) } := by
  have h : ∀ (l : List DriveOut) (t : State), t.clock = s.clock → l.Nodup →
      (l.foldl liftHoldoff t).drive.out.get o =
        if o ∈ l then
          { t.drive.out.get o with
            force := { (t.drive.out.get o).force with holdoff := false }
            lowFrom := min (t.drive.out.get o).lowFrom (halfTicksAt s.clock) }
        else t.drive.out.get o := by
    intro l
    induction l with
    | nil => intro t _ _; simp
    | cons x l ih =>
        intro t ht hn
        have hx := (List.nodup_cons.1 hn).1
        rw [List.foldl_cons, ih (liftHoldoff t x) ht (List.nodup_cons.1 hn).2]
        by_cases ho : o = x
        · subst ho
          simp [hx, liftHoldoff, ht]
        · simp [ho, liftHoldoff]
  have h1 := h driveOuts s rfl driveOuts_nodup
  rw [if_pos (mem_driveOuts o)] at h1
  exact h1

/-! ### Lamp outputs and conduction (R145, R150) -/

theorem driveLamp_get (l l' : Lamp) (d : Nat) (s : State) :
    (driveLamp l d s).drive.lamp.get l' =
      if l' = l then LampRecord.drive s.drive.lampBase s.clock d (s.drive.lamp.get l) else s.drive.lamp.get l' := by
  cases l <;> cases l' <;> rfl

@[simp] theorem driveLamp_clock (l : Lamp) (d : Nat) (s : State) : (driveLamp l d s).clock = s.clock := rfl
@[simp] theorem driveLamp_out (l : Lamp) (d : Nat) (s : State) : (driveLamp l d s).drive.out = s.drive.out := rfl
@[simp] theorem driveLamp_beacon (l : Lamp) (d : Nat) (s : State) : (driveLamp l d s).beacon = s.beacon := rfl
@[simp] theorem driveLamp_motion (l : Lamp) (d : Nat) (s : State) : (driveLamp l d s).motion = s.motion := rfl
@[simp] theorem driveLamp_link (l : Lamp) (d : Nat) (s : State) : (driveLamp l d s).link = s.link := rfl

/-- R145: an output at duty 0 has conducted in its period only by its mark. -/
theorem conductedBy_of_off {r : DriveRecord} (h : r.active = 0) (o : DriveOut) (base t : Nat) :
    r.conductedBy o base t = r.conducted := by
  cases o <;> simp [DriveRecord.conductedBy, conducts, isBridge, compareValue, gateTimes, h]

/-- R145: a lamp at duty 0 has conducted in its period only by its mark. -/
theorem lampConductedBy_of_dark {r : LampRecord} (h : r.duty = 0) (base t : Nat) :
    r.conductedBy base t = r.conducted := by
  simp [LampRecord.conductedBy, h]

/-! ### Gates (R134, R142) -/

/-- R142: no half has its high gate on while its compare value is 0. -/
theorem gateIn_zero (h : Nat) : gateIn 0 h = .low := rfl

/-- R141: under HOLDOFF both gates of a half are off. -/
theorem gate_of_holdoff {r : DriveRecord} (h : r.force.holdoff = true) (o : DriveOut) (now k : Nat) :
    r.gate o now k = .neither := by
  unfold DriveRecord.gate
  rw [if_pos h]

/-! ### The end of a record (R45) -/

/-- An end of a tag that no record holds changes nothing. -/
theorem endRecord_none {tag : Nat} {s : State} (res : Result) (h : s.find tag = none) : endRecord tag res s = s := by
  unfold endRecord
  rw [h]

theorem foldl_releaseOut_motion (l : List DriveOut) (s : State) : (l.foldl releaseOut s).motion = s.motion := by
  induction l generalizing s with
  | nil => rfl
  | cons o l ih => exact ih (releaseOut s o)

theorem leaveMotion_motion (r : Record) (s : State) : (leaveMotion r s).motion = s.motion := by
  unfold leaveMotion
  split
  · exact foldl_releaseOut_motion (outputsOf r.axis) s
  · rfl

/-- An end takes every record with the tag out of the list, frees the bank that the tag held, and owes an attempt;
the axis records, the latch, the supply and the budget stand. -/
theorem endRecord_motion {tag : Nat} {s : State} {r : Record} (res : Result) (h : s.find tag = some r) :
    (endRecord tag res s).motion =
      { s.motion with
        records := s.motion.records.filter (fun r => r.tag ≠ tag)
        bank := if s.motion.bank = some tag then none else s.motion.bank
        attemptsDue := s.motion.attemptsDue + 1 } := by
  unfold endRecord
  rw [h]
  simp only [State.oweAttempt_motion, appendNotice_motion, dutyEnd, clearButtonTags, removeRecord, State.onBeacon_motion,
    State.onCrew_motion, State.onMotion_motion, leaveMotion_motion]

/-- No record with the tag is left. -/
theorem endRecord_find (tag : Nat) (res : Result) (s : State) : (endRecord tag res s).find tag = none := by
  cases h : s.find tag with
  | none => rw [endRecord_none res h, h]
  | some r =>
      unfold State.find
      rw [endRecord_motion res h]
      simp

/-! ### Grant attempts (R39) -/

/-- With no attempt owed there is none. -/
theorem settle_of_settled {s : State} (h : s.motion.attemptsDue = 0) : settle s = s := by
  unfold settle attempts
  simp [h]

/-- An attempt on an empty list takes only its own mark. -/
theorem grantAttempt_of_empty {s : State} (h : s.motion.records = []) :
    grantAttempt s = s.onMotion (fun m => { m with attemptsDue := m.attemptsDue - 1 }) := by
  simp only [grantAttempt, State.tags, State.onMotion_motion, h, List.map_nil, List.foldl_nil]

theorem attempts_of_empty : ∀ (fuel : Nat) (s : State), s.motion.records = [] → s.motion.attemptsDue ≤ fuel →
    attempts fuel s = s.onMotion (fun m => { m with attemptsDue := 0 })
  | 0, s, _, hf => by
      have h0 : s.motion.attemptsDue = 0 := Nat.le_zero.1 hf
      rw [attempts, State.onMotion, ← h0]
  | fuel + 1, s, h, hf => by
      rw [attempts]
      by_cases h0 : s.motion.attemptsDue = 0
      · rw [if_pos h0, State.onMotion, ← h0]
      · rw [if_neg h0, grantAttempt_of_empty h]
        exact attempts_of_empty fuel (s.onMotion (fun m => { m with attemptsDue := m.attemptsDue - 1 })) h
          (by simp only [State.onMotion_motion]; omega)

/-- With the list empty the owed attempts change only their own count. -/
theorem settle_of_empty {s : State} (h : s.motion.records = []) :
    settle s = s.onMotion (fun m => { m with attemptsDue := 0 }) :=
  attempts_of_empty _ s h (by omega)

/-- R104: with no attempt owed and no waiting step whose interlock has failed, none ends. -/
theorem endFailedSteps_of_none {s : State} (hd : s.motion.attemptsDue = 0)
    (h : ∀ r ∈ s.motion.records, failsWaiting s r = false) : endFailedSteps s = s := by
  have hf : ∀ l : List Nat, l.foldl (fun s t => match s.find t with
      | some r => if failsWaiting s r then endRecord t .interlock s else s
      | none => s) s = s := by
    intro l
    induction l with
    | nil => rfl
    | cons t l ih =>
        rw [List.foldl_cons]
        cases hr : s.find t with
        | none => exact ih
        | some r => simp only [h r (List.mem_of_find?_eq_some hr), Bool.false_eq_true, if_false]; exact ih
  exact (congrArg settle (hf s.tags)).trans (settle_of_settled hd)

/-! ### Requests -/

/-- R28: an accepted request passed every check. -/
theorem judgeFormed_accept {s : State} {rq : Request} {f : Formed} {r : Record}
    (h : judgeFormed s rq f = .accept r) :
    conditionRefusal s = none ∧ permitted s f.record = true ∧ tagHeld s rq = false
      ∧ axes.any (fun a => f.record.claims a && s.faulted a) = false ∧ rivals s f.record = []
      ∧ firstInterlocks s f = true ∧ firstBlocked s f = false ∧ r = f.record := by
  unfold judgeFormed at h
  cases hc : conditionRefusal s with
  | some st => simp [hc] at h
  | none =>
      simp only [hc] at h
      generalize hd : tagHeld s rq = dup at h ⊢
      generalize hp : permitted s f.record = p at h ⊢
      generalize hf : axes.any (fun a => f.record.claims a && s.faulted a) = q at h ⊢
      generalize (rivals s f.record).any (fun x => !sameOwner x f.record) = o at h
      cases p <;> cases q <;> cases dup <;> cases o <;> simp only [Bool.not_true, Bool.not_false, if_true, if_false,
        Bool.false_eq_true, reduceCtorEq] at h
      cases hr : rivals s f.record with
      | nil =>
          simp only [hr, lastChecks] at h
          generalize hi : firstInterlocks s f = i at h ⊢
          generalize hb : firstBlocked s f = b at h ⊢
          cases i <;> cases b <;> simp only [Bool.not_true, Bool.not_false, if_true, if_false, Bool.false_eq_true,
            reduceCtorEq, Judgement.accept.injEq] at h
          exact ⟨rfl, rfl, rfl, rfl, rfl, rfl, rfl, h.symm⟩
      | cons x l =>
          simp only [hr, lastChecks] at h
          repeat' split at h
          all_goals cases h

/-- R23: an insertion adds the record and keeps the others. -/
theorem mem_insertRecord (r x : Record) : ∀ l : List Record, x ∈ insertRecord r l ↔ x = r ∨ x ∈ l
  | [] => by simp [insertRecord]
  | y :: l => by
      unfold insertRecord
      split
      · simp
      · simp [mem_insertRecord r x l, or_left_comm]

/-- R27: a tag that the part gives lies in 200 to 255. -/
theorem freeTag_range (s : State) : 200 ≤ freeTag s ∧ freeTag s ≤ 255 := by
  unfold freeTag
  cases h : (pendantTags s.motion.nextTag).find? (fun t => (s.find t).isNone) with
  | none => simp
  | some t =>
      have hm := List.mem_of_find?_eq_some h
      simp only [pendantTags, List.mem_map, List.mem_range] at hm
      obtain ⟨k, -, rfl⟩ := hm
      simp only [Option.getD_some]
      omega

/-- The nearer bound lies in the range. -/
theorem clampTo_range {lo hi : Int} (h : lo ≤ hi) (x : Int) : lo ≤ clampTo lo hi x ∧ clampTo lo hi x ≤ hi := by
  unfold clampTo
  split
  · omega
  · split <;> omega

/-- A value inside the range stays. -/
theorem clampTo_of_mem {lo hi x : Int} (h1 : lo ≤ x) (h2 : x ≤ hi) : clampTo lo hi x = x := by
  unfold clampTo
  rw [if_neg (by omega), if_neg (by omega)]

/-! ### Good frames (R182, R188) -/

/-- A good frame that is heard is counted and dispatched. -/
theorem goodFrame_heard {s : State} (k : State → State) (h : s.link.restarting = false) (hf : s.link.fifo.length < 4) :
    goodFrame k s = k (countGood s) := by
  unfold goodFrame
  simp only [h, Config.replyCapacity, Nat.not_le.2 hf, if_false, Bool.false_eq_true]

/-- A good frame that finds four replies waiting is counted, sets OVERRUN, and has no other effect. -/
theorem goodFrame_full {s : State} (k : State → State) (h : s.link.restarting = false) (hf : 4 ≤ s.link.fifo.length) :
    goodFrame k s = (countGood s).onLink (fun l => { l with overrun := true }) := by
  unfold goodFrame
  simp only [h, Config.replyCapacity, hf, if_true, if_false, Bool.false_eq_true]

/-- A good frame after an accepted RESTART is dropped, and counted nowhere. -/
theorem goodFrame_restarting {s : State} (k : State → State) (h : s.link.restarting = true) :
    goodFrame k s = s.onLink (fun l => { l with framing := .hunting }) := by
  unfold goodFrame
  simp only [h, if_true]

end Sys2Proof.Machine
end

