-- ==== Sys2Proof/Tests/Slice0.lean ====
section
/-! SUPPORT. Tests/Slice0.lean: an ill-formed command for each check of WellFormed.lean; one-step tests against the
worked figures of spec/; and for each statement with hypotheses a state and operands that meet them. -/

namespace Sys2Proof.Tests

open Sys2Proof Sys2Proof.Machine

set_option maxRecDepth 100000

/-! ### Ill-formed commands are refused by WellFormed -/

theorem test_wf_image : (Instr.profileLoadEnd [0]).wellFormed = false := by decide
theorem test_wf_readBack : (Instr.commitVerifyDone []).wellFormed = false := by decide
theorem test_wf_dualTrack : (Instr.dualTrackPrimaryComplete .battery 0).wellFormed = false := by decide
theorem test_wf_disagree : (Instr.sensorDisagree (.axis .fold)).wellFormed = false := by decide
theorem test_wf_tagLow : (Instr.waitTimerExpiry 0).wellFormed = false := by decide
theorem test_wf_tagHigh : (Instr.holdTimerExpiry 256).wellFormed = false := by decide
theorem test_wf_reading : (Instr.periodBoundary (.pump ⟨4001, false⟩)).wellFormed = false := by decide
theorem test_wf_valve : (Instr.hitPhaseEnd .do2).wellFormed = false := by decide
theorem test_wf_door : (Instr.doorCurrentObstruction .lift).wellFormed = false := by decide
theorem test_wf_source : (Instr.holdFrame 0 15 0).wellFormed = false := by decide
theorem test_wf_destination : (Instr.clearFrame 3 7).wellFormed = false := by decide
theorem test_wf_haltSource : (Instr.haltFrame 15).wellFormed = false := by decide
theorem test_wf_discard : (Instr.crewFrameDiscard ⟨[0x2F, 0x02, 0x2D], 0⟩).wellFormed = false := by decide
theorem test_wf_discardRest : (Instr.crewFrameDiscard ⟨[0x2F, 0x02], 9⟩).wellFormed = false := by decide
theorem test_wf_ignored : (Instr.crewFrameIgnored [0x2F, 0x02, 0x2C]).wellFormed = false := by decide
theorem test_wf_station : (Instr.silenceTimerExpiry 15).wellFormed = false := by decide
theorem test_wf_badLen : (Instr.hostFrameBad (.len 60)).wellFormed = false := by decide
theorem test_wf_kind : (Instr.unknownKind 0x14 0).wellFormed = false := by decide
theorem test_wf_stage : (Instr.profileStage 1 0 0 (List.replicate 55 0)).wellFormed = false := by decide
theorem test_wf_good : (Instr.haltFrame 14).wellFormed = true := by decide

/-! ### States for the tests -/

/-- The state that a command leads to. -/
def after (c : Instr) (s : State) : State :=
  match exec c s with
  | .next t => t
  | .fault _ => s
  | .refused _ => s

/-- A small image: the two wide regions lie first, and no station, step or envelope is used. -/
def smallDescriptor : List Byte :=
  let entry (r off : Nat) : List Byte := be16 off ++ be16 (regionLength r) ++ [if regionService r then 2 else 1]
  [0x42, 0x58, 0x50, 0x46, 0x01] ++ entry 0 324 ++ entry 1 444 ++ entry 2 464 ++ entry 3 704 ++ entry 4 164
    ++ entry 5 724 ++ entry 6 40

/-- The bytes of such an image with these station entries. -/
def imageBytes (stations : List Byte) : List Byte :=
  smallDescriptor ++ calibrationBytes Builtin.calibration ++ limitBytes Builtin.limits
    ++ padTo 120 stations ++ beaconBytes Builtin.limp.beacons
    ++ (List.range 6).flatMap (fun _ => padTo 40 [0xFF]) ++ permissionBytes Builtin.defaultPermissions
    ++ (List.range 8).flatMap (fun _ => padTo 9 [0xFF])

def unsealedImage : Image := imageOf (imageBytes [])

def testImage : Image := unsealedImage.sealed

theorem testImage_wf : testImage.wf = true := Image.sealed_wf (imageOf_wf _)

theorem testImage_signed : testImage.signed = true := by decide +kernel

theorem testImage_map : testImage.mapHolds = true := by decide +kernel

theorem testImage_inRange :
    regions.all (fun r => (numericFields (testImage.region r) r).all (fun f => f.inRange (testImage.region r)))
      = true := by decide +kernel

theorem testImage_relations : testImage.relationsHold = true := by decide +kernel

theorem testImage_crc : testImage.crcHolds = true := Image.sealed_crcHolds (imageOf_wf _)

theorem testImage_sound : testImage.Sound := ⟨testImage_wf, testImage_map⟩

/-- The image passes every stage of the load. -/
theorem test_load_passes : judgeImage (imageOf (testImage.dense 0 4096)) = some testImage := by
  rw [imageOf_dense testImage_wf]
  unfold judgeImage
  rw [Image.clamped_of_inRange (List.all_eq_true.1 testImage_inRange), testImage_signed, testImage_map,
    testImage_crc, testImage_relations]
  rfl

/-- In RUN with the built-in tables and the default permission map, parked, every position known, nothing moving. -/
def parked : State :=
  { State.reset with
    clock := 1000000
    pins := { Pins.reset quietPins with
      strapTaken := true
      filter := ⟨⟨true, none⟩, ⟨false, none⟩, ⟨false, none⟩, ⟨false, none⟩, ⟨false, none⟩, ⟨false, none⟩⟩ }
    sense := .ofFn (fun _ => { SenseChannel.reset with value := some 250, clearable := true, timer := some 990000 })
    motion := { Motion.reset with
      budget := 180
      axis :=
        { lift := ⟨some 600, some 1922, none⟩, tilt := ⟨some 0, some 0, none⟩, fold := ⟨some 0, some 600, none⟩
          kdoor := ⟨some 0, some 300, none⟩, rdoor := ⟨some 0, some 300, none⟩ } }
    beacon := { Beacons.reset with test := .over, judged := true }
    crew := { Crew.reset with stations := Builtin.stations.map freshStation, lampsTick := some 900000 }
    store := { Store.reset with
      mode := .run, source := .flash, loadEnded := true, inForce := some testImage, staging := some testImage }
    profile := { Builtin.limp with permissions := Builtin.defaultPermissions } }

/-- A CAB MOVE of a door to 500 in WAITING, by its tag. -/
def doorMove (a : Axis) (tag : Nat) : Record :=
  { blankRecord parked { tag := some tag, source := .cab, station := none, demand := .move a 500 .normal }
      .move a .inc .normal false with
    target := 500 }

/-- The state with these records in its list. -/
def withRecords (l : List Record) (s : State) : State := s.onMotion (fun m => { m with records := l })

/-- The state with the ESTOP latch set. -/
def latched (s : State) : State := s.onMotion (fun m => { m with estop := true })

/-- The state with HOLDOFF high and asserted. -/
def heldOff (s : State) : State :=
  s.onPins (fun p => { p with level := { p.level with holdoff := true }, holdoff := true })

/-- A JOG of the rear station on LIFT, raising and driven. -/
def liftJog : Record :=
  { doorMove .kdoor 201 with
    source := .rear, station := some 3, kind := .jog, axis := .lift, target := 1300, draw := 150, held := true
    state := .moving, dPrev := 400, overload := some 990000, stall := some ⟨600, 0⟩, lastRefresh := 900000 }

/-- A held SEQUENCE of the rear station, granted. -/
def heldSequence : Record :=
  { liftJog with
    kind := .sequence, state := .prewarn
    seq := some
      { number := 2, index := 1, claimed := ⟨true, true, false, false, false⟩, needsBank := true, limited := false
        pause := false, granted := true, formed := true } }

/-- The state with an axis fault. -/
def faultOn (a : Axis) (s : State) : State :=
  s.onAxis a (fun x => { x with fault := some { kind := .stall, position := none, tag := none } })

/-- The state with a conversion of a channel in progress. -/
def converting (c : Channel) (t : Trigger) (primary : Option Int) (s : State) : State :=
  s.onChannel c (fun ch => { ch with conversion := some { trigger := t, began := 999990, mode := channelMode s c, primary := primary } })

/-! ### One-step tests against figures of the spec -/

/-- R192: the check figure of the CRC. -/
theorem test_crc : crc16 [0x31, 0x32, 0x33, 0x34, 0x35, 0x36, 0x37, 0x38, 0x39] = 0x29B1 := by decide +kernel

/-- R179: characters that sum to F4H take the CHECK 0CH. -/
theorem test_check : checkOf [0xF4] = 0x0C := by decide

/-- R36: the table of the budget. -/
theorem test_budget :
    ([250, 240, 238, 228, 225, 211, 210] : List Int).map (budgetFor Builtin.limits) = [180, 180, 168, 108, 90, 6, 0] := by
  decide

/-- R78: the table of load compensation. -/
theorem test_compensation :
    (compensate 200 600 866 500, compensate 200 600 866 1200, compensate 200 600 1000 900, compensate 200 600 266 1200,
      compensate 200 600 400 2500) = (866, 433, 666, 200, 200) := by decide

/-- R134: the table of compare values. -/
theorem test_compare :
    (compareValue .do0 866, compareValue .do1 600, compareValue .do2 433, compareValue .do7 332, compareValue .do7 1000)
      = (3464, 12000, 8660, 66, 200) := by decide

/-- R142: the table of gate times. -/
theorem test_gates : [40, 66, 80, 200].map gateTimes = [⟨32, 152, 16⟩, ⟨58, 126, 16⟩, ⟨72, 112, 16⟩, ⟨192, 0, 8⟩] := by
  decide

/-- R203: a position of −30 is carried as FFE2H, an absent one as 8000H. -/
theorem test_signed : be16 (-30) ++ be16? none = [0xFF, 0xE2, 0x80, 0x00] := by decide

/-- R164: a CLEAR of station 2 to the part is 2FH 02H and their XOR. -/
theorem test_crew_frame : crewFrameOf [0x2F, 0x02, 0x2D] = some ⟨2, 15, .clear⟩ := by decide

/-- R27: the tag after 255 is 200. -/
theorem test_tag_wraps : (takeTag 255 parked).motion.nextTag = 200 := by decide

/-- R24: the arrival number after 65,535 is 0. -/
theorem test_arrival_wraps :
    (after (.jog 9 4 1 2) (parked.onMotion (fun m => { m with arrivals := 65535 }))).motion.arrivals = 0 := by decide

/-- R181: the 10,000th good frame makes GOOD read 0. -/
theorem test_good_wraps : (countGood (parked.onLink (fun l => { l with good := 9999 }))).link.good = 0 := by decide

/-- R28: a CAB MOVE of LIFT is not permitted by the default map. -/
theorem test_move_not_permitted :
    (after (.move 9 0 100 2) parked).link.fifo = [⟨0x04, 9, .notPermitted, []⟩] := by decide

/-- R41, R69: an accepted MOVE of RDOOR stands in PREWARN. -/
theorem test_move_prewarn :
    ((after (.move 9 4 500 2) parked).motion.records.map (fun r => (r.tag, r.state, r.target))) = [(9, .prewarn, 500)] := by
  decide

/-- R118, R119: a low ESTOP_N ends the record and appends its notice before the RECORD_END. -/
theorem test_estop_notices :
    (after .estopPinLow (withRecords [doorMove .rdoor 9] parked)).link.notices.map (fun n => n.fields.take 2)
      = [[3, 1], [1, 9]] := by decide

/-- R169, R171: a newly held JOG button makes a record with the first pendant tag. -/
theorem test_press : ((after (.holdFrame 6 15 1) parked).motion.records.map Record.tag) = [200] := by decide

/-- R160: the lamp test is lit in its first 250 periods and dark in the next. -/
theorem test_lamp_test : (testLit 0, testLit 249, testLit 250, testLit 500, testLit 750) = (true, true, false, true, false) := by
  decide

/-- R197: a PROFILE-READ of a region map that names bytes beyond the image is the one stop of the model. -/
theorem test_image_fault :
    exec (.profileRead 1 0 0 48) (parked.onStore (fun st => { st with inForce := some [(5, 0xFF), (6, 0xFF)] }))
      = .fault .imageAddress := rfl

/-! ### Witnesses: one step, and the invariants -/

theorem witness_idle : State.reset.pending = [] := rfl

theorem witness_next : exec .busStuck parked = .next (after .busStuck parked) ∧ ¬Resets .busStuck := by
  exact ⟨rfl, by decide⟩

theorem witness_storeSound : parked.StoreSound := by
  refine ⟨?_, ?_, fun _ => ⟨rfl, rfl⟩⟩ <;> rintro m ⟨⟩ <;> exact testImage_sound

/-- A list whose record holds the bank, and a command that waits. -/
def granted : State :=
  { withRecords [liftJog] parked with
    motion := { (withRecords [liftJog] parked).motion with bank := some 201 }
    pending := [.supplyCut] }

theorem witness_granted_steps : ∃ t, step granted = .next t := ⟨_, rfl⟩

theorem witness_stopsHold :
    (latched (heldOff parked)).StopsHold ∧ granted.StopsHold ∧ exec (.estopClear 1) (latched parked)
      = .next (after (.estopClear 1) (latched parked)) := ⟨by decide, by decide, rfl⟩

theorem witness_faultsHold : (after (.stall .lift) granted).FaultsHold ∧ (after (.stall .lift) granted).faulted .lift = true
    ∧ ∃ t, step (after (.stall .lift) granted) = .next t := ⟨by decide, by decide, _, rfl⟩

theorem witness_counters : granted.CountersBounded :=
  ⟨by decide, by decide, by decide, by decide, by decide, by decide, by decide, by decide, trivial, by decide⟩

theorem witness_listSound : granted.ListSound := by decide

theorem witness_bankSound : granted.BankSound := by decide

theorem witness_settled : granted.Settled := by decide

theorem witness_positions : granted.PositionsWithin ∧ granted.profile.TravelOrdered
    ∧ (after .supplyCut granted).profile.TravelOrdered := by decide

theorem witness_duties : granted.DutiesBounded ∧ granted.profile.DutiesWithin := by decide

/-- RDOOR opens under a record with both marks, at the last step of its travel. -/
def roadOpening : State :=
  { withRecords [{ doorMove .rdoor 9 with state := .moving, dPrev := 400, road := true, warned := true }] parked with
    pending := [.busStuck] }

theorem witness_roadWarned : roadOpening.RoadWarned ∧ ∃ t, step roadOpening = .next t := ⟨by decide, _, rfl⟩

/-- The tables of the image in force are handed out, and the envelope lock is set. -/
def locked : State :=
  { parked with profile := testImage.profile, store := { parked.store with lock := true }, pending := [.busStuck] }

theorem witness_lockHolds : locked.LockHolds ∧ locked.store.lock = true ∧ step locked = .next (after .busStuck
    { locked with pending := [] }) ∧ (after .busStuck { locked with pending := [] }).store.lock = true := by
  refine ⟨⟨⟨?_, ?_, fun _ => ⟨rfl, rfl⟩⟩, fun _ h => (nomatch h), ?_, ?_⟩, rfl, rfl, rfl⟩
  · rintro m ⟨⟩; exact testImage_sound
  · rintro m ⟨⟩; exact testImage_sound
  · rintro _ f ⟨⟩; rfl
  · rintro _ m ⟨⟩ f ⟨⟩; rfl

theorem witness_budgetKept : granted.ListSound ∧ exec .supplyCut granted = .next (after .supplyCut granted) :=
  ⟨by decide, rfl⟩

/-! ### Witnesses: whole-machine rules -/

theorem witness_latchCleared :
    exec (.estopClear 1) (latched parked) = .next (after (.estopClear 1) (latched parked))
      ∧ (latched parked).motion.estop = true ∧ (after (.estopClear 1) (latched parked)).motion.estop = false :=
  ⟨rfl, by decide, by decide⟩

/-- HOLDOFF asserted, its pin low for 20 ms. -/
def releasing : State :=
  parked.onPins (fun p => { p with holdoff := true, holdoffLow := some 980000 })

theorem witness_holdoffReleased : releasing.StopsHold ∧ exec .holdoffReleased releasing
    = .next (after .holdoffReleased releasing) ∧ releasing.pins.holdoff = true
    ∧ (after .holdoffReleased releasing).pins.holdoff = false := ⟨by decide, rfl, rfl, by decide⟩

theorem witness_lockCleared :
    exec .powerOnReset (parked.onStore (fun st => { st with lock := true }))
        = .next (after .powerOnReset (parked.onStore (fun st => { st with lock := true })))
      ∧ (after .powerOnReset (parked.onStore (fun st => { st with lock := true }))).store.lock = false :=
  ⟨rfl, by decide⟩

theorem witness_profileChanges : parked.BankSound ∧ exec .powerOnReset parked = .next (after .powerOnReset parked)
    ∧ (after .powerOnReset parked).profile ≠ parked.profile := ⟨by decide, rfl, by decide⟩

theorem witness_newRecord : exec (.move 9 4 500 2) parked = .next (after (.move 9 4 500 2) parked)
    ∧ ∃ r ∈ (after (.move 9 4 500 2) parked).motion.records, parked.find r.tag = none := ⟨rfl, by decide⟩

/-! ### Witnesses: reset, load and start -/

theorem witness_restart :
    let s := parked.onLink (fun l => { l with restarting := true, fifo := [⟨0x14, 1, .ok, []⟩] })
    s.link.restarting = true ∧ s.link.fifo = [⟨0x14, 1, .ok, []⟩] ∧ s.pins.level.estopN = true
      ∧ s.pins.level.holdoff = false := by decide

theorem witness_replies :
    (parked.onLink (fun l => { l with fifo := [⟨0x01, 1, .ok, []⟩, ⟨0x14, 1, .ok, []⟩] })).link.fifo
      = [⟨0x01, 1, .ok, []⟩, ⟨0x14, 1, .ok, []⟩] := rfl

/-- The read completes at 50 ms, the last moment in time, and a microsecond after it. -/
theorem witness_load :
    let s (t : Nat) : State := { State.reset with clock := t }
    (s 50000).store.mode = .loading ∧ (s 50000).store.loadEnded = false ∧ (s 50000).pins.strapTaken = false
      ∧ (s 50000).clock ≤ 50000 ∧ judgeImage (imageOf (testImage.dense 0 4096)) = some testImage
      ∧ (s 50001).store.mode = .loading ∧ (s 50001).store.loadEnded = false ∧ (s 50001).pins.strapTaken = false
      ∧ 50000 < (s 50001).clock :=
  ⟨rfl, rfl, rfl, by decide, test_load_passes, rfl, rfl, rfl, by decide⟩

theorem witness_load_fails : judgeImage (imageOf []) = none := by decide

theorem witness_loading_strap :
    let s := State.reset.onStore (fun st => { st with loadEnded := true, inForce := some testImage })
    s.store.mode = .loading ∧ s.store.loadEnded = true ∧ s.store.inForce = some testImage ∧ s.pins.strapTaken = false :=
  ⟨rfl, rfl, rfl, rfl⟩

theorem witness_loading_load :
    let s (t : Nat) := { State.reset with clock := t }.onPins (fun p => { p with strapTaken := true })
    (s 50000).store.mode = .loading ∧ (s 50000).store.loadEnded = false ∧ (s 50000).pins.strapTaken = true
      ∧ (s 50000).clock ≤ 50000 ∧ 50000 < (s 50001).clock ∧ (s 50001).store.mode = .loading
      ∧ (s 50001).store.loadEnded = false ∧ (s 50001).pins.strapTaken = true := by decide

/-- R193, R195: a failed load after the strap sample leaves LOADING under LIMP. -/
theorem test_failed_load_leaves :
    (after (.profileLoadEnd []) (State.reset.onPins (fun p => { p with strapTaken := true }))).store.mode = .lampTest := by
  decide

/-! ### Witnesses: pins and conditions -/

theorem witness_debounce :
    let s := parked.onPins (fun p => { p with
      level := { p.level with input := p.level.input.set .edgeK true }
      filter := p.filter.set .edgeK ⟨false, some 980000⟩ })
    (s.pins.filter.get .edgeK).since = some 980000
      ∧ (s.pins.filter.get .edgeK).active ≠ s.pins.level.input.get .edgeK ∧ s.mover .kdoor = none := by decide

theorem witness_pinChanges :
    parked.pins.level.input.get .park ≠ true ∧ parked.pins.level.input.speed = false ∧ parked.pins.rawEdge = none
      ∧ (heldOff parked).pins.level.holdoff = true ∧ (heldOff parked).pins.holdoff = true
      ∧ State.reset.pins.strapTaken = false := by decide

/-- The last raw edge lies exactly 500 ms back, the first moment at which it no longer counts. -/
theorem witness_rawEdge :
    let s := parked.onPins (fun p => { p with rawEdge := some 500000 })
    s.pins.level.input.speed = false ∧ ∀ t ∈ s.pins.rawEdge, t + 500000 ≤ s.clock := by decide

/-- The last raw edge lies 1 µs less than 500 ms back, with the condition true and false. -/
theorem witness_rawEdge_near :
    let s := granted.onPins (fun p => { p with rawEdge := some 500001 })
    s.pins.level.input.speed = false ∧ s.pins.rawEdge = some 500001 ∧ s.clock < 500001 + 500000
      ∧ s.vehicleMoving = false ∧ s.tags.Nodup ∧ (s.onPins (fun p => { p with movingEdge := some 1 })).vehicleMoving = true
      ∧ s.link.notices.length < 16 := by decide

theorem witness_speed_rises :
    let s := granted.onPins (fun p => { p with
      level := { p.level with input := p.level.input.set .speed true }
      filter := p.filter.set .speed ⟨false, some 980000⟩ })
    s.pins.filter.speed.since = some 980000 ∧ s.pins.filter.speed.active = false
      ∧ s.pins.level.input.speed = true ∧ s.vehicleMoving = false ∧ s.tags.Nodup
      ∧ (s.onPins (fun p => { p with movingEdge := some 1 })).vehicleMoving = true := by decide

theorem witness_letGo :
    releasing.pins.holdoff = true ∧ releasing.pins.holdoffLow = some 980000
      ∧ (parked.onPins (fun p => { p with movingEdge := some 600000 })).pins.movingEdge = some 600000
      ∧ (parked.onMotion (fun m => { m with supply := .cut, recoveryRun := some 1 })).motion.supply = .cut
      ∧ (parked.onMotion (fun m => { m with supply := .cut, recoveryRun := some 1 })).motion.recoveryRun = some 1
      ∧ parked.link.notices.length < 16 := by decide

/-- A release with every lamp dark: into the latch, before the first lamp boundary, and into the configuration. -/
theorem witness_release_lamps :
    let u (s : State) := after .holdoffReleased s
    (∀ l ∈ lamps, (releasing.drive.lamp.get l).duty = 0)
      ∧ ((u (latched releasing)).pins.holdoff = false ∧ (u (latched releasing)).motion.estop = true)
      ∧ (u (releasing.onBeacon (fun b => { b with judged := false }))).beacon.judged = false
      ∧ ((u releasing).motion.estop = false ∧ (u releasing).store.mode = .run ∧ (u releasing).beacon.judged = true
        ∧ inPrewarn (u releasing) .b1 = false ∧ ((u releasing).beacon.channel.get .b1).override = none) := by decide

/-! ### Witnesses: stops of everything -/

theorem witness_estop : granted.motion.estop = false ∧ (1 : BitVec 4) ≠ 0 ∧ (14 : BitVec 4) ≠ 15
    ∧ busReceives granted = true ∧ granted.Hears := by decide

theorem witness_estop_again : (latched parked).motion.estop = true ∧ (latched parked).Hears
    ∧ (1 : BitVec 4) ≠ 0 ∧ (14 : BitVec 4) ≠ 15 ∧ busReceives (latched parked) = true := by decide

theorem witness_holdoff : granted.pins.holdoff = false := rfl

theorem witness_everyRecord : granted.tags.Nodup ∧ granted.vehicleMoving = false ∧ granted.motion.supply = .normal
    ∧ granted.Hears ∧ granted.link.notices.length < 16 := by decide

/-! ### Witnesses: conversions and samples -/

theorem witness_freeRun : (parked.sense.get .pitch).timer = some 990000 ∧ (parked.sense.get .pitch).conversion = none
    ∧ (parked.sense.get (.axis .lift)).sync = false := by decide

/-- A trigger, free-running or of a control interval, that finds a conversion in progress. -/
theorem witness_trigger_dropped :
    let s := converting (.axis .lift) .freeRunning none (converting .pitch .freeRunning none parked)
    (s.sense.get .pitch).timer = some 990000 ∧ (s.sense.get .pitch).conversion = some ⟨.freeRunning, 999990, .signed, none⟩
      ∧ (s.sense.get (.axis .lift)).conversion.isSome = true := by decide

theorem witness_synchronised :
    let s := synchronise .lift parked
    (s.sense.get (.axis .lift)).sync = true ∧ (s.sense.get (.axis .lift)).conversion = none
      ∧ (s.sense.get (.axis .lift)).snapshotDue = true := by decide

theorem witness_primary :
    ((converting (.axis .tilt) .freeRunning none parked).sense.get (.axis .tilt)).conversion
      = some ⟨.freeRunning, 999990, .signed, none⟩ := by decide

theorem witness_control :
    (2500 % 10000 = 2500 ∧ 0 ≤ 2500) ∧ (12500 % 10000 = 2500 ∧ 2501 ≤ 12500 ∧ ∀ p ∈ some 2500, p < 12500) := by decide

/-- KDOOR, whose travel begins at the code 300, with a conversion in progress and these records. -/
def sampled (tr : Trigger) (l : List Record) : State := withRecords l (converting (.axis .kdoor) tr none parked)

/-- The value that a code gives on KDOOR. -/
def kdoorValue (code : RawCode) : Int :=
  let k := parked.profile.calibration.channel.get (.axis .kdoor)
  k.points.u1 + ((codeValue .unsigned code - k.points.c1) * (k.points.u2 - k.points.u1)).tdiv (k.points.c2 - k.points.c1)

/-- KDOOR driven in MOVING, in a direction. -/
def doorMoving (d : Dir) : Record :=
  { doorMove .kdoor 9 with state := .moving, dir := d, target := if d = .inc then 1100 else 0, dPrev := 400 }

/-- In range at both bounds of its check; within the margin, and beyond it at rest and in motion. -/
theorem witness_sample :
    let s := sampled .freeRunning []
    let k := s.profile.calibration.channel.get (.axis .kdoor)
    (s.sense.get (.axis .kdoor)).conversion = some ⟨.freeRunning, 999990, .unsigned, none⟩
      ∧ dualTrack s.profile.calibration (.axis .kdoor) = none
      ∧ k.clo ≤ codeValue .unsigned 100 ∧ codeValue .unsigned 3995 ≤ k.chi
      ∧ codeValue .unsigned 99 < k.clo ∧ k.chi < codeValue .unsigned 3996 ∧ s.faulted .kdoor = false
      ∧ s.withinMargin .kdoor (kdoorValue 300) = kdoorValue 300 ∧ s.mover .kdoor = none
      ∧ s.withinMargin .kdoor (kdoorValue 200) ≠ kdoorValue 200
      ∧ ((sampled .freeRunning [doorMoving .inc]).mover .kdoor).isSome = true
      ∧ (sampled .freeRunning [doorMoving .inc]).link.notices.length < 16 := by decide

theorem witness_sample_dual :
    let s := converting (.axis .lift) .freeRunning (some 1922) parked
    (s.sense.get (.axis .lift)).conversion = some ⟨.freeRunning, 999990, .unsigned, some 1922⟩
      ∧ (dualTrack s.profile.calibration (.axis .lift)).isSome = true := by decide

theorem witness_sample_figures :
    let s := converting .battery .freeRunning none (converting .pitch .freeRunning none parked)
    let k := s.profile.calibration.channel.battery
    s.sense.pitch.conversion = some ⟨.freeRunning, 999990, .signed, none⟩
      ∧ s.sense.battery.conversion = some ⟨.freeRunning, 999990, .unsigned, none⟩
      ∧ k.clo ≤ codeValue k.mode 100 ∧ codeValue k.mode 3995 ≤ k.chi ∧ codeValue k.mode 99 < k.clo := by decide

/-- A JOG of the rear station on LIFT with an overload watch, driven or not. -/
def overloaded (u : Option Nat) (d : Nat) : Record := { liftJog with overload := u, dPrev := d }

/-- The pressure that a code gives. -/
def pressureValue (code : RawCode) : Int :=
  let k := parked.profile.calibration.channel.pressure
  k.points.u1 + ((codeValue .unsigned code - k.points.c1) * (k.points.u2 - k.points.u1)).tdiv (k.points.c2 - k.points.c1)

/-- Pressures just above and at the limit of 1800; the watch is 200 ms old to the microsecond at 1000015, and younger
by one. -/
theorem witness_pressure :
    let s (l : List Record) := withRecords l (converting .pressure .freeRunning none parked)
    let k := parked.profile.calibration.channel.pressure
    (s []).sense.pressure.conversion = some ⟨.freeRunning, 999990, .unsigned, none⟩ ∧ (s []).motion.attemptsDue = 0
      ∧ (s []).mover .lift = none
      ∧ (s [overloaded none 400]).mover .lift = some (overloaded none 400) ∧ (overloaded none 400).state = .moving
      ∧ (overloaded none 400).dir = .inc
      ∧ k.clo ≤ codeValue k.mode 2771 ∧ codeValue k.mode 2771 ≤ k.chi
      ∧ (parked.profile.limits.pMax : Int) < max 0 (min 2500 (pressureValue 2771))
      ∧ ¬ (parked.profile.limits.pMax : Int) < max 0 (min 2500 (pressureValue 2768))
      ∧ (s [overloaded (some 800015) 400]).mover .lift = some (overloaded (some 800015) 400)
      ∧ 800015 + 200000 ≤ max (s []).clock (999990 + 25) ∧ max (s []).clock (999990 + 25) < 800016 + 200000
      ∧ (s [overloaded (some 800015) 0]).find 201 = some (overloaded (some 800015) 0) := by decide

/-- The voltage that a code gives. -/
def batteryValue (code : RawCode) : Int :=
  let k := parked.profile.calibration.channel.battery
  max 0 (min 400 (k.points.u1
    + ((codeValue .unsigned code - k.points.c1) * (k.points.u2 - k.points.u1)).tdiv (k.points.c2 - k.points.c1)))

/-- 19.0 V and 18.9 V, 21.0 V and 20.9 V; runs that end at 1000015 and that lack a microsecond. -/
theorem witness_battery_runs :
    (190 ≤ batteryValue 1900 ∧ batteryValue 1899 < 190 ∧ 210 ≤ batteryValue 2100 ∧ batteryValue 2099 < 210)
      ∧ (converting .battery .freeRunning none granted).sense.battery.conversion
        = some ⟨.freeRunning, 999990, .unsigned, none⟩
      ∧ parked.motion.supply = .normal ∧ parked.motion.lowRun = none ∧ granted.tags.Nodup
      ∧ 500015 + 500000 ≤ max parked.clock (999990 + 25) ∧ max parked.clock (999990 + 25) < 500016 + 500000
      ∧ 15 + 1000000 ≤ max parked.clock (999990 + 25) ∧ max parked.clock (999990 + 25) < 16 + 1000000 := by decide

/-- The two changes of supply, with no record in WAITING. -/
theorem witness_supply_changes :
    let cut := (converting .battery .freeRunning none granted).onMotion (fun m => { m with lowRun := some 500015 })
    let back := (converting .battery .freeRunning none granted).onMotion
      (fun m => { m with supply := .cut, recoveryRun := some 15 })
    cut.motion.attemptsDue = 0 ∧ (∀ r ∈ cut.motion.records, r.state ≠ .waiting) ∧ cut.link.notices.length < 16
      ∧ (after (.conversionComplete .battery 1899) cut).motion.supply = .cut
      ∧ back.motion.attemptsDue = 0 ∧ (∀ r ∈ back.motion.records, r.state ≠ .waiting) ∧ back.link.notices.length < 16
      ∧ (after (.conversionComplete .battery 2100) back).motion.supply = .normal := by decide

theorem witness_budget : Builtin.limits.vZero < Builtin.limits.vFull ∧ Builtin.limits.vFull ≤ 240
    ∧ (210 : Int) ≤ Builtin.limits.vZero ∧ Builtin.limits.vZero < 211 ∧ (239 : Int) < Builtin.limits.vFull := by decide

/-- For each clause: a LIFT conversion whose codes are in range, and one whose code is not; counts of 0, 1 and 2. -/
theorem witness_disagreement :
    let s := converting (.axis .lift) .synchronised (some 1922) parked
    let k := s.profile.calibration.channel.get (.axis .lift)
    let u := marginClamp (s.limits .lift) (k.points.scale 1922)
    dualTrack s.profile.calibration (.axis .lift) = some (Builtin.calibration.liftAlt, 15)
      ∧ (s.sense.get (.axis .lift)).conversion = some ⟨.synchronised, 999990, .unsigned, some 1922⟩
      ∧ k.inRange 1922 = true ∧ k.inRange 99 = false
      ∧ disagrees k (s.limits .lift) Builtin.calibration.liftAlt 15 u (codeValue k.mode 2174) = false
      ∧ disagrees k (s.limits .lift) Builtin.calibration.liftAlt 15 u (codeValue k.mode 500) = true
      ∧ (s.sense.get (.axis .lift)).disagree = 0 ∧ s.faulted .lift = false ∧ (faultOn .lift s).faulted .lift = true
      ∧ ((s.onChannel (.axis .lift) (fun ch => { ch with disagree := 1 })).sense.get (.axis .lift)).disagree = 1
      ∧ ((s.onChannel (.axis .lift) (fun ch => { ch with disagree := 2 })).sense.get (.axis .lift)).disagree = 2 := by
  decide

theorem witness_single_track : dualTrack parked.profile.calibration .pitch = none
    ∧ exec (.conversionComplete .pitch 0) (converting .pitch .freeRunning none parked)
      = .next (after (.conversionComplete .pitch 0) (converting .pitch .freeRunning none parked)) := ⟨rfl, rfl⟩

/-! ### Witnesses: faults -/

theorem witness_stall : granted.mover .lift = some liftJog ∧ liftJog.state = .moving ∧ granted.faulted .lift = false
    ∧ granted.link.notices.length < 16 := by decide

theorem witness_first_fault : (faultOn .kdoor parked).motion.attemptsDue = 0
    ∧ ∀ a ∈ axesOf .do7, (faultOn .kdoor parked).faulted a = true := by decide

theorem witness_lamp_finding : parked.lampFaulted .b2 = false ∧ parked.link.notices.length < 16
    ∧ (parked.onLamp .b2 (fun b => { b with fault := some .open })).lampFaulted .b2 = true := by decide

/-! ### Witnesses: stops of one record -/

theorem witness_overload : granted.motion.attemptsDue = 0 ∧ granted.mover .lift = some liftJog
    ∧ liftJog.dir = .inc ∧ liftJog.overload = some 990000 ∧ liftJog.dPrev ≠ 0 ∧ liftJog.seq = none := by decide

theorem witness_hold_expires :
    liftJog.held = true ∧ (withRecords [{ liftJog with state := .starting }] parked).find 201
      = some { liftJog with state := .starting } := by decide

theorem witness_hold_lapse : granted.find 201 = some liftJog ∧ liftJog.held = true ∧ liftJog.state = .moving := by decide

theorem witness_record_timers :
    (withRecords [doorMove .kdoor 9] parked).find 9 = some (doorMove .kdoor 9) ∧ (doorMove .kdoor 9).state = .waiting
      ∧ (doorMove .kdoor 9).held = false
      ∧ (withRecords [{ liftJog with state := .waiting }] parked).find 201 = some { liftJog with state := .waiting }
      ∧ (withRecords [{ heldSequence with state := .paused }] parked).find 201
        = some { heldSequence with state := .paused } := by decide

theorem witness_sequence_pauses :
    (withRecords [heldSequence] parked).find 201 = some heldSequence ∧ heldSequence.seq.isSome = true
      ∧ heldSequence.held = true ∧ heldSequence.state = .prewarn
      ∧ (withRecords [heldSequence] parked).motion.attemptsDue = 0 := by decide

/-- RDOOR opening at the end of its prewarn. -/
def warning : State := after (.move 9 4 500 2) parked

theorem witness_prewarn :
    ∃ e p r, warning.beacon.prewarn.find? (fun e => e.tag = 9) = some e ∧ e.timer = some p ∧ warning.find 9 = some r
      ∧ warning.motion.attemptsDue = 0 ∧ r.state = .prewarn ∧ r.axis = p.axis ∧ r.dir = p.dir
      ∧ interlocksPrewarnEnd warning r = true ∧ envelopeBlocked warning r.axis r.dir = false
      ∧ stripPressed warning r.axis = false
      ∧ ∀ o ∈ outputsOf r.axis,
        (warning.drive.out.get o).force.faultHold = false ∧ (warning.drive.out.get o).force.holdoff = false :=
  ⟨_, _, _, rfl, rfl, rfl, rfl, rfl, rfl, rfl, by decide, by decide, by decide, by decide⟩

/-- A granted SEQUENCE of two steps of RDOOR in PREWARN at one of them, with the road mark, RDOOR at 300; alone, and
with an envelope that lets RDOOR go no further. -/
def warnedSequence (index : Nat) (envelope : Bool) : State × Record :=
  let r : Record :=
    { doorMove .rdoor 9 with
      kind := .sequence, state := .prewarn, road := true
      seq := some
        { number := 1, index := index, claimed := ⟨false, false, false, false, true⟩, needsBank := false, limited := false
          pause := false, granted := true, formed := true } }
  let s := ((withRecords [r] parked).onAxis .rdoor (fun x => { x with position := some 300 })).onBeacon (fun b =>
    { b with prewarn := [⟨9, ⟨false, false, true, false⟩, some ⟨5, 2000, .rdoor, .inc⟩⟩] })
  ({ s with profile := { s.profile with
      sequences := [[⟨.rdoor, .absolute, 500, .normal⟩, ⟨.rdoor, .absolute, 0, .normal⟩]]
      envelopes := if envelope then [some ⟨.rdoor, .inc, .lift, 0, 1300, 300⟩] else [] } }, r)

/-- The failing ends of a prewarn: the interlock, the road mark, the strip, and the limit at the last step and before it,
with the next step that starts. -/
theorem witness_prewarn_fails :
    let pressed := warning.onPins (fun p => { p with filter := p.filter.set .edgeR ⟨true, none⟩ })
    let w (n : Nat) (b : Bool) := warnedSequence n b
    let brake (s : State) := s.onPins (fun p => { p with filter := p.filter.set .park ⟨false, none⟩ })
    ((brake warning).find 9).isSome = true ∧ interlocks (brake warning) .rdoor .inc .cab = false
      ∧ interlocks warning .rdoor .inc .cab = true ∧ stripPressed pressed .rdoor = true
      ∧ ((warning.onRecord 9 (fun r => { r with road := false })).find 9).any (fun r => r.road == false) = true
      ∧ ((w 1 true).1.find 9 = some (w 1 true).2 ∧ (w 1 true).2.state = .prewarn ∧ (w 1 true).2.axis = .rdoor
        ∧ (w 1 true).2.dir = .inc ∧ ((w 1 true).1.beacon.prewarn.find? (fun e => e.tag = 9)).isSome = true
        ∧ interlocks (w 1 true).1 .rdoor .inc .cab = true ∧ envelopeBlocked (w 1 true).1 .rdoor .inc = true
        ∧ envelopeBlocked (w 1 false).1 .rdoor .inc = false ∧ (stepsOf (w 2 true).1 1).length ≤ 2)
      ∧ (w 1 true).1.AloneWaits (w 1 true).2
      ∧ ∃ q ∈ (w 1 true).2.seq, ∃ x ∈ formStep (w 1 true).1
          { (w 1 true).2 with
            state := .waiting, pendingResult := none, waitReason := none, stall := none, overload := none
            currentSince := none, stripArmed := false
            seq := some { q with limited := true, index := 2, formed := false } }
          { q with limited := true, index := 2, formed := false }, (w 1 true).1.NextStarts (w 1 true).2 q true x := by
  decide

/-- KDOOR at 1000, from where 100 mm of reversal reach its travel high exactly. -/
def doorClosing : State :=
  let s := withRecords [doorMoving .dec] parked
  let s1 := (outputsOf .kdoor).foldl (claimOut 9) s
  s1.onAxis .kdoor (fun x => { x with position := some 1000 })

theorem witness_obstructed :
    (withRecords [doorMoving .inc] parked).mover .kdoor = some (doorMoving .inc)
      ∧ (withRecords [doorMoving .inc] parked).find 9 = some (doorMoving .inc) ∧ (doorMoving .inc).dir = .inc := by decide

theorem witness_reversal :
    doorClosing.motion.attemptsDue = 0 ∧ doorClosing.mover .kdoor = some (doorMoving .dec)
      ∧ doorClosing.find 9 = some (doorMoving .dec) ∧ (doorMoving .dec).reversing = false
      ∧ doorClosing.position .kdoor = some 1000
      ∧ withinDeadband doorClosing .kdoor 1000
        (envelopeClamp doorClosing .kdoor .inc (min (1000 + 100) (doorClosing.limits .kdoor).high)) = false
      ∧ envelopeBlocked doorClosing .kdoor .inc = false
      ∧ ∀ o ∈ outputsOf .kdoor, (doorClosing.drive.out.get o).claim = some 9
        ∧ (doorClosing.drive.out.get o).force.faultHold = false
        ∧ (doorClosing.drive.out.get o).force.holdoff = false := by decide

/-- RDOOR closes with one mark missing, and its strip is pressed for 20 ms. -/
theorem witness_strip :
    let r : Record :=
      { doorMove .rdoor 9 with state := .moving, dir := .dec, stripArmed := true, road := true, warned := false }
    let s := (withRecords [r] parked).onPins (fun p => { p with
      level := { p.level with input := p.level.input.set .edgeR true }
      filter := p.filter.set .edgeR ⟨false, some 980000⟩ })
    s.mover .rdoor = some r ∧ s.find 9 = some r ∧ (s.pins.filter.get .edgeR).since.isSome = true
      ∧ (s.pins.filter.get .edgeR).active = false ∧ s.pins.level.input.get .edgeR = true
      ∧ (s.position .rdoor).isSome = true ∧ ¬ (r.road = true ∧ r.warned = true) := by decide

/-! ### Witnesses: samples of a motion -/

/-- KDOOR in STARTING waits for its snapshot. -/
def starting : State := sampled .snapshot [{ doorMoving .inc with state := .starting }]

theorem witness_good : (sampled .synchronised [doorMoving .inc]).GoodSample .kdoor .synchronised 300 0 :=
  ⟨by decide, by decide, _, rfl, rfl, .inl ⟨rfl, by decide, by decide⟩⟩

theorem witness_good_snapshot : starting.GoodSample .kdoor .snapshot 300 0 :=
  ⟨by decide, by decide, _, rfl, rfl, .inl ⟨rfl, by decide, by decide⟩⟩

theorem witness_snapshot :
    starting.mover .kdoor = some { doorMoving .inc with state := .starting }
      ∧ starting.find 9 = some { doorMoving .inc with state := .starting } ∧ starting.faulted .kdoor = false
      ∧ (doorMoving .inc).claims .kdoor = true
      ∧ dualTrack starting.profile.calibration (.axis .kdoor) = none
      ∧ (starting.profile.calibration.channel.get (.axis .kdoor)).inRange (codeValue .unsigned 99) = false
      ∧ (starting.profile.calibration.channel.get (.axis .kdoor)).inRange (codeValue .unsigned 200) = true
      ∧ starting.withinMargin .kdoor (kdoorValue 200) ≠ kdoorValue 200
      ∧ (starting.sense.get (.axis .kdoor)).disagree < 2 := by decide

/-- The state with the park brake released. -/
def brakeOff (s : State) : State := s.onPins (fun p => { p with filter := p.filter.set .park ⟨false, none⟩ })

/-- The state with an envelope that stops an opening KDOOR at 0. -/
def walled (s : State) : State :=
  { s with profile := { s.profile with envelopes := [some ⟨.kdoor, .inc, .lift, 0, 1300, 0⟩] } }

/-- The hypotheses that every clause shares. -/
theorem witness_moving :
    let s := sampled .synchronised [doorMoving .inc]
    s.mover .kdoor = some (doorMoving .inc) ∧ s.find 9 = some (doorMoving .inc) ∧ s.motion.attemptsDue = 0
      ∧ (s.limits .kdoor).stepDown < 400 ∧ 200 ≤ (s.limits .kdoor).stepDown := by decide

theorem witness_moving_clauses :
    let s := sampled .synchronised [doorMoving .inc]
    let w := s.withPosition .kdoor 0
    interlocksMoving (brakeOff w) .kdoor .cab = false ∧ interlocksMoving w .kdoor .cab = true
      ∧ ¬ s.ArrivedAt (doorMoving .inc) 0 ∧ envelopeBlocked w .kdoor .inc = false
      ∧ envelopeBlocked (walled w) .kdoor .inc = true ∧ interlocksMoving (walled w) .kdoor .cab = true
      ∧ s.ArrivedAt (doorMoving .dec) 0 ∧ (sampled .synchronised [doorMoving .dec]).AloneWaits (doorMoving .dec)
      ∧ (doorMoving .inc).stall = none
      ∧ ((0 : Int) - 4).natAbs < (s.limits .kdoor).stall ∧ (s.limits .kdoor).stall ≤ ((0 : Int) - 5).natAbs
      ∧ 15 + 1000000 ≤ max s.clock (999990 + 25) ∧ max s.clock (999990 + 25) < 16 + 1000000
      ∧ s.faulted .kdoor = false := by decide

/-- A CAB SEQUENCE over the doors, held, at its first step, in a profile that has it. -/
def doorSequence (st : RecordState) (pause : Bool) : Record :=
  { doorMoving .dec with
    kind := .sequence, held := true, state := st, pendingResult := if st = .stopping then some .stopped else none
    dPrev := 200
    seq := some
      { number := 5, index := 1, claimed := ⟨false, false, false, true, true⟩, needsBank := false, limited := false
        pause := pause, granted := true, formed := true } }

/-- The state with SEQUENCE 5: KDOOR to 0, then RDOOR to 500. -/
def withDoors (s : State) : State :=
  { s with profile := { s.profile with
      sequences := s.profile.sequences.set 4 [⟨.kdoor, .absolute, 0, .normal⟩, ⟨.rdoor, .absolute, 500, .normal⟩] } }

theorem witness_stopping :
    let s (r : Record) := sampled .synchronised [r]
    let r (d : Nat) : Record := { doorMoving .inc with state := .stopping, pendingResult := some .stopped, dPrev := d }
    (s (r 201)).mover .kdoor = some (r 201) ∧ (s (r 201)).find 9 = some (r 201) ∧ (r 201).pendingResult = some .stopped
      ∧ (parked.limits .kdoor).stepDown < 201 ∧ 200 ≤ (parked.limits .kdoor).stepDown
      ∧ (s (doorSequence .stopping true)).mover .kdoor = some (doorSequence .stopping true)
      ∧ (s (doorSequence .stopping true)).find 9 = some (doorSequence .stopping true)
      ∧ (s (doorSequence .stopping true)).motion.attemptsDue = 0
      ∧ (doorSequence .stopping true).dPrev ≤ (parked.limits .kdoor).stepDown := by decide

/-! ### Witnesses: sequences -/

/-- An envelope stop of a reversal that reaches 0, of a MOVE and of a SEQUENCE; and the first update of one that has not. -/
theorem witness_reversal_stop :
    let s (r : Record) := sampled .synchronised [r]
    let r : Record :=
      { doorMoving .inc with state := .stopping, pendingResult := some .limited, reversing := true, dPrev := 200 }
    let q : Record := { doorSequence .stopping false with pendingResult := some .limited, reversing := true, dir := .inc }
    let moving : Record := { doorMoving .inc with reversing := true, dPrev := 400, target := 500 }
    (s r).mover .kdoor = some r ∧ (s r).find 9 = some r ∧ r.dPrev ≤ ((s r).limits .kdoor).stepDown
      ∧ (s q).mover .kdoor = some q ∧ (s q).find 9 = some q ∧ (∀ x ∈ q.seq, x.pause = false)
      ∧ (walled (s moving)).mover .kdoor = some moving ∧ ((s moving).limits .kdoor).stepDown < moving.dPrev
      ∧ envelopeBlocked (walled ((s moving).withPosition .kdoor 0)) .kdoor .inc = true
      ∧ ¬(walled (s moving)).ArrivedAt moving 0 := by decide

/-- R66, R82, R92: a reversal's envelope stop pends LIMITED from its first update on, and ends OBSTRUCTED. -/
theorem test_reversal_stop :
    let r (d : Nat) : Record := { doorMoving .inc with reversing := true, dPrev := d, target := 500 }
    let t (d : Nat) := after (.conversionComplete (.axis .kdoor) 300) (walled (sampled .synchronised [r d]))
    (t 400).motion.records.map (fun r => (r.state, r.pendingResult, r.dPrev)) = [(.stopping, some .limited, 200)]
      ∧ (t 200).link.notices.map (fun n => match n with
        | .recordEnd tag _ _ res _ _ => some (tag, res)
        | _ => none) = [some (9, .obstructed)] := by decide

/-- A PAUSED SEQUENCE at a step of the number 5, with the doors at a position. -/
def paused (index : Nat) : Record :=
  { doorSequence .paused false with
    seq := (doorSequence .paused false).seq.map (fun q => { q with index := index }) }

theorem witness_paused :
    let s := withDoors (withRecords [paused 2] parked)
    s.Hears ∧ s.find (9 : Byte).toNat = some (paused 2) ∧ (paused 2).source = .cab ∧ (paused 2).held = true
      ∧ (paused 2).state = .paused ∧ (paused 2).seq.isSome = true ∧ s.AloneWaits (paused 2) := by decide

/-- The formed step of a PAUSED SEQUENCE. -/
def resumes (s : State) (index : Nat) : Option Record :=
  (paused index).seq.bind (formStep s { paused index with state := .waiting, lastRefresh := s.clock })

/-- Each clause of a resume: a LEVEL step without pitch; interlocks that fail; the last step at its target; RDOOR with
its prewarn time; KDOOR without; and a budget just below the draw, and just enough. -/
theorem witness_resumes :
    let s := withDoors (withRecords [paused 2] parked)
    let level : State := { s with
      sense := { s.sense with pitch := { s.sense.pitch with healthy := false } }
      profile := { s.profile with sequences := s.profile.sequences.set 4 [⟨.tilt, .level, 0, .slow⟩, ⟨.tilt, .level, 0, .slow⟩] } }
    let there := s.onAxis .rdoor (fun x => { x with position := some 505 })
    let opened := s.onAxis .kdoor (fun x => { x with position := some 6 })
    resumes level 2 = none
      ∧ (∃ x ∈ resumes (brakeOff s) 2, interlocks (brakeOff s) x.axis x.dir x.source = false)
      ∧ (∃ x ∈ resumes there 2, interlocks there x.axis x.dir x.source = true ∧ (stepsOf there 5).length ≤ 2
        ∧ there.position x.axis = some 505 ∧ withinDeadband there x.axis 505 x.target = true)
      ∧ (∃ x ∈ resumes s 2, interlocks s x.axis x.dir x.source = true ∧ envelopeBlocked s x.axis x.dir = false
        ∧ s.position x.axis = some 0 ∧ withinDeadband s x.axis 0 x.target = false ∧ 0 < (s.limits x.axis).prewarn
        ∧ x.draw = 20 ∧ (x.needsBank = true → s.motion.bank = some 9))
      ∧ (∃ x ∈ resumes opened 1, interlocks opened x.axis x.dir x.source = true
        ∧ envelopeBlocked opened x.axis x.dir = false ∧ opened.position x.axis = some 6
        ∧ withinDeadband opened x.axis 6 x.target = false ∧ (opened.limits x.axis).prewarn = 0
        ∧ stripPressed opened x.axis = false)
      ∧ (s.drawSum + 20 ≤ (s.onMotion (fun m => { m with budget := 20 })).motion.budget
        ∧ (s.onMotion (fun m => { m with budget := 19 })).motion.budget < s.drawSum + 20) := by decide

/-- A step of the doors arrives with a step to follow, and with none; and one pending LIMITED comes to duty 0. -/
theorem witness_step_ends :
    let s (r : Record) := withDoors (sampled .synchronised [r])
    let r := doorSequence .moving false
    let last : Record := { r with seq := r.seq.map (fun q => { q with index := 2 }) }
    let w := (s r).withPosition .kdoor 0
    (s r).mover .kdoor = some r ∧ (s r).find 9 = some r ∧ (s r).AloneWaits r ∧ r.reversing = false
      ∧ interlocksMoving w .kdoor .cab = true ∧ (s r).ArrivedAt r 0 ∧ (stepsOf (s r) 5).length = 2
      ∧ (s last).mover .kdoor = some last ∧ (s last).find 9 = some last ∧ (s last).AloneWaits last
      ∧ (∃ q ∈ r.seq, ∃ x ∈ formStep w { r with state := .waiting, seq := some { q with index := 2, formed := false } }
          { q with index := 2, formed := false },
        interlocks w x.axis x.dir x.source = true ∧ envelopeBlocked w x.axis x.dir = false
          ∧ w.position x.axis = some 0 ∧ withinDeadband w x.axis 0 x.target = false
          ∧ (((s r).motion.records.filter (fun y => y.tag ≠ r.tag && y.charged)).map Record.draw).sum + x.draw
            ≤ (s r).motion.budget
          ∧ 0 < ((s r).limits x.axis).prewarn)
      ∧ (doorSequence .stopping true).dPrev ≤ ((s r).limits .kdoor).stepDown := by decide

/-- The stop of a step pending LIMITED reaches 0 with a step to follow; and so does the first update of an envelope stop, at
the last step too. -/
theorem witness_limited_steps :
    let s (r : Record) := withDoors (sampled .synchronised [r])
    let stops : Record := { doorSequence .stopping false with pendingResult := some .limited }
    let moves : Record := { doorSequence .moving false with dir := .inc, target := 500 }
    let w (r : Record) := (s r).withPosition .kdoor 0
    let last : Record := { moves with seq := moves.seq.map (fun q => { q with index := 2 }) }
    (s stops).mover .kdoor = some stops ∧ (s stops).find 9 = some stops ∧ (s stops).AloneWaits stops
      ∧ stops.reversing = false ∧ stops.dPrev ≤ ((s stops).limits .kdoor).stepDown
      ∧ (∃ q ∈ stops.seq, ∃ x ∈ formStep (w stops)
          { stops with
            state := .waiting, pendingResult := none, waitReason := none, stall := none, overload := none
            currentSince := none, stripArmed := false
            seq := some { q with limited := true, index := 2, formed := false } }
          { q with limited := true, index := 2, formed := false }, (w stops).NextStarts stops q true x)
      ∧ (walled (s moves)).mover .kdoor = some moves ∧ (walled (s moves)).find 9 = some moves
      ∧ (walled (s moves)).AloneWaits moves
      ∧ interlocksMoving (walled (w moves)) .kdoor .cab = true ∧ ¬(walled (s moves)).ArrivedAt moves 0
      ∧ envelopeBlocked (walled (w moves)) .kdoor .inc = true
      ∧ (∃ q ∈ moves.seq, ∃ x ∈ formStep (walled (w moves))
          { moves with
            state := .waiting, pendingResult := none, waitReason := none, stall := none, overload := none
            currentSince := none, stripArmed := false
            seq := some { q with limited := true, index := 2, formed := false } }
          { q with limited := true, index := 2, formed := false }, (walled (w moves)).NextStarts moves q true x)
      ∧ (∃ q ∈ last.seq, (stepsOf (walled (s last)) q.number).length ≤ q.index) := by decide

/-- A SEQUENCE of one step that stands at its target is complete at its grant. -/
theorem witness_step_at_grant :
    let p : PermMap := { Builtin.defaultPermissions with cab := ⟨.target, .target, .target, .target, .target⟩ }
    let s : State := { parked with profile := { parked.profile with
      permissions := p, sequences := [[⟨.kdoor, .absolute, 5, .normal⟩]] } }
    ∃ r, judgeRequest s { tag := some 9, source := .cab, station := none, demand := .sequence 1 false } = .accept r
      ∧ s.motion.records = [] ∧ s.motion.bank = none ∧ (r.needsBank = true → s.bankWithheld = false)
      ∧ r.draw ≤ s.motion.budget ∧ (∀ q ∈ r.seq, formStep s r q = some r) ∧ completeAtGrant s r = some .arrived
      ∧ (stepsOf s 1).length = 1 ∧ s.Hears :=
  ⟨_, rfl, rfl, rfl, by decide, by decide, by decide, by decide, by decide, by decide⟩

/-- The granted SEQUENCE 5, which waits for its budget, and the state that a battery sample reaches. -/
def shortSequence : Record :=
  { doorSequence .waiting false with waitReason := some .budget, dir := .inc, target := 500, dPrev := 0 }

def beforeSample : State := converting .battery .freeRunning none (withDoors (withRecords [shortSequence] parked))

/-- What a battery sample leaves of it: the records ended with their results, and the states of those that stand. -/
def batterySample (code : RawCode) (f : State → State) : List (Nat × Result) × List RecordState :=
  let t := after (.conversionComplete .battery code) (f beforeSample)
  (t.link.notices.filterMap (fun n => match n with
    | .recordEnd tag _ _ res _ _ => some (tag, res)
    | _ => none), t.motion.records.map Record.state)

/-- R40, R46, R104: with an interlock failed a sample at 24.0 V, whose budget suffices, ends the record INTERLOCK; with
none failed a sample at 21.0 V, whose budget is 0, lets it wait. -/
theorem test_waiting_interlock :
    (batterySample 2400 brakeOff, batterySample 2100 id) = (([(9, .interlock)], []), ([], [.waiting])) := by
  decide +kernel

/-- R104, R46: short of budget with an interlock failed, it ends as the free value says. -/
theorem test_short_interlock : failsWaiting (brakeOff beforeSample) shortSequence = Config.endsShortOfBudget := rfl

/-! ### Witnesses: drive outputs -/

/-- DO7 with a staged 400 pending. -/
def staged : State :=
  parked.onOut .do7 (fun r => { r with staged := 400, updatePending := true })

/-- The senses of sound readings on the bridge base. -/
def bridgeSenses : Readings := .bridge ⟨0, false⟩ ⟨0, true⟩ ⟨0, false⟩ ⟨0, false⟩

theorem witness_boundary :
    (∀ x ∈ sensesOf bridgeSenses, staged.ReadsSound x) ∧ staged.GuardRests ∧ staged.WatchRests bridgeSenses .kdoor
      ∧ staged.WatchRests bridgeSenses .rdoor ∧ staged.drive.out.do7.updatePending = true := by decide

/-- KDOOR opens, driven at 400, with its current watch in this state; DO7 reads `i`. -/
def driving (since : Option Nat) : State :=
  (withRecords [{ doorMoving .inc with currentSince := since }] parked).onOut .do7 (fun r =>
    { r with active := 400, claim := some 9, onTime := some 19900 })

def driven (i : Nat) : Readings := .bridge ⟨i, false⟩ ⟨0, false⟩ ⟨0, false⟩ ⟨0, false⟩

/-- A driven door reads the limit of 250; the boundary falls at 1,000,000. -/
theorem witness_current_low :
    let s := driving (some 5)
    s.BridgeSound (driven 250) ∧ (∀ b ∈ [Axis.kdoor, .rdoor], s.WatchRests (driven 250) b)
      ∧ s.comparesAt (driven 250) 9 = true ∧ (∃ x ∈ sensesOf (driven 250), x.1 = driveOutput .kdoor .inc)
      ∧ nextMultiple 50 s.drive.bridgeBase s.clock = 1000000 := by decide

/-- It reads one above the limit with the watch clear, running for just less than 100 ms and for 100 ms. -/
theorem witness_current_high :
    ∀ since ∈ [none, some 900001, some 900000],
      let r : Record := { doorMoving .inc with currentSince := since }
      (driving since).CurrentAbove .kdoor r (driven 251) ∧ (driving since).tags.Nodup
        ∧ (driving since).mover .kdoor = some r
        ∧ (driving since).find 9 = some r := by decide

/-- R89: what the watch makes of these readings. -/
theorem test_current :
    let t (since : Option Nat) (i : Nat) := (after (.periodBoundary (driven i)) (driving since)).motion.records
    (t (some 5) 250).map Record.currentSince = [none] ∧ (t none 251).map Record.currentSince = [some 1000000]
      ∧ (t (some 900001) 251).map Record.currentSince = [some 900001] ∧ t (some 900000) 251 = [] := by decide

/-- R145: a half that a force takes from its duty after its high gate was on reads its current at the boundary, and one
that it takes before reads off. -/
theorem test_forced_reading :
    let s (base : Nat) := forceFault ((driving none).onDrive (fun d => { d with bridgeBase := base })) .do7
    let t (base : Nat) := (after (.periodBoundary (driven 77)) (s base)).drive.out.do7.reading
    (t 999975, t 999985) = (77, 0) := by decide

/-- The valve base with DO3 on at a threshold of its class, in its hit's 18th and 19th boundary and with a staging. -/
theorem witness_valve_boundary :
    let s (n : Nat) (up : Bool) := parked.onOut .do3 (fun r =>
      { r with active := 1000, phase := .hit, hitCount := n, updatePending := up, hitMark := up })
    let p : Readings := .valve ⟨0, false⟩ ⟨0, false⟩ ⟨2, false⟩ ⟨0, false⟩ ⟨0, false⟩ ⟨0, false⟩
    (∀ x ∈ sensesOf p, (s 18 false).ReadsSound x) ∧ (∀ x ∈ sensesOf p, (s 19 false).ReadsSound x)
      ∧ (∀ x ∈ sensesOf p, (s 0 true).ReadsSound x) := by decide

/-- A lamp that is dark and was dark has not conducted. -/
theorem not_onBy_of_dark (base t : Nat) (r : LampRecord) (h : r.duty = 0) (h1 : r.conducted = false) :
    ¬r.OnBy base t := by
  rintro (h2 | ⟨_, -, h2⟩)
  · simp [h1] at h2
  · simp [h, lampOnAt, lampCompare, centred] at h2
    omega

theorem witness_lamp_boundary :
    let s := parked.onLampOut .b1 (fun r => { r with duty := 250 })
    (∀ x ∈ lampSensesOf (.lamp ⟨0, false⟩ ⟨60, false⟩ ⟨0, true⟩ ⟨0, false⟩), s.LampReadsSound x)
      ∧ s.LampConducted .b1 ∧ ¬s.LampConducted .b2 := by
  refine ⟨?_, .inr ⟨3000, by decide, by decide⟩, not_onBy_of_dark _ _ _ rfl rfl⟩
  intro x hx
  simp only [lampSensesOf, List.mem_cons, List.not_mem_nil, or_false] at hx
  rcases hx with rfl | rfl | rfl | rfl
  · exact fun h => absurd h (not_onBy_of_dark _ _ _ rfl rfl)
  · exact fun _ => by decide
  · exact fun h => absurd h (not_onBy_of_dark _ _ _ rfl rfl)
  · exact fun h => absurd h (not_onBy_of_dark _ _ _ rfl rfl)

/-- R145, R150: a dimmed lamp lit at tick 2,500 of its lamp period has not conducted by its end, and one lit before has. -/
theorem test_lamp_lit_late :
    let r (from_ : Nat) : LampRecord := { LampRecord.reset with duty := 250, drivenFrom := 5000 + from_ }
    ((r 625).conductedBy 5000 6000, (r 624).conductedBy 5000 6000) = (false, true) := by decide

theorem witness_hit :
    let s := parked.onOut .do3 (fun r => { r with phase := .hit, active := 1000, hitCount := 19 })
    isDirectional .do3 = true ∧ (s.drive.out.get .do3).phase = .hit
      ∧ (s.drive.out.get .do3).updatePending = false := by decide

/-- Both halves of KDOOR's bridge are staged at once. -/
theorem witness_bridge :
    let s := staged.onOut .do8 (fun r => { r with staged := 1, updatePending := true })
    (s.drive.out.get .do7).newlyOn = true ∧ (s.drive.out.get .do8).nextOn = true
      ∧ (s.drive.out.get .do8).newlyOn = true ∧ (s.drive.out.get .do7).active = 0
      ∧ exec (.periodBoundary bridgeSenses) s = .next (after (.periodBoundary bridgeSenses) s) :=
  ⟨by decide, by decide, by decide, by decide, rfl⟩

/-- An output of each class at the first on-time and the first reading that count. -/
theorem witness_short :
    let s := (parked.onOut .do0 (fun r => { r with active := 866, onTime := some 19000 })).onOut .do7 (fun r =>
      { r with active := 400, onTime := some 19950 })
    conducts .do0 (s.drive.out.get .do0).active = true ∧ s.drive.out.do0.onTime = some 19000
      ∧ 20000 ≤ 19000 + periodTime .do0 ∧ (thresholdsOf .do0).2 < 2501 ∧ s.WatchedAlone .do0
      ∧ (DriveOut.do0, (⟨2501, false⟩ : Sense)) ∈ sensesOf (.pump ⟨2501, false⟩)
      ∧ conducts .do7 (s.drive.out.get .do7).active = true ∧ 20000 ≤ 19950 + periodTime .do7
      ∧ (thresholdsOf .do7).2 < 401 ∧ s.WatchedAlone .do7 ∧ s.faulted .lift = false ∧ s.faulted .kdoor = false := by
  decide

/-- DO3 in its window with counts of 1 and 2, and DO7 with its Dmin timer at 200 ms. -/
theorem witness_open :
    let s := (parked.onOut .do3 (fun r => { r with active := 600, phase := .hold, onTime := some 15000, openCount := 1 })).onOut
      .do7 (fun r => { r with active := 200, dminTimer := some 199950, openCount := 2 })
    conducts .do3 600 = true ∧ (s.drive.out.get .do3).onTime = some 15000 ∧ 20000 ≤ 15000 + periodTime .do3
      ∧ dminOf s .do3 = none ∧ 1 < (thresholdsOf .do3).1 ∧ (s.drive.out.get .do3).openCount < 2
      ∧ conducts .do7 200 = true ∧ (s.drive.out.get .do7).dminTimer = some 199950
      ∧ 200000 ≤ 199950 + periodTime .do7 ∧ (∀ d ∈ dminOf s .do7, d ≤ 200) ∧ 4 < (thresholdsOf .do7).1
      ∧ 4 ≤ s.profile.limits.doorCurrent ∧ 2 ≤ (s.drive.out.get .do7).openCount := by decide

theorem witness_lamp_reading :
    let s := parked.onLampOut .b1 (fun r => { r with duty := 1000, onTime := some 19000, openCount := 2 })
    s.LampConducted .b1 ∧ (s.drive.lamp.get .b1).onTime = some 19000 ∧ 20000 ≤ 19000 + 1000
      ∧ (Lamp.b1, (⟨61, false⟩ : Sense)) ∈ lampSensesOf (.lamp ⟨0, false⟩ ⟨61, false⟩ ⟨0, false⟩ ⟨0, false⟩)
      ∧ (∀ y ∈ lampSensesOf (.lamp ⟨0, false⟩ ⟨61, false⟩ ⟨0, false⟩ ⟨0, false⟩), y.1 ≠ .b1 → s.LampReadsSound y)
      ∧ 2 ≤ (s.drive.lamp.get .b1).openCount ∧ s.lampFaulted .b1 = false := by
  refine ⟨.inr ⟨0, by decide, by decide⟩, by decide, by decide, by decide, ?_, by decide, by decide⟩
  intro y hy hne
  simp only [lampSensesOf, List.mem_cons, List.not_mem_nil, or_false] at hy
  rcases hy with rfl | rfl | rfl | rfl
  · exact fun h => absurd h (not_onBy_of_dark _ _ _ rfl rfl)
  · exact absurd rfl hne
  · exact fun h => absurd h (not_onBy_of_dark _ _ _ rfl rfl)
  · exact fun h => absurd h (not_onBy_of_dark _ _ _ rfl rfl)

/-- A pump pin that is high with its output off: no third mismatch at counts 0 and 1, and a third one at 2. -/
theorem witness_echo :
    let s (n : Nat) := parked.onOut .do0 (fun r => { r with echoCount := n })
    (∀ x ∈ pinsOf (.pump true), ¬ (s 1).ThirdMismatch x) ∧ (s 2).ThirdMismatch (.do0, true)
      ∧ (∀ y ∈ pinsOf (.pump true), y.1 ≠ DriveOut.do0 → ¬ (s 2).ThirdMismatch y) ∧ (s 2).faulted .tilt = false
      ∧ (s 2).centreCommand .do0 = some false := by decide

/-- A bridge half is not compared at compare values from 1 to 16, and is at 0 and 17. -/
theorem witness_echo_bridge :
    [0, 5, 80, 85].map (fun d => (parked.onOut .do7 (fun r => { r with active := d })).centreCommand .do7)
      = [some false, none, none, some true] := by decide

theorem witness_echo_lamp :
    let s (n : Nat) := parked.onLampOut .b1 (fun r => { r with echoCount := n })
    (∀ x ∈ lampPinsOf (.lamp false true false false), ¬ (s 1).ThirdLampMismatch x)
      ∧ (s 2).ThirdLampMismatch (.b1, true)
      ∧ (∀ y ∈ lampPinsOf (.lamp false true false false), y.1 ≠ Lamp.b1 → ¬ (s 2).ThirdLampMismatch y)
      ∧ (s 2).lampFaulted .b1 = false := by decide

/-- DO7 at compare value 100, at its period centre: its high gate is on. -/
theorem witness_gate_force :
    let s : State := (parked.onOut .do7 (fun r => { r with active := 500 })).onDrive (fun d => { d with bridgeBase := 999975 })
    isBridge .do7 = true ∧ (s.drive.out.get .do7).gate .do7 (8 * s.clock) (phaseAt .do7 s.drive.bridgeBase s.clock) = .high
      ∧ (parked.drive.out.get .do7).active = 0 ∧ ((heldOff parked).onOut .do7 (fun r =>
        { r with force := { r.force with holdoff := true } })).drive.out.do7.force.holdoff = true := by decide

theorem witness_gates : (0 ≤ 200) ∧ (1 ≤ 1 ∧ 7 ≤ 7) ∧ (8 ≤ 8 ∧ 191 ≤ 191) ∧ (192 ≤ 192 ∧ 199 ≤ 199) ∧ 200 ≤ 200
    ∧ DriveOut.do6 ∈ driveOuts.filter (fun o => o ≠ .do0 ∧ isBridge o = false) ∧ 330 ≤ 330 ∧ 334 ≤ 334 := by
  decide

theorem witness_approach :
    (granted.limits liftJog.axis).dmin ≤ dmax granted liftJog.axis liftJog.speed ∧ (600 : Int) ≤ (600 : Nat)
      ∧ ((600 : Nat) : Int) < 601 := by decide

/-- LIFT at the approach distance of 120 and 1 below it, where the taper is 200 + 800 · 119 / 120 = 993 truncated; and
DECREASING at the reference pressure of 600 and above it. -/
theorem witness_taper :
    let l := parked.limits .lift
    let r : Record := { liftJog with target := 720 }
    l.dmin ≤ l.dmaxNormal ∧ r.speed = .normal ∧ l.approach ≤ (r.target - 600).natAbs
      ∧ (r.target - 601).natAbs < l.approach
      ∧ (993 - l.dmin) * l.approach ≤ (l.dmaxNormal - l.dmin) * 119
      ∧ (l.dmaxNormal - l.dmin) * 119 < (993 - l.dmin + 1) * l.approach
      ∧ (([600, 601] : List Int).all fun v =>
        (parked.onChannel .pressure (fun ch => { ch with value := some v })).sense.pressure.value == some v) = true
      ∧ (600 : Int) ≤ parked.profile.limits.pRef ∧ (parked.profile.limits.pRef : Int) < 601 := by decide

/-- R76: the same taper as a duty, and at the distance itself the full duty, for a record whose ramp is over. -/
theorem test_taper :
    let r : Record := { liftJog with target := 720, dPrev := 1000 }
    (dutyFor parked r 600, dutyFor parked r 601, dutyFor parked r 720) = (1000, 993, 200) := by decide

/-! ### Witnesses: notices and beacons -/

theorem witness_notices_full :
    16 ≤ (parked.onLink (fun l => { l with notices := List.replicate 16 .vehicleMoving })).link.notices.length := by decide

/-- The lamps with an override on B1. -/
def overridden (p : OverridePattern) (n : Option Nat) : State :=
  parked.onLamp .b1 (fun b => { b with override := some ⟨p, n⟩, pulse := 3, shown := true })

theorem witness_lamp_levels :
    (heldOff parked).pins.holdoff = true
      ∧ (parked.pins.holdoff = false ∧ (latched parked).motion.estop = true)
      ∧ (State.reset.store.mode = .loading ∧ State.reset.beacon.test = .notRun)
      ∧ (warning.store.mode = .run ∧ inPrewarn warning .b2 = true)
      ∧ (inPrewarn parked .b2 = false
        ∧ (parked.onAxis .rdoor (fun x => { x with position := some 6 })).doorOpen .rdoor = true)
      ∧ ((parked.onPins (fun p => { p with movingEdge := some 1 })).vehicleMoving = true ∧ parked.stowed = false)
      ∧ (parked.doorOpen .rdoor = false ∧ parked.vehicleMoving = false
        ∧ (parked.beacon.channel.get .b1).override = none)
      ∧ ((overridden .on none).beacon.channel.get .b1).override = some ⟨.on, none⟩
      ∧ ((overridden .stretch (some 2)).beacon.channel.get .b1).override = some ⟨.stretch, some (0 + 2)⟩
      ∧ ((overridden .off (some 1)).beacon.channel.get .b1).override = some ⟨.off, some 1⟩
      ∧ (State.reset.onStore (fun st => { st with mode := .lampTest })).store.mode ≠ .loading
      ∧ ((overridden .blink none).store.mode = .run ∧ inPrewarn (overridden .blink none) .b1 = false) := by decide

theorem witness_lamp_test :
    (parked.onBeacon (fun b => { b with test := .running 999 })).beacon.test = .running 999
      ∧ (parked.onBeacon (fun b => { b with test := .running 1000 })).beacon.test = .running 1000
      ∧ (parked.onStore (fun st => { st with mode := .lampTest })).store.mode = .lampTest := by decide

/-- B3 in its stretch with no condition, under its configuration; and B1 in an override's pulse. -/
theorem witness_beacon_timers :
    let s := { parked with profile := { parked.profile with beacons := { parked.profile.beacons with
      channel := parked.profile.beacons.channel.set .b3 ⟨.off, .off, false, .stretch⟩ } } }
    let s1 := s.onLamp .b3 (fun b => { b with stretch := 100 })
    0 < (s1.beacon.channel.get .b3).stretch ∧ stretchCondition s1 .b3 = false
      ∧ 0 < ((overridden .stretch none).beacon.channel.get .b1).pulse
      ∧ ((overridden .stretch (some 5)).beacon.channel.get .b1).override = some ⟨.stretch, some 5⟩ := by decide

/-! ### Witnesses: the crew bus -/

theorem witness_station :
    busReceives parked = true ∧ (parked.station (3 : BitVec 4).toNat).map StationRecord.role = some .rear
      ∧ (parked.station (4 : BitVec 4).toNat).map StationRecord.role = some .kerb
      ∧ clearAllowed (latched parked) = true
      ∧ clearAllowed (latched (parked.onStation 4 (fun st => { st with lastSet := buttonSet 1 }))) = false
      ∧ parked.link.notices.length < 16 := by decide

/-- Station 6 with these buttons held and this tag on button 1. -/
def pressing (old : Byte) (tag : Option Nat) (l : List Record) : State :=
  (withRecords l parked).onStation 6 (fun st => { st with lastSet := buttonSet old, tags := st.tags.set .b1 tag })

/-- The JOG of station 6 that button 1 made. -/
def roadJog (st : RecordState) : Record :=
  { doorMove .rdoor 200 with source := .road, station := some 6, kind := .jog, held := true, state := st, dPrev := 400 }

/-- Each clause: a release, a refresh, presses of JOG, UNUSED and STOP, and an opposite pair. -/
theorem witness_hold_list :
    let only (n : PerButton Bool) (b : Button) : Prop := ∀ c ∈ buttons, n.get c = decide (c = b)
    let s := pressing 1 (some 200) [roadJog .moving]
    (∃ st, s.station (6 : BitVec 4).toNat = some st ∧ only st.lastSet .b1 ∧ st.tags.get .b1 = some 200
        ∧ st.refused.get .b1 = false ∧ st.releasePending = false ∧ st.function.get .b1 = .jog .rdoor .inc .normal
        ∧ st.function.get .b2 = .jog .rdoor .dec .normal ∧ (st.tags.get .b2).bind s.find = none
        ∧ st.function.get .b3 = .unused ∧ st.function.get .b6 = .stop)
      ∧ busReceives s = true ∧ s.motion.attemptsDue = 0 ∧ s.find 200 = some (roadJog .moving)
      ∧ (roadJog .moving).dPrev ≠ 0 ∧ (buttonSet 0).empty = true ∧ only (buttonSet 1) .b1
      ∧ (pressing 1 (some 200) [roadJog .waiting]).find 200 = some (roadJog .waiting)
      ∧ (∀ x ∈ buttons, (buttonSet 3).get x = decide (x = .b1 ∨ x = .b2))
      ∧ (buttonSet 0).empty = true ∧ only (buttonSet 4) .b3 ∧ only (buttonSet 32) .b6 ∧ s.tags.Nodup := by
  refine ⟨⟨_, rfl, ?_⟩, ?_⟩ <;> decide

/-- Station 6 lets go of button 1, whose record is a JOG or a SEQUENCE of a door, in each state that R108 names. -/
theorem witness_hold_lets_go :
    let s (r : Record) : State := pressing 1 (some 200) [r]
    let jog (st : RecordState) (d : Nat) : Record := { roadJog st with dPrev := d }
    let seq (st : RecordState) (d : Nat) : Record :=
      { doorSequence st false with tag := 200, source := .road, station := some 6, dPrev := d }
    let fresh : Record := { seq .waiting 0 with seq := (seq .waiting 0).seq.map (fun q => { q with granted := false }) }
    let limited : Record := { seq .stopping 400 with pendingResult := some .limited }
    let reversing : Record := { seq .starting 0 with reversing := true }
    (∀ r ∈ [jog .waiting 0, jog .prewarn 0, jog .starting 0, jog .moving 400, seq .waiting 0, fresh, seq .prewarn 0,
        seq .starting 0, seq .moving 400, limited, reversing, seq .paused 0],
      (s r).find 200 = some r ∧ (s r).tags.Nodup ∧ (s r).motion.attemptsDue = 0 ∧ r.held = true)
      ∧ (jog .moving 400).seq = none ∧ (∀ q ∈ fresh.seq, q.granted = false) ∧ reversing.reversing = true
      ∧ ∀ q ∈ (seq .waiting 0).seq, q.granted = true := by decide

/-- A SEQUENCE that its button lets go pauses before a duty is staged, and a JOG ends. -/
theorem test_hold_lets_go :
    let t (r : Record) : State := after (.holdFrame 6 15 0) (pressing 1 (some 200) [r])
    ((t { doorSequence .starting false with tag := 200, dPrev := 0 }).find 200).map Record.state = some .paused
      ∧ (t { roadJog .starting with dPrev := 0 }).find 200 = none := by decide

theorem witness_hold_press :
    let s := pressing 0 none []
    let rq : Request := { tag := none, source := .road, station := some 6, demand := .jog .rdoor .inc .normal }
    (∃ e, judgeRequest (brakeOff s) rq = .refuse e)
      ∧ (∃ r, judgeRequest s rq = .accept r ∧ r.draw ≤ s.motion.budget ∧ completeAtGrant s r = none
        ∧ s.motion.records = [] ∧ s.motion.bank = none ∧ isHydraulic .rdoor = false ∧ 0 < (s.limits .rdoor).prewarn)
      ∧ ((s.onStation 6 (fun st => { st with releasePending := true })).station 6).any
        (fun st => st.releasePending) = true :=
  ⟨⟨_, rfl⟩, ⟨_, rfl, by decide, by decide, rfl, rfl, rfl, by decide⟩, by decide⟩

/-- Station 2 presses the button of SEQUENCE 2: refused without the foot switch, accepted with it, and under release
pending. -/
theorem witness_hold_sequence :
    let rq : Request := { tag := none, source := .rear, station := some 2, demand := .sequence 2 true }
    let foot := parked.onPins (fun p => { p with filter := p.filter.set .foot ⟨true, none⟩ })
    let pends := parked.onStation 2 (fun st => { st with releasePending := true })
    (∃ st, parked.station (2 : BitVec 4).toNat = some st ∧ st.function.get .b3 = .seq 2 ∧ st.lastSet.empty = true
        ∧ st.releasePending = false ∧ st.tags.get .b3 = none ∧ st.role = .rear)
      ∧ (∃ e, judgeRequest parked rq = .refuse e)
      ∧ (∃ r, judgeRequest foot rq = .accept r ∧ r.draw ≤ foot.motion.budget
        ∧ (∀ q ∈ r.seq, formStep foot r q = some r) ∧ completeAtGrant foot r = none
        ∧ 0 < (foot.limits r.axis).prewarn ∧ r.needsBank = true)
      ∧ foot.bankWithheld = false ∧ (pends.station 2).any (fun st => st.releasePending) = true := by
  refine ⟨⟨_, rfl, ?_⟩, ⟨_, rfl⟩, ⟨_, rfl, ?_⟩, ?_⟩ <;> decide

/-- Station 2 holds the button of its PAUSED SEQUENCE 2, or presses it again. -/
theorem witness_hold_resume :
    let r : Record := { heldSequence with state := .paused, tag := 201, station := some 2 }
    let s (old : Byte) := (withRecords [r] parked).onStation 2 (fun st =>
      { st with lastSet := buttonSet old, tags := st.tags.set .b3 (some 201) })
    (∃ st, (s 4).station (2 : BitVec 4).toNat = some st ∧ st.function.get .b3 = .seq 2 ∧ st.tags.get .b3 = some 201
        ∧ st.refused.get .b3 = false ∧ st.releasePending = false
        ∧ ∀ c ∈ buttons, st.lastSet.get c = decide (c = .b3))
      ∧ (s 4).find 201 = some r ∧ r.seq.isSome = true ∧ (s 4).AloneWaits r ∧ (s 0).AloneWaits r
      ∧ ∀ c ∈ buttons, (buttonSet 4).get c = decide (c = .b3) := by
  refine ⟨⟨_, rfl, ?_⟩, ?_⟩ <;> decide

/-- R164: a good HALT frame with bits of a further byte before its STOP has no effect. -/
theorem test_partial_byte :
    (after (.crewFrameDiscard ⟨CrewFrame.bytes ⟨3, 0, .halt⟩, 1⟩) parked).motion.estop = false
      ∧ (after (.crewFrameDiscard ⟨CrewFrame.bytes ⟨3, 0, .halt⟩, 0⟩) parked).motion.estop = true := by decide

theorem witness_frames :
    crewFrameOf [] = none ∧ 1 ≠ 0 ∧ crewFrameOf (CrewFrame.bytes ⟨15, 2, .lamps 0 0⟩) = some ⟨15, 2, .lamps 0 0⟩
      ∧ crewFrameOf (CrewFrame.bytes ⟨15, 0, .halt⟩) = some ⟨15, 0, .halt⟩
      ∧ crewFrameOf (CrewFrame.bytes ⟨9, 15, .clear⟩) = some ⟨9, 15, .clear⟩ ∧ parked.station 9 = none
      ∧ crewFrameOf (CrewFrame.bytes ⟨3, 7, .hold 1⟩) = some ⟨3, 7, .hold 1⟩ := by decide

theorem witness_bus :
    parked.crew.bus = .idle ∧ (parked.onCrew (fun c => { c with bus := .backoff })).crew.bus = .backoff
      ∧ (parked.onCrew (fun c => { c with inFrame := true })).crew.inFrame = true
      ∧ (parked.onCrew (fun c => { c with bus := .backoff })).crew.inFrame = false
      ∧ parked.crew.lampsTick = some 900000 := by decide

theorem witness_station_timers :
    ∃ st, (parked.onStation 2 (fun st => { st with silence := some 5, clearRefused := some 5 })).station 2 = some st
      ∧ st.silence = some 5 ∧ st.clearRefused = some 5 := ⟨_, rfl, rfl, rfl⟩

/-- Each case of R173 for the JOG button 1 and the UNUSED and STOP buttons of station 6, and for a SEQ button. -/
theorem witness_lamp_table :
    let s (st : RecordState) := pressing 1 (some 200) [roadJog st]
    let jog (x : StationRecord) : Prop := x.function.get .b1 = .jog .rdoor .inc .normal
    (∃ x, (s .moving).station 6 = some x ∧ jog x ∧ x.function.get .b3 = .unused ∧ x.function.get .b6 = .stop
        ∧ x.clearRefused = none ∧ x.tags.get .b1 = some 200 ∧ (s .moving).find 200 = some (roadJog .moving)
        ∧ (s .waiting).find 200 = some (roadJog .waiting) ∧ parked.find 200 = none ∧ x.refused.get .b1 = false)
      ∧ ((parked.onStation 6 (fun x => { x with refused := x.refused.set .b1 true, clearRefused := some 5 })).station 6).any
        (fun x => x.refused.get .b1 && x.clearRefused.isSome) = true
      ∧ (latched parked).motion.estop = true
      ∧ mayHold parked .road .rdoor = true ∧ parked.faulted .rdoor = false ∧ (faultOn .rdoor parked).faulted .rdoor = true
      ∧ mayHold parked .road .lift = false
      ∧ (parked.station 2).any (fun x => x.function.get .b3 == .seq 2) = true
      ∧ (stepsOf parked 2).map Step.axis = [.lift, .tilt] := by
  refine ⟨⟨_, rfl, ?_⟩, ?_⟩ <;> decide

theorem witness_lamps_due :
    ∃ st, (lampsDue parked).crew.stations.find? (fun x => x.lampsDue) = some st ∧ st.address = 2 := ⟨_, rfl, rfl⟩

theorem witness_lamps_sending :
    let s := startLamps (freshStation ⟨2, .rear, ⟨.jog .fold .dec .normal, .seq 1, .seq 2, .seq 3, .seq 4, .stop⟩⟩) parked
    s.crew.bus = .transmitting ∧ s.crew.sending.isSome = true := by decide

theorem witness_stuck : granted.crew.bus ≠ .stuck ∧ granted.tags.Nodup
    ∧ (after .busStuck parked).crew.bus = .stuck ∧ (after .busStuck parked).link.notices.length < 16 := by decide

theorem witness_changed_byte :
    crewFrameOf (CrewFrame.bytes ⟨2, 15, .hold 3⟩) = some ⟨2, 15, .hold 3⟩
      ∧ (CrewFrame.bytes ⟨2, 15, .hold 3⟩).set 3 0 ≠ CrewFrame.bytes ⟨2, 15, .hold 3⟩ := by decide

/-! ### Witnesses: the host link -/

/-- The receiver inside a frame, its last character having ended at a clock value. -/
def inside (taken : List Byte) (last : Nat) : State := parked.onLink (fun l => { l with framing := .inside taken last })

/-- The last moment of the gap, and the first after it. -/
theorem witness_bad_frames :
    (1 : Byte).toNat < 2 ∧ 60 < (61 : Byte).toNat ∧ parked.link.restarting = false
      ∧ (inside [] 999133).link.framing = .inside [] 999133 ∧ (inside [] 999133).clock ≤ 999133 + 867
      ∧ 999132 + 867 < (inside [] 999132).clock ∧ 2 ≤ (2 : Byte).toNat ∧ (60 : Byte).toNat ≤ 60
      ∧ (inside [2, 1] 999133).link.framing = .inside [2, 1] 999133 ∧ [(1 : Byte)].length < (2 : Byte).toNat
      ∧ (inside [2, 1, 7] 999133).link.framing = .inside [2, 1, 7] 999133 ∧ (2 : Byte).toNat ≤ [(1 : Byte), 7].length
      ∧ (0 : Byte) ≠ checkOf [2, 1, 7] ∧ parked.link.framing = .hunting := by decide

/-- R188: a fifth frame while a RESTART waits. -/
theorem witness_restarting_full :
    let s := parked.onLink (fun l => { l with restarting := true, fifo := List.replicate 4 ⟨0x09, 1, .ok, []⟩ })
    s.link.restarting = true ∧ 4 ≤ s.link.fifo.length ∧ (after .frameOverrun s).link.overrun = false := by decide

/-- A RESTART has been accepted: a good frame as its row, and as the last character of one. -/
theorem witness_restarting :
    let s := (inside [2, 1, 7] 999133).onLink (fun l => { l with restarting := true })
    s.link.restarting = true ∧ requestOf (.status 7) = some (0x01, 7, []) ∧ s.link.framing = .inside [2, 1, 7] 999133
      ∧ s.clock ≤ 999133 + 867 ∧ (2 : Byte).toNat ≤ [(1 : Byte), 7].length := by decide

theorem witness_fifo :
    let r : Reply := ⟨0x01, 1, .ok, []⟩
    4 ≤ (parked.onLink (fun l => { l with fifo := [r, r, r, r] })).link.fifo.length ∧ parked.Hears
      ∧ 20 < (21 : Byte).toNat ∧ (parked.onLink (fun l => { l with fifo := [r] })).link.fifo = [r] := by decide

theorem witness_request : requestOf (.queryAxis 7 4) = some (0x02, 7, [4]) ∧ [(4 : Byte)].length ≤ 58
    ∧ parked.link.framing = .hunting := by decide

theorem witness_bad_length : ∀ c, requestOf c ≠ some (0x01, 7, [0]) := by
  intro c
  cases c <;> simp [requestOf]

theorem witness_query : (4 : Byte).toNat = axisNumber .rdoor ∧ 5 ≤ (5 : Byte).toNat ∧ parked.Hears := by decide

/-- A RESTART waits behind another reply, and none waits: neither REPLY_SENT resets. -/
theorem witness_reply_sent :
    let r : Reply := ⟨0x01, 1, .ok, []⟩
    let s (w : Bool) (l : List Reply) := parked.onLink (fun x => { x with restarting := w, fifo := l })
    Instr.replySent ≠ .powerOnReset ∧ (s true [r, r]).link.fifo.length ≠ 1 ∧ (s false [r]).link.restarting = false
      ∧ exec .replySent (s true [r, r]) = .next (s true [r]) :=
  ⟨by decide, by decide, rfl, rfl⟩

/-! ### Witnesses: requests -/

/-- The request of a CAB MOVE of RDOOR to 500. -/
def moveRequest : Request := { tag := some 9, source := .cab, station := none, demand := .move .rdoor 500 .normal }

/-- The request of a CAB MOVE of KDOOR to 500. -/
def kdoorRequest (n : Nat) : Request := { tag := some n, source := .cab, station := none, demand := .move .kdoor 500 .normal }

theorem witness_move_accepted :
    ∃ r, judgeRequest parked moveRequest = .accept r ∧ parked.motion.records = [] ∧ parked.motion.bank = none
      ∧ r.draw ≤ parked.motion.budget ∧ completeAtGrant parked r = none ∧ 0 < (parked.limits .rdoor).prewarn
      ∧ (∃ x, judgeRequest parked (kdoorRequest 9) = .accept x ∧ (parked.limits .kdoor).prewarn = 0
        ∧ stripPressed parked .kdoor = false) :=
  ⟨_, rfl, rfl, rfl, by decide, by decide, by decide, _, rfl, by decide, by decide⟩

theorem witness_move_fields : axisOf (4 : Byte).toNat = some .rdoor ∧ speedOf (2 : Byte).toNat = some .normal
    ∧ dirOf (1 : Byte).toNat = some .inc ∧ (500 : Half).toInt = 500 ∧ 1 ≤ (199 : Byte).toNat ∧ (199 : Byte).toNat ≤ 199 := by
  decide

theorem witness_conditions :
    State.reset.store.mode ≠ .run
      ∧ (parked.onStore (fun st => { st with commit := .erase })).store.commit ≠ .idle
      ∧ (heldOff parked).pins.holdoff = true ∧ (latched parked).motion.estop = true
      ∧ (parked.onMotion (fun m => { m with supply := .cut })).motion.supply = .cut
      ∧ parked.store.mode = .run ∧ parked.store.commit = .idle := by decide

/-- Checks 6 to 12 of a MOVE of KDOOR, one after another. -/
theorem witness_checks :
    let taken (r : Record) := withRecords [{ r with tag := 10 }] parked
    judgeRequest parked { moveRequest with demand := .move .lift 500 .normal } = .refuse .notPermitted
      ∧ judgeRequest (faultOn .kdoor parked) (kdoorRequest 9) = .refuse .faulted
      ∧ judgeRequest (taken (doorMove .rdoor 10)) (kdoorRequest 10) = .refuse .dupTag
      ∧ judgeRequest (taken { doorMove .kdoor 10 with station := some 4 }) (kdoorRequest 9) = .refuse .owned
      ∧ judgeRequest (taken (doorMoving .inc)) (kdoorRequest 9) = .refuse .committed
      ∧ judgeRequest (brakeOff parked) (kdoorRequest 9) = .refuse .interlock
      ∧ judgeRequest (walled parked) (kdoorRequest 9) = .refuse .envelope := by decide

/-- With TARGET for CAB on every axis, the same checks for SEQUENCE 5 over the doors, and a LEVEL step that cannot be
formed. -/
theorem witness_sequence_checks :
    let p : PermMap := { Builtin.defaultPermissions with cab := ⟨.target, .target, .target, .target, .target⟩ }
    let s := withDoors { parked with profile := { parked.profile with permissions := p } }
    let rq : Request := { kdoorRequest 9 with demand := .sequence 5 false }
    let level : State := { s with
      sense := { s.sense with pitch := { s.sense.pitch with healthy := false } }
      profile := { s.profile with sequences := [[⟨.tilt, .level, 0, .slow⟩]] } }
    judgeRequest parked { rq with demand := .sequence 1 true } = .refuse .notPermitted
      ∧ judgeRequest (faultOn .rdoor s) rq = .refuse .faulted
      ∧ judgeRequest (withRecords [{ doorMove .kdoor 10 with station := some 4 }] s) rq = .refuse .owned
      ∧ judgeRequest (withRecords [doorMove .kdoor 10] s) rq = .refuse .committed
      ∧ judgeRequest (brakeOff s) rq = .refuse .interlock
      ∧ requestedTarget level ⟨.tilt, .level, 0, .slow⟩ = none
      ∧ judgeRequest (brakeOff level) { rq with demand := .sequence 1 false } = .refuse .interlock
      ∧ stepsOf parked 5 = [] ∧ (stepsOf s 5).length = 2 := by decide

/-- An amendment above the budget, and MOVEs that wait for the bank and for the budget. -/
theorem witness_amended :
    let s := (withRecords [doorMove .kdoor 10] parked).onMotion (fun m => { m with budget := 19 })
    (∃ r, judgeRequest s (kdoorRequest 9) = .amend (doorMove .kdoor 10) r ∧ (doorMove .kdoor 10).seq = none
        ∧ isHydraulic .kdoor = false ∧ s.AloneWaits (doorMove .kdoor 10)
        ∧ s.find (doorMove .kdoor 10).tag = some (doorMove .kdoor 10) ∧ 0 < r.draw
        ∧ s.motion.budget < s.drawSum + r.draw) :=
  ⟨_, rfl, rfl, rfl, by decide, by decide, by decide, by decide⟩

theorem witness_waits :
    let p : PermMap := { Builtin.defaultPermissions with cab := ⟨.target, .target, .target, .target, .target⟩ }
    let s : State := { granted with profile := { granted.profile with permissions := p } }
    (∃ r, judgeRequest s { kdoorRequest 9 with demand := .move .tilt 50 .normal } = .accept r
        ∧ isHydraulic .tilt = true ∧ s.motion.bank = some 201 ∧ 201 ≠ (9 : Byte).toNat
        ∧ (∀ x ∈ s.motion.records, x.state ≠ .waiting))
      ∧ (∃ r, judgeRequest (s.onMotion (fun m => { m with budget := 169 })) (kdoorRequest 9) = .accept r ∧ 0 < r.draw
        ∧ 169 < s.drawSum + r.draw) ∧ s.motion.attemptsDue = 0 :=
  ⟨⟨_, rfl, rfl, rfl, by decide, by decide⟩, ⟨_, rfl, by decide, by decide⟩, rfl⟩

theorem witness_malformed : axisOf (5 : Byte).toNat = none ∧ speedOf (3 : Byte).toNat = none
    ∧ dirOf (0 : Byte).toNat = none ∧ 199 < (200 : Byte).toNat ∧ 6 < (7 : Byte).toNat ∧ 1 < (2 : Byte).toNat := by decide

/-- A JOG of a door on an empty list, and one above the budget; with TARGET for CAB on every axis, one of TILT behind the
bank of another, and with FOLD FAULTED. -/
theorem witness_jog_accepted :
    let jog (a : Axis) (d : Dir) : Request := { moveRequest with demand := .jog a d .normal }
    let p : PermMap := { Builtin.defaultPermissions with cab := ⟨.target, .target, .target, .target, .target⟩ }
    let s : State := { granted with profile := { granted.profile with permissions := p } }
    let low := parked.onMotion (fun m => { m with budget := 19 })
    let away := faultOn .fold { parked with profile := { parked.profile with permissions := p } }
    (∃ r, judgeRequest parked (jog .rdoor .inc) = .accept r ∧ parked.motion.records = [] ∧ parked.motion.bank = none
        ∧ r.draw ≤ parked.motion.budget ∧ completeAtGrant parked r = none ∧ 0 < (parked.limits r.axis).prewarn)
      ∧ (∃ r, judgeRequest s (jog .tilt .inc) = .accept r ∧ s.motion.bank.isSome = true
        ∧ s.motion.bank ≠ some (9 : Byte).toNat ∧ (∀ x ∈ s.motion.records, x.state ≠ .waiting))
      ∧ (∃ r, judgeRequest away (jog .tilt .inc) = .accept r ∧ away.bankWithheld = true ∧ away.motion.records = [])
      ∧ ∃ r, judgeRequest low (jog .rdoor .inc) = .accept r ∧ 0 < r.draw ∧ low.motion.budget < low.drawSum + r.draw :=
  ⟨⟨_, rfl, by decide⟩, ⟨_, rfl, by decide⟩, ⟨_, rfl, by decide⟩, ⟨_, rfl, by decide⟩⟩

/-- With TARGET for CAB on every axis an unheld SEQUENCE 3 is accepted, on an empty list, behind a bank, and above the
budget. -/
theorem witness_sequence_accepted :
    let p : PermMap := { Builtin.defaultPermissions with cab := ⟨.target, .target, .target, .target, .target⟩ }
    let s : State := { parked with profile := { parked.profile with permissions := p } }
    let rq : Request := { moveRequest with demand := .sequence 3 false }
    let banked := s.onMotion (fun m => { m with bank := some 201 })
    let low := s.onMotion (fun m => { m with budget := 19 })
    ∃ r, judgeRequest s rq = .accept r ∧ judgeRequest banked rq = .accept r ∧ judgeRequest low rq = .accept r
      ∧ (∀ q ∈ r.seq, formStep s r q = some r ∧ formStep banked r q = some r ∧ formStep low r q = some r)
      ∧ s.motion.records = [] ∧ s.motion.bank = none ∧ s.bankWithheld = false ∧ r.draw ≤ s.motion.budget
      ∧ completeAtGrant s r = none ∧ (s.limits r.axis).prewarn = 0 ∧ stripPressed s r.axis = false ∧ 0 < r.draw
      ∧ low.motion.budget < low.drawSum + r.draw :=
  ⟨_, rfl, rfl, rfl, by decide⟩

/-- An accepted JOG and an accepted SEQUENCE stand in the list in PREWARN of their first motion. -/
theorem test_accepted_motions :
    let p : PermMap := { Builtin.defaultPermissions with cab := ⟨.target, .target, .target, .target, .target⟩ }
    let s : State := { parked with profile := { parked.profile with permissions := p } }
    let shown (t : State) := t.motion.records.map (fun r => (r.tag, r.kind, r.held, r.axis, r.state))
    shown (after (.jog 9 4 1 2) s) = [(9, .jog, true, .rdoor, .prewarn)]
      ∧ shown (after (.runSequence 9 2 0) s) = [(9, .sequence, false, .lift, .prewarn)] := by decide

/-- STOPs by tag of an unheld CAB record in each state, of a pendant's JOG of RDOOR, and of a PAUSED held one. -/
theorem witness_stop_tag :
    let s (r : Record) := withRecords [{ r with tag := 9 }] parked
    (∀ st ∈ [RecordState.waiting, .prewarn, .starting, .moving, .stopping, .paused],
      let r : Record := { doorMove .kdoor 9 with state := st, dPrev := 400 }
      (s r).find (9 : Byte).toNat = some r ∧ mayStop (s r) r = true ∧ r.held = false ∧ (s r).tags.Nodup
        ∧ (s r).motion.attemptsDue = 0)
      ∧ (let r : Record := { roadJog .moving with tag := 9 }
        (s r).find (9 : Byte).toNat = some r ∧ mayStop (s r) r = true ∧ r.source ≠ .cab)
      ∧ (9 : Byte) ≠ 0 ∧ (doorSequence .paused false).state = .paused := by decide

/-- R116: a STOP of the tag of an unheld MOVE in MOVING begins its controlled stop. -/
theorem test_stop_tag :
    (after (.stop 7 0xFF 9) (withRecords [doorMoving .inc] parked)).motion.records.map
      (fun r => (r.state, r.pendingResult)) = [(.stopping, some .stopped)] := by decide

theorem witness_refresh :
    let r := { doorMove .rdoor 9 with kind := .jog, held := true, state := .moving }
    (withRecords [r] parked).find (9 : Byte).toNat = some r ∧ r.source = .cab ∧ parked.find (9 : Byte).toNat = none := by
  decide

theorem witness_stop :
    parked.claimant .kdoor = none
      ∧ (withRecords [doorMove .kdoor 9] parked).claimant .kdoor = some (doorMove .kdoor 9)
      ∧ mayHold parked .cab .kdoor = true
      ∧ (withRecords [{ liftJog with state := .waiting }] parked).claimant .lift = some { liftJog with state := .waiting }
      ∧ mayHold parked .cab .lift = false
      ∧ (withRecords [doorMoving .inc] parked).claimant .kdoor = some (doorMoving .inc)
      ∧ (withRecords [doorMoving .inc] parked).find 9 = some (doorMoving .inc) ∧ (doorMoving .inc).dPrev ≠ 0
      ∧ (withRecords [doorSequence .stopping true] parked).claimant .kdoor = some (doorSequence .stopping true)
      ∧ (withRecords [doorSequence .stopping true] parked).tags.Nodup
      ∧ mayStop (withRecords [liftJog] parked) liftJog = false
      ∧ (withRecords [doorMove .kdoor 9] parked).find 9 = some (doorMove .kdoor 9)
      ∧ (let r := { doorMove .kdoor 9 with held := true, kind := .jog }
        (9 : Byte) ≠ 0 ∧ (withRecords [r] parked).find (9 : Byte).toNat = some r
          ∧ mayStop (withRecords [r] parked) r = true ∧ r.source = .cab) := by decide

/-- A STOP by tag of the held CAB SEQUENCE 5 in each state that it can find, before its grant and after it. -/
theorem witness_stop_sequence :
    let r (st : RecordState) : Record := { doorSequence st false with dPrev := 0 }
    let fresh : Record := { r .waiting with seq := (r .waiting).seq.map (fun q => { q with granted := false }) }
    let limited : Record := { doorSequence .stopping false with pendingResult := some .limited }
    let ready (x : Record) : Prop := (withRecords [x] parked).find (9 : Byte).toNat = some x
      ∧ mayStop (withRecords [x] parked) x = true ∧ x.source = .cab ∧ x.held = true ∧ x.seq.isSome = true
    ready (r .paused) ∧ ready (r .waiting) ∧ ready fresh ∧ ready (r .prewarn) ∧ ready (r .starting)
      ∧ (r .starting).reversing = false ∧ ready (doorSequence .moving false) ∧ (doorSequence .moving false).dPrev ≠ 0
      ∧ ready limited ∧ ready (doorSequence .stopping true) ∧ (9 : Byte) ≠ 0
      ∧ (withRecords [limited] parked).tags.Nodup ∧ (withRecords [limited] parked).motion.attemptsDue = 0 := by decide

theorem witness_fault_clear :
    parked.faulted .kdoor = false ∧ (faultOn .kdoor parked).faulted .kdoor = true
      ∧ faultClears (faultOn .kdoor parked) .kdoor = true
      ∧ faultClears (faultOn .kdoor (parked.onChannel (.axis .kdoor) (fun ch => { ch with clearable := false }))) .kdoor
        = false := by decide

theorem witness_lamp_clear :
    let s := parked.onLamp .b0 (fun b => { b with fault := some .short })
    lampOf (0 : Byte).toNat = some .b0 ∧ s.lampFaulted .b0 = true ∧ (s.drive.lamp.get .b0).echoMatch = true
      ∧ (s.drive.lamp.get .b0).reading ≤ 60
      ∧ 60 < ((s.onLampOut .b0 (fun r => { r with reading := 61 })).drive.lamp.get .b0).reading := by decide

theorem witness_override_request : overrideOf (4 : Byte).toNat = some (some .stretch) ∧ overrideOf (5 : Byte).toNat = some none
    ∧ (600 : Half).toNat ≤ 600 ∧ (0 : Half).toNat ≤ 600 := by decide

/-! ### Witnesses: the profile store -/

theorem witness_read : parked.store.inForce = some testImage ∧ testImage.Sound ∧ (7 : Byte).toNat ≤ 7
    ∧ (0 : Half).toNat + (40 : Byte).toNat ≤ regionLength (7 : Byte).toNat
    ∧ regionLength (0 : Byte).toNat < (73 : Half).toNat + (48 : Byte).toNat := ⟨rfl, testImage_sound, by decide⟩

theorem witness_stage : parked.store.staging = some testImage ∧ testImage.Sound ∧ (5 : Byte).toNat ≤ 6
    ∧ (24 : Half).toNat + 48 ≤ regionLength (5 : Byte).toNat ∧ parked.store.mode = .run ∧ parked.store.commit = .idle
    ∧ parked.store.service = false
    ∧ (parked.onStore (fun st => { st with service := true, lock := true })).store.service = true :=
  ⟨rfl, testImage_sound, by decide, by decide, rfl, rfl, rfl, rfl⟩

theorem witness_lock :
    (parked.onStore (fun st => { st with lock := true })).store.lock = true ∧ parked.store.lock = false
      ∧ (parked.onStore (fun st => { st with commit := .verify })).store.commit ≠ .idle := by decide

theorem witness_commit_starts : parked.motion.records = [] ∧ granted.motion.records ≠ [] ∧ testImage.firstBad = none := by
  refine ⟨rfl, by decide, ?_⟩
  have h1 := List.all_eq_true.1 testImage_inRange
  have h2 := List.all_eq_true.1 testImage_relations
  have h3 : ∀ r ∈ regions, regionFailures testImage r = [] := by
    intro r hr
    unfold regionFailures
    rw [List.append_eq_nil_iff, List.map_eq_nil_iff, List.map_eq_nil_iff, List.filter_eq_nil_iff, List.filter_eq_nil_iff]
    exact ⟨fun f hf => by simp [List.all_eq_true.1 (h1 r hr) f hf], fun x hx => by
      simp [List.all_eq_true.1 (h2 r hr) x hx]⟩
  unfold Image.firstBad
  rw [List.findSome?_eq_none_iff]
  intro r hr
  simp [h3 r hr]

theorem witness_commit_bad : Image.firstBad [] = some (0, 0) ∨ (Image.firstBad []).isSome = true := by decide +kernel

/-- A commit step in time to the last microsecond. -/
theorem witness_commit_steps :
    let s (c : Commit) := parked.onStore (fun st => { st with commit := c, stepSince := 500000 })
    (s .erase).store.commit = .erase ∧ (s (.program 15)).store.commit = .program 15 ∧ (s .verify).store.commit = .verify
      ∧ (s .erase).clock ≤ (s .erase).store.stepSince + 500000 ∧ (s .verify).store.lockDue = false
      ∧ (s .verify).store.commit.stage = some .verify
      ∧ ((s .verify).onStore (fun st => { st with lockDue := true })).store.lockDue = true := by decide

/-- A step that its own row ends a microsecond late. -/
theorem witness_commit_late :
    let s (c : Commit) := parked.onStore (fun st => { st with commit := c, stepSince := 499999 })
    (s .erase).store.stepSince + 500000 < (s .erase).clock ∧ (s .erase).store.commit = .erase
      ∧ (s (.program 15)).store.commit = .program 15 ∧ (s .verify).store.commit = .verify
      ∧ (s .verify).store.lockDue = false ∧ (s .verify).link.notices.length < 16 := by decide

/-- A new image whose stations are 2, which the block has, and 9, which it has not. -/
theorem witness_commit_stations :
    let f : PerButton ButtonFunction := ⟨.seq 1, .unused, .unused, .unused, .unused, .stop⟩
    let m := imageOf (imageBytes (stationBytes ⟨2, .rear, f⟩ ++ stationBytes ⟨9, .kerb, f⟩))
    m.profile.stations.map Station.address = [2, 9] ∧ (parked.station 2).isSome = true ∧ parked.station 9 = none := by
  decide +kernel

theorem witness_commit_verified :
    parked.store.staging = some (imageOf (testImage.dense 0 4096)) ∧ imageOf [] ≠ testImage := by
  refine ⟨by rw [imageOf_dense testImage_wf]; rfl, ?_⟩
  intro h
  have h1 : testImage.read 0 = 0 := by rw [← h]; rfl
  exact absurd h1 (by decide +kernel)

end Sys2Proof.Tests
end

namespace Sys2Proof.Machine

/-! ### The approach law (R75, R76, R78) -/

/-- R76 stages 3 to 5: the approach duty lies from Dmin to Dmax and grows by no more than the step up, or to Dmin. -/
theorem approach_range (top : Nat) (l : AxisLimits) (dPrev dist : Nat) (h : l.dmin ≤ top) :
    l.dmin ≤ approach top l dPrev dist ∧ approach top l dPrev dist ≤ top
      ∧ approach top l dPrev dist ≤ max (dPrev + l.stepUp) l.dmin := by
  simp only [approach]
  omega

/-- R76 stage 4: within the approach distance the truncated quotient is the one number with this remainder. -/
theorem approach_eq (top : Nat) (l : AxisLimits) (dPrev dist taper : Nat) (far : l.approach ≤ dist → taper = top)
    (near : dist < l.approach → l.dmin ≤ taper ∧ (taper - l.dmin) * l.approach ≤ (top - l.dmin) * dist
      ∧ (top - l.dmin) * dist < (taper - l.dmin + 1) * l.approach) :
    approach top l dPrev dist = max (min (min (dPrev + l.stepUp) top) taper) l.dmin := by
  have ht : (if l.approach ≤ dist then top else l.dmin + (top - l.dmin) * dist / l.approach) = taper := by
    by_cases hd : l.approach ≤ dist
    · rw [if_pos hd, far hd]
    · obtain ⟨hmin, hlo, hhi⟩ := near (Nat.not_le.1 hd)
      rw [if_neg hd, Nat.div_eq_of_lt_le hlo hhi]
      omega
  simp only [approach, ht]

/-- R78: up to the reference pressure a duty stands. -/
theorem compensate_of_le {pRef : Nat} {p : Int} (dmin d : Nat) (h : p ≤ pRef) : compensate dmin pRef d p = d :=
  if_pos h

/-- R78: above the reference pressure a duty is scaled down, truncated, with a floor at Dmin. -/
theorem compensate_of_gt {pRef : Nat} {p : Int} (dmin d : Nat) (h : (pRef : Int) < p) :
    (compensate dmin pRef d p : Int) = max ((d * pRef : Int).tdiv p) dmin := by
  lift p to Nat using by omega
  rw [compensate, if_neg (by omega), Int.toNat_natCast, Nat.cast_max, ← Nat.cast_mul, ← Int.ofNat_tdiv]

/-- R78: compensation takes a duty from Dmin on to one between Dmin and it. -/
theorem compensate_range {dmin d : Nat} (pRef : Nat) (p : Int) (h : dmin ≤ d) :
    dmin ≤ compensate dmin pRef d p ∧ compensate dmin pRef d p ≤ d := by
  unfold compensate
  split
  · exact ⟨h, le_rfl⟩
  · have hq : d * pRef / p.toNat ≤ d := Nat.div_le_of_le_mul (by
      rw [Nat.mul_comm]
      exact Nat.mul_le_mul_right d (by omega))
    omega

/-- R78: only LIFT DECREASING is compensated. -/
theorem dutyFor_of_other {s : State} {r : Record} (p : Int) (h : r.axis ≠ .lift ∨ r.dir = .inc) :
    dutyFor s r p = approach (dmax s r.axis r.speed) (s.limits r.axis) r.dPrev (r.target - p).natAbs := by
  refine if_neg ?_
  rintro ⟨ha, hd⟩
  rcases h with h | h
  · exact h ha
  · rw [h] at hd; cases hd

/-- R78: LIFT DECREASING is compensated by the SC6 value, none counting as no pressure. -/
theorem dutyFor_of_lower {s : State} {r : Record} (p : Int) (ha : r.axis = .lift) (hd : r.dir = .dec) :
    dutyFor s r p = compensate (s.limits r.axis).dmin s.profile.limits.pRef
      (approach (dmax s r.axis r.speed) (s.limits r.axis) r.dPrev (r.target - p).natAbs)
      (s.sense.pressure.value.getD 0) := by
  rw [ha]
  exact (if_pos ⟨ha, hd⟩).trans (by rw [ha])

/-- R75: Dmax by the speed class. -/
theorem dmax_eq (s : State) (a : Axis) (sp : Speed) :
    dmax s a sp = if sp = .slow then (s.limits a).dmaxSlow else (s.limits a).dmaxNormal := by
  cases sp <;> rfl

/-- Law 4: the duty of a control update lies from Dmin to Dmax, and grows by no more than the step up, or to Dmin. -/
theorem dutyFor_range {s : State} {r : Record} (p : Int) (h : (s.limits r.axis).dmin ≤ dmax s r.axis r.speed) :
    (s.limits r.axis).dmin ≤ dutyFor s r p ∧ dutyFor s r p ≤ dmax s r.axis r.speed
      ∧ dutyFor s r p ≤ max (r.dPrev + (s.limits r.axis).stepUp) (s.limits r.axis).dmin := by
  obtain ⟨hmin, hmax, hstep⟩ := approach_range _ (s.limits r.axis) r.dPrev (r.target - p).natAbs h
  by_cases hl : r.axis = .lift ∧ r.dir = .dec
  · obtain ⟨clo, chi⟩ := compensate_range s.profile.limits.pRef (s.sense.pressure.value.getD 0) hmin
    rw [dutyFor_of_lower p hl.1 hl.2]
    exact ⟨clo, chi.trans hmax, chi.trans hstep⟩
  · have ho : r.axis ≠ .lift ∨ r.dir = .inc := by
      cases hd : r.dir with
      | inc => exact .inr rfl
      | dec => exact .inl fun ha => hl ⟨ha, hd⟩
    rw [dutyFor_of_other p ho]
    exact ⟨hmin, hmax, hstep⟩

/-- Settles O42: the range follows from those of the approach law and of load compensation, the value from their
equations. -/
theorem approachDutyLiesInItsRange : Obligations.ApproachDutyLiesInItsRange := by
  refine ⟨fun s r p h => dutyFor_range p h, ?_, fun dmin pRef d p => ⟨compensate_of_le dmin d, compensate_of_gt dmin d⟩⟩
  intro s r p taper l top dist _ far near d
  have hd : approach (dmax s r.axis r.speed) l r.dPrev dist = d := by
    rw [dmax_eq]
    exact approach_eq top l r.dPrev dist taper far near
  refine ⟨fun ho => (dutyFor_of_other p ho).trans hd, fun ha hdec v hv => ?_⟩
  have hc : dutyFor s r p = compensate l.dmin s.profile.limits.pRef d v := by
    rw [dutyFor_of_lower p ha hdec, hv]
    exact congrArg (fun x => compensate l.dmin s.profile.limits.pRef x v) hd
  rw [hc]
  exact ⟨compensate_of_le l.dmin d, compensate_of_gt l.dmin d⟩

/-! ### Tags are kept (R61, R99) -/

/-- R61: a record keeps its tag as its marks are formed. -/
theorem formMarks_tag (s : State) (r : Record) : (formMarks s r).tag = r.tag := by
  unfold formMarks
  split <;> rfl

/-- R99: a record keeps its tag as its step is formed. -/
theorem formStep_tag {s : State} {r r1 : Record} {q : SeqFields} (h : formStep s r q = some r1) : r1.tag = r.tag := by
  unfold formStep at h
  split at h
  · cases h
  · obtain ⟨_, _, rfl⟩ := Option.map_eq_some_iff.1 h
    rfl

/-- The record found under a tag has it. -/
theorem find_tag {s : State} {tag : Nat} {r : Record} (h : s.find tag = some r) : r.tag = tag := by
  simpa using List.find?_some h

/-! ### What a change of the motion list leaves unchanged (R39, R45, R110, R136) -/

/-- t comes from s by ends, stops and grants of records: only the list, the bank and the attempts owed, the outputs'
records, the axis channels, the prewarn entries, the stations' tags and the notices have changed; notices have joined
the tail, and no tag is new. -/
structure ListChange (s t : State) : Prop where
  clock : t.clock = s.clock
  pending : t.pending = s.pending
  pins : t.pins = s.pins
  sense : t.sense = { s.sense with axis := t.sense.axis }
  motion : t.motion = { s.motion with
    records := t.motion.records, bank := t.motion.bank, attemptsDue := t.motion.attemptsDue }
  drive : t.drive = { s.drive with out := t.drive.out }
  beacon : t.beacon = { s.beacon with prewarn := t.beacon.prewarn }
  crew : t.crew = { s.crew with stations := t.crew.stations }
  link : t.link = { s.link with notices := t.link.notices, lost := t.link.lost }
  store : t.store = s.store
  profile : t.profile = s.profile
  notices : s.link.notices <+: t.link.notices
  tags : t.tags.Sublist s.tags

namespace ListChange

theorem refl (s : State) : ListChange s s :=
  ⟨rfl, rfl, rfl, rfl, rfl, rfl, rfl, rfl, rfl, rfl, rfl, List.prefix_rfl, .refl _⟩

theorem trans {s t u : State} (h : ListChange s t) (k : ListChange t u) : ListChange s u where
  clock := k.clock.trans h.clock
  pending := k.pending.trans h.pending
  pins := k.pins.trans h.pins
  sense := k.sense.trans (by rw [h.sense])
  motion := k.motion.trans (by rw [h.motion])
  drive := k.drive.trans (by rw [h.drive])
  beacon := k.beacon.trans (by rw [h.beacon])
  crew := k.crew.trans (by rw [h.crew])
  link := k.link.trans (by rw [h.link])
  store := k.store.trans h.store
  profile := k.profile.trans h.profile
  notices := h.notices.trans k.notices
  tags := k.tags.trans h.tags

/-- A change made for each entry of a list is one change. -/
theorem foldl {α : Type} {f : State → α → State} (h : ∀ s x, ListChange s (f s x)) :
    ∀ (l : List α) (s : State), ListChange s (l.foldl f s)
  | [], s => refl s
  | x :: l, s => (h s x).trans (foldl h l (f s x))

/-! What is read after a change. -/

theorem volts {s t : State} (h : ListChange s t) : t.volts = s.volts := by
  rw [State.volts, h.sense]; rfl

theorem position {s t : State} (h : ListChange s t) (a : Axis) : t.position a = s.position a := by
  rw [State.position, h.motion]; rfl

theorem axis {s t : State} (h : ListChange s t) : t.motion.axis = s.motion.axis := by rw [h.motion]
theorem estop {s t : State} (h : ListChange s t) : t.motion.estop = s.motion.estop := by rw [h.motion]
theorem supply {s t : State} (h : ListChange s t) : t.motion.supply = s.motion.supply := by rw [h.motion]
theorem lowRun {s t : State} (h : ListChange s t) : t.motion.lowRun = s.motion.lowRun := by rw [h.motion]
theorem recoveryRun {s t : State} (h : ListChange s t) : t.motion.recoveryRun = s.motion.recoveryRun := by rw [h.motion]
theorem budget {s t : State} (h : ListChange s t) : t.motion.budget = s.motion.budget := by rw [h.motion]

theorem kept {s t : State} (h : ListChange s t) : Kept s t :=
  ⟨h.pins, h.store, h.profile, h.estop, h.supply, h.budget, by rw [h.beacon], by rw [h.drive]⟩

/-- A tag that no record held is held by none after. -/
theorem find_none {s t : State} (h : ListChange s t) {tag : Nat} (hf : s.find tag = none) : t.find tag = none := by
  simp only [State.find, List.find?_eq_none, decide_eq_true_eq] at hf ⊢
  intro r hr he
  have hm : tag ∈ s.tags := h.tags.subset (List.mem_map.2 ⟨r, hr, he⟩)
  obtain ⟨x, hx, hxe⟩ := List.mem_map.1 hm
  exact hf x hx hxe

/-! The operations on one block. -/

theorem onOut (s : State) (o : DriveOut) (f : DriveRecord → DriveRecord) : ListChange s (s.onOut o f) :=
  ⟨rfl, rfl, rfl, rfl, rfl, rfl, rfl, rfl, rfl, rfl, rfl, List.prefix_rfl, .refl _⟩

theorem onAxisChannel (s : State) (a : Axis) (f : SenseChannel → SenseChannel) : ListChange s (s.onChannel (.axis a) f) :=
  ⟨rfl, rfl, rfl, rfl, rfl, rfl, rfl, rfl, rfl, rfl, rfl, List.prefix_rfl, .refl _⟩

/-- A change of a record that keeps its tag. -/
theorem onRecord (s : State) (tag : Nat) {f : Record → Record}
    (hf : ∀ r, r.tag = tag → (f r).tag = tag := by exact fun _ h => h) : ListChange s (s.onRecord tag f) := by
  refine ⟨rfl, rfl, rfl, rfl, rfl, rfl, rfl, rfl, rfl, rfl, rfl, List.prefix_rfl, ?_⟩
  have ht : (s.onRecord tag f).tags = s.tags := by
    simp only [State.tags, State.onRecord_motion, List.map_map]
    refine List.map_congr_left fun r _ => ?_
    simp only [Function.comp]
    split
    · next h => rw [hf r h, h]
    · rfl
  rw [ht]

theorem prewarn (s : State) (f : List PrewarnEntry → List PrewarnEntry) :
    ListChange s (s.onBeacon (fun b => { b with prewarn := f b.prewarn })) :=
  ⟨rfl, rfl, rfl, rfl, rfl, rfl, rfl, rfl, rfl, rfl, rfl, List.prefix_rfl, .refl _⟩

theorem stations (s : State) (f : List StationRecord → List StationRecord) :
    ListChange s (s.onCrew (fun c => { c with stations := f c.stations })) :=
  ⟨rfl, rfl, rfl, rfl, rfl, rfl, rfl, rfl, rfl, rfl, rfl, List.prefix_rfl, .refl _⟩

theorem bank (s : State) (b : Option Nat) : ListChange s (s.onMotion (fun m => { m with bank := b })) :=
  ⟨rfl, rfl, rfl, rfl, rfl, rfl, rfl, rfl, rfl, rfl, rfl, List.prefix_rfl, .refl _⟩

theorem attemptsDue (s : State) (n : Nat) : ListChange s (s.onMotion (fun m => { m with attemptsDue := n })) :=
  ⟨rfl, rfl, rfl, rfl, rfl, rfl, rfl, rfl, rfl, rfl, rfl, List.prefix_rfl, .refl _⟩

theorem oweAttempt (s : State) : ListChange s s.oweAttempt := attemptsDue s _

theorem asOneEvent {f : State → State} {s : State} (h : ListChange s (f s)) : ListChange s (s.asOneEvent f) :=
  h.trans (attemptsDue (f s) _)

theorem appendNotice (n : Notice) (s : State) : ListChange s (appendNotice n s) := by
  by_cases h : s.link.notices.length < Config.noticeCapacity
  · refine ⟨rfl, rfl, rfl, rfl, rfl, rfl, rfl, rfl, ?_, rfl, rfl, ?_, .refl _⟩ <;>
      simp [Machine.appendNotice, h]
  · refine ⟨rfl, rfl, rfl, rfl, rfl, rfl, rfl, rfl, ?_, rfl, rfl, ?_, .refl _⟩ <;>
      simp [Machine.appendNotice, h]

/-! The operations on outputs. -/

theorem claimOut (tag : Nat) (s : State) (o : DriveOut) : ListChange s (claimOut tag s o) := onOut s o _

theorem releaseOut (s : State) (o : DriveOut) : ListChange s (releaseOut s o) := onOut s o _

theorem forceImmediate (s : State) (o : DriveOut) : ListChange s (forceImmediate s o) := onOut s o _

theorem stageOut (tag duty : Nat) (hit : Bool) (s : State) (o : DriveOut) : ListChange s (stageOut tag duty hit s o) :=
  onOut s o _

theorem stageZero (tag : Nat) (a : Axis) (s : State) : ListChange s (stageZero tag a s) :=
  foldl (stageOut tag 0 false) (outputsOf a) s

theorem immediateStop (r : Record) (s : State) : ListChange s (immediateStop r s) :=
  (foldl forceImmediate (outputsOf r.axis) s).trans (onRecord _ _)

theorem leaveMotion (r : Record) (s : State) : ListChange s (leaveMotion r s) := by
  unfold Machine.leaveMotion
  split
  · exact (foldl releaseOut (outputsOf r.axis) s).trans (onAxisChannel _ _ _)
  · exact refl s

/-! The end of a record (R45). -/

theorem removeRecord (tag : Nat) (s : State) : ListChange s (removeRecord tag s) :=
  ⟨rfl, rfl, rfl, rfl, rfl, rfl, rfl, rfl, rfl, rfl, rfl, List.prefix_rfl, List.filter_sublist.map Record.tag⟩

theorem endRecord (tag : Nat) (res : Result) (s : State) : ListChange s (endRecord tag res s) := by
  unfold Machine.endRecord
  split
  · exact refl s
  · next r _ =>
    exact (leaveMotion r s).trans <| (removeRecord tag _).trans <| (stations _ _).trans <| (prewarn _ _).trans <|
      (appendNotice _ _).trans (oweAttempt _)

/-! The start of a motion (R41, R61, R73). -/

theorem prewarnRequest (tag : Nat) (a : Axis) (d : Dir) (time : Nat) (s : State) :
    ListChange s (prewarnRequest tag a d time s) := by
  refine ⟨rfl, rfl, rfl, rfl, rfl, rfl, ?_, rfl, rfl, rfl, rfl, List.prefix_rfl, .refl _⟩
  simp only [Machine.prewarnRequest, State.onBeacon_beacon]
  split <;> rfl

theorem startRecord (r : Record) (reversal : Bool) (s : State) : ListChange s (startRecord r reversal s) := by
  have hvalve (s : State) : ListChange s (match valveOf r.axis r.dir with
      | some v => Machine.stageOut r.tag 1000 true s v
      | none => s) := by
    split
    · exact stageOut r.tag 1000 true s _
    · exact refl s
  unfold Machine.startRecord
  exact (onRecord s r.tag).trans <| (foldl (claimOut r.tag) _ _).trans <|
    (foldl (stageOut r.tag 0 false) _ _).trans <| (hvalve _).trans (onAxisChannel _ _ _)

theorem enterStarting (r : Record) (s : State) : ListChange s (enterStarting r s) := by
  simp only [Machine.enterStarting]
  split
  · exact (startRecord r false s).trans <| (immediateStop r _).trans (endRecord _ _ _)
  · exact startRecord r false s

theorem beginMotion (tag : Nat) (s : State) : ListChange s (beginMotion tag s) := by
  have hmarks : ListChange s (s.onRecord tag (fun r => { formMarks s r with waitReason := none })) :=
    onRecord s tag fun r h => (formMarks_tag s r).trans h
  unfold Machine.beginMotion
  split
  · exact refl s
  · next r _ =>
    dsimp only
    split
    · exact hmarks.trans <| (onRecord _ _).trans (prewarnRequest _ _ _ _ _)
    · exact hmarks.trans (enterStarting r _)

/-! Pauses, step ends and step starts (R103, R105, R110). -/

theorem prewarnCancel (tag : Nat) (s : State) : ListChange s (prewarnCancel tag s) := prewarn s _

theorem pauseRecord (tag : Nat) (s : State) : ListChange s (pauseRecord tag s) := by
  unfold Machine.pauseRecord
  split
  · exact refl s
  · next r _ =>
    have hcancel (s : State) : ListChange s (if r.state = .prewarn then Machine.prewarnCancel tag s else s) := by
      split
      · exact prewarnCancel tag s
      · exact refl s
    exact (leaveMotion r s).trans <| (hcancel _).trans (onRecord _ _)

theorem stepAdvance (tag : Nat) (res : Result) (s : State) : ListChange s (stepAdvance tag res s) := by
  unfold Machine.stepAdvance
  split
  · exact refl s
  · next r _ =>
    split
    · exact refl s
    · next q _ =>
      dsimp only
      split
      · exact ((leaveMotion r s).trans (onRecord _ tag)).trans (endRecord _ _ _)
      · split
        · exact ((leaveMotion r s).trans (onRecord _ tag)).trans ((onRecord _ tag).trans (pauseRecord _ _))
        · exact ((leaveMotion r s).trans (onRecord _ tag)).trans (onRecord _ tag)

theorem stepStart : ∀ (fuel tag : Nat) (s : State), ListChange s (stepStart fuel tag s)
  | 0, _, s => refl s
  | fuel + 1, tag, s => by
      unfold Machine.stepStart
      split
      · exact refl s
      · next r hr =>
        split
        · exact refl s
        · next q _ =>
          split
          · exact endRecord _ _ _
          · next r1 hf =>
            have hform : ListChange s (s.onRecord tag (fun _ => r1)) :=
              onRecord s tag fun _ _ => (formStep_tag hf).trans (find_tag hr)
            have hpass (res : Result) (s1 : State) : ListChange s1
                (if between (Machine.stepAdvance tag res s1) tag then
                  Machine.stepStart fuel tag (Machine.stepAdvance tag res s1)
                else Machine.stepAdvance tag res s1) := by
              split
              · exact (stepAdvance tag res s1).trans (stepStart fuel tag _)
              · exact stepAdvance tag res s1
            refine hform.trans ?_
            dsimp only
            split
            · exact endRecord _ _ _
            · split
              · exact hpass _ _
              · split
                · exact hpass _ _
                · split
                  · exact beginMotion _ _
                  · exact onRecord _ _

theorem stepEnd (tag : Nat) (res : Result) (s : State) : ListChange s (stepEnd tag res s) := by
  refine (stepAdvance tag res s).trans ?_
  unfold Machine.stepEnd
  dsimp only
  split
  · exact refl _
  · split
    · exact (stepStart _ _ _).trans (oweAttempt _)
    · exact oweAttempt _

theorem resumeRecord (tag : Nat) (s : State) : ListChange s (resumeRecord tag s) :=
  (onRecord s tag).trans <| (stepStart _ _ _).trans (oweAttempt _)

/-! The grant attempt (R39 to R42, R102). -/

theorem takeGrant (r : Record) (s : State) : ListChange s (takeGrant r s) := by
  unfold Machine.takeGrant
  dsimp only
  split
  · exact (onRecord s r.tag).trans (bank _ _)
  · exact onRecord s r.tag

theorem grantRecord (r : Record) (sc : Scan) (s : State) : ListChange s (grantRecord r sc s).state := by
  refine (takeGrant r s).trans ?_
  unfold Machine.grantRecord
  dsimp only
  split
  · split
    · exact refl _
    · exact endRecord _ _ _
  · exact beginMotion _ _

theorem scanFormed (r : Record) (sc : Scan) (s : State) : ListChange s (scanFormed r sc s).state := by
  unfold Machine.scanFormed
  split
  · exact onRecord s r.tag
  · split
    · exact onRecord s r.tag
    · split
      · exact endRecord _ _ _
      · exact grantRecord r sc s

theorem scanRecord (sc : Scan) (tag : Nat) : ListChange sc.state (scanRecord sc tag).state := by
  unfold Machine.scanRecord
  split
  · exact refl _
  · next r hr =>
    split
    · split
      · exact scanFormed r sc sc.state
      · split
        · exact endRecord _ _ _
        · next r1 hf =>
          exact (onRecord _ tag fun _ _ => (formStep_tag hf).trans (find_tag hr)).trans (scanFormed r1 sc _)
    · exact refl _

theorem foldl_scanRecord : ∀ (l : List Nat) (sc : Scan), ListChange sc.state (l.foldl Machine.scanRecord sc).state
  | [], sc => refl sc.state
  | t :: l, sc => (scanRecord sc t).trans (foldl_scanRecord l (Machine.scanRecord sc t))

theorem grantAttempt (s : State) : ListChange s (grantAttempt s) :=
  (attemptsDue s _).trans <| (foldl_scanRecord _ ⟨_, false, false, []⟩).trans
    (foldl (f := fun s (x : Nat × Result) => Machine.stepEnd x.1 x.2 s) (fun s x => stepEnd x.1 x.2 s) _ _)

theorem attempts : ∀ (fuel : Nat) (s : State), ListChange s (attempts fuel s)
  | 0, s => refl s
  | fuel + 1, s => by
      unfold Machine.attempts
      split
      · exact refl s
      · exact (grantAttempt s).trans (attempts fuel _)

theorem settle (s : State) : ListChange s (settle s) := attempts _ s

theorem endFailedSteps (s : State) : ListChange s (endFailedSteps s) := by
  refine ListChange.trans (foldl (fun s t => ?_) s.tags s) (settle _)
  split
  · split
    · exact endRecord _ _ _
    · exact refl s
  · exact refl s

/-! Controlled stops (R83, R84, R116). -/

theorem finishStop (r : Record) (s : State) : ListChange s (finishStop r s) := by
  refine (stageZero r.tag r.axis s).trans ?_
  unfold Machine.finishStop
  dsimp only
  split
  · split
    · exact stepEnd _ _ _
    · split
      · exact pauseRecord _ _
      · exact endRecord _ _ _
  · exact endRecord _ _ _

theorem enterStopping (r : Record) (res : Result) (pause : Bool) (s : State) :
    ListChange s (enterStopping r res pause s) := by
  refine (onRecord s r.tag (f := fun _ => r.stopping res pause) fun _ _ => rfl).trans ?_
  unfold Machine.enterStopping
  dsimp only
  split
  · exact finishStop _ _
  · exact refl _

theorem stopProper (res : Result) (r : Record) (s : State) : ListChange s (stopProper res r s) := by
  have hovertake (r : Record) : (overtake r res).tag = r.tag := by
    unfold overtake
    split <;> rfl
  unfold Machine.stopProper
  split
  · exact endRecord _ _ _
  · exact endRecord _ _ _
  · exact endRecord _ _ _
  · exact enterStopping _ _ _ _
  · exact enterStopping _ _ _ _
  · exact onRecord s r.tag fun x h => (hovertake x).trans h

theorem stopEvery (res : Result) (s : State) : ListChange s (stopEvery res s) := by
  refine asOneEvent (foldl (fun s t => ?_) s.tags s)
  split
  · exact stopProper _ _ _
  · exact refl s

end ListChange

/-! ### Grant attempts with nothing to grant (R39, R40, R104) -/

/-- No record waits for a grant. -/
abbrev State.NoneWaits (s : State) : Prop := ∀ r ∈ s.motion.records, r.state ≠ .waiting

/-- R40: a scan passes over a list in which none waits. -/
theorem foldl_scanRecord_of_noneWaits {sc : Scan} (h : sc.state.NoneWaits) : ∀ l : List Nat, l.foldl scanRecord sc = sc
  | [] => rfl
  | t :: l => by
      have ht : scanRecord sc t = sc := by
        unfold scanRecord
        split
        · rfl
        · next r hr => exact if_neg (h r (List.mem_of_find?_eq_some hr))
      rw [List.foldl_cons, ht]
      exact foldl_scanRecord_of_noneWaits h l

/-- An attempt with none waiting takes only its own mark. -/
theorem grantAttempt_of_noneWaits {s : State} (h : s.NoneWaits) :
    grantAttempt s = s.onMotion (fun m => { m with attemptsDue := m.attemptsDue - 1 }) := by
  simp only [grantAttempt]
  rw [foldl_scanRecord_of_noneWaits h]
  rfl

theorem attempts_of_noneWaits : ∀ (fuel : Nat) (s : State), s.NoneWaits → s.motion.attemptsDue ≤ fuel →
    attempts fuel s = s.onMotion (fun m => { m with attemptsDue := 0 })
  | 0, s, _, hf => by rw [attempts, State.onMotion, ← Nat.le_zero.1 hf]
  | fuel + 1, s, h, hf => by
      rw [attempts]
      by_cases h0 : s.motion.attemptsDue = 0
      · rw [if_pos h0, State.onMotion, ← h0]
      · rw [if_neg h0, grantAttempt_of_noneWaits h]
        exact attempts_of_noneWaits fuel (s.onMotion (fun m => { m with attemptsDue := m.attemptsDue - 1 })) h
          (by simp only [State.onMotion_motion]; omega)

/-- With none waiting the owed attempts change only their own count. -/
theorem settle_of_noneWaits {s : State} (h : s.NoneWaits) :
    settle s = s.onMotion (fun m => { m with attemptsDue := 0 }) :=
  attempts_of_noneWaits _ s h (by omega)

/-- A record that does not wait is no step that R104 ends. -/
theorem failsWaiting_of_ne {r : Record} (s : State) (h : r.state ≠ .waiting) : failsWaiting s r = false := by
  simp [failsWaiting, h]

/-! ### The end of a record and of a stop (R45, R82, R83) -/

theorem foldl_onOut_motion (f : DriveRecord → DriveRecord) : ∀ (l : List DriveOut) (s : State),
    (l.foldl (fun s o => s.onOut o f) s).motion = s.motion
  | [], _ => rfl
  | o :: l, s => foldl_onOut_motion f l (s.onOut o f)

theorem foldl_onOut_link (f : DriveRecord → DriveRecord) : ∀ (l : List DriveOut) (s : State),
    (l.foldl (fun s o => s.onOut o f) s).link = s.link
  | [], _ => rfl
  | o :: l, s => foldl_onOut_link f l (s.onOut o f)

theorem leaveMotion_link (r : Record) (s : State) : (leaveMotion r s).link = s.link := by
  unfold leaveMotion
  split
  · exact foldl_onOut_link _ (outputsOf r.axis) s
  · rfl

theorem stageZero_motion (tag : Nat) (a : Axis) (s : State) : (stageZero tag a s).motion = s.motion :=
  foldl_onOut_motion _ (outputsOf a) s

theorem stageZero_link (tag : Nat) (a : Axis) (s : State) : (stageZero tag a s).link = s.link :=
  foldl_onOut_link _ (outputsOf a) s

/-- R45 stage 4: the end of a record appends its RECORD_END. -/
theorem endRecord_link {tag : Nat} {s : State} {r : Record} (res : Result) (h : s.find tag = some r) :
    (endRecord tag res s).link = (appendNotice (recordEndNotice r res s) s).link := by
  unfold endRecord
  rw [h]
  simp only [State.oweAttempt_link, appendNotice, dutyEnd, clearButtonTags, removeRecord, State.onLink_link,
    State.onBeacon_link, State.onCrew_link, State.onMotion_link, leaveMotion_link]

theorem endRecord_notices {tag : Nat} {s : State} {r : Record} (res : Result) (h : s.find tag = some r)
    (hq : s.link.notices.length < 16) :
    (endRecord tag res s).link.notices = s.link.notices ++ [recordEndNotice r res s] := by
  rw [endRecord_link res h, appendNotice_notices, if_pos hq]

/-- What a change that keeps a tag leaves to be found. -/
theorem find_onRecord (s : State) (t : Nat) {tag : Nat} {f : Record → Record}
    (hf : ∀ r, r.tag = tag → (f r).tag = tag) :
    (s.onRecord tag f).find t = (s.find t).map (fun r => if r.tag = tag then f r else r) := by
  have hp : (fun r : Record => decide (r.tag = t)) ∘ (fun r => if r.tag = tag then f r else r)
      = fun r => decide (r.tag = t) := by
    funext r
    simp only [Function.comp]
    split
    · next h => rw [hf r h, h]
    · rfl
  rw [State.find, State.onRecord_motion, List.find?_map, hp]
  rfl

/-- R82: a record that has begun a stop with no envelope result ends with the result of its stop. -/
theorem stopResult_stopping {res : Result} (r : Record) (pause : Bool) (h : res ≠ .limited) :
    (r.stopping res pause).stopResult = res := by
  have hl : ¬((r.stopping res pause).pendingResult = some .limited ∧ (r.stopping res pause).reversing = true) :=
    fun hc => h (Option.some.inj hc.1)
  rw [Record.stopResult, if_neg hl]
  rfl

/-- R84: a stop proper that has reached duty 0 ends the record. -/
theorem finishStop_stopping {res : Result} (r : Record) (s : State) (h : res ≠ .limited) :
    finishStop (r.stopping res false) s = endRecord r.tag res (stageZero r.tag r.axis s) := by
  have hres := stopResult_stopping r false h
  unfold finishStop
  cases hq : (r.stopping res false).seq with
  | none => simp only [hres]; rfl
  | some q =>
      have hp : q.pause = false := by
        obtain ⟨_, _, rfl⟩ := Option.map_eq_some_iff.1 hq
        rfl
      simp only [hres, if_neg h, hp, Bool.false_eq_true, if_false]
      rfl

/-- The notice of a record's end does not tell that it was stopping. -/
theorem recordEndNotice_stopping {s t : State} (r : Record) (res : Result) (pause : Bool)
    (h : t.motion.axis = s.motion.axis) : recordEndNotice (r.stopping res pause) res t = recordEndNotice r res s := by
  have hc : (r.stopping res pause).claims = r.claims := by
    funext a
    simp only [Record.claims, Record.stopping]
    cases r.seq <;> rfl
  have hs : (r.stopping res pause).subject = r.subject := by
    simp only [Record.subject, Record.stopping]
    cases r.seq <;> rfl
  simp only [recordEndNotice, hc, hs, State.position, h]
  rfl

/-- R83: a controlled stop of a record that has staged no duty ends it, with its RECORD_END next. -/
theorem enterStopping_ends {res : Result} {r : Record} {s : State} (h : res ≠ .limited) (hd : r.dPrev = 0)
    (hf : s.find r.tag = some r) : Ended r res s (enterStopping r res false s) := by
  let s1 := stageZero r.tag r.axis (s.onRecord r.tag (fun _ => r.stopping res false))
  have he : enterStopping r res false s = endRecord r.tag res s1 := (if_pos hd).trans (finishStop_stopping r _ h)
  have hlink : s1.link = s.link := stageZero_link _ _ _
  have haxis : s1.motion.axis = s.motion.axis := by rw [stageZero_motion]; rfl
  have hfind : s1.find r.tag = some (r.stopping res false) := by
    rw [State.find, stageZero_motion]
    exact (find_onRecord (tag := r.tag) (f := fun _ => r.stopping res false) s r.tag fun _ _ => rfl).trans (by simp [hf])
  rw [he]
  refine ⟨endRecord_find _ _ _, fun hq => ?_⟩
  rw [endRecord_notices res hfind (hlink ▸ hq), hlink, recordEndNotice_stopping r res false haxis]

/-- An end stays an end whatever the list does next. -/
theorem ListChange.ended {s t u : State} {r : Record} {res : Result} (h : Ended r res s t) (k : ListChange t u) :
    Ended r res s u :=
  ⟨k.find_none h.1, fun hq => (h.2 hq).trans k.notices⟩

/-- R83, R45, R39: a controlled stop of a record that has staged no duty, with the attempts it owes. -/
theorem settle_enterStopping_ends {res : Result} {r : Record} {s : State} (h : res ≠ .limited) (hd : r.dPrev = 0)
    (hf : s.find r.tag = some r) :
    Ended r res s (settle (enterStopping r res false s))
      ∧ (settle (enterStopping r res false s)).motion.axis = s.motion.axis
      ∧ Kept s (settle (enterStopping r res false s)) := by
  have hch : ListChange s (settle (enterStopping r res false s)) :=
    (ListChange.enterStopping r res false s).trans (.settle _)
  exact ⟨ListChange.ended (enterStopping_ends h hd hf) (.settle _), hch.axis, hch.kept⟩

/-! ### Stops of every record (R58, R116, R126) -/

/-- A record after a change of those with one tag: it is changed, or has another tag and stood before. -/
theorem mem_onRecord {s : State} {tag : Nat} {f : Record → Record} {x : Record}
    (h : x ∈ (s.onRecord tag f).motion.records) :
    (∃ y ∈ s.motion.records, y.tag = tag ∧ f y = x) ∨ (x ∈ s.motion.records ∧ x.tag ≠ tag) := by
  obtain ⟨y, hy, rfl⟩ := List.mem_map.1 h
  by_cases ht : y.tag = tag
  · exact .inl ⟨y, hy, ht, (if_pos ht).symm⟩
  · rw [if_neg ht]
    exact .inr ⟨hy, ht⟩

/-- An end brings no record into the list, and leaves none with its tag. -/
theorem mem_endRecord {tag : Nat} {res : Result} {s : State} {x : Record}
    (h : x ∈ (endRecord tag res s).motion.records) : x ∈ s.motion.records ∧ x.tag ≠ tag := by
  refine ⟨?_, fun ht => ?_⟩
  · cases hf : s.find tag with
    | none => rwa [endRecord_none res hf] at h
    | some r =>
        rw [endRecord_motion res hf] at h
        exact (List.mem_filter.1 h).1
  · have hn := endRecord_find tag res s
    rw [State.find, List.find?_eq_none] at hn
    exact hn x h (decide_eq_true ht)

/-- With unique tags the record found under a tag is the only one that has it. -/
theorem eq_of_find {s : State} {tag : Nat} {r x : Record} (hn : s.tags.Nodup) (hf : s.find tag = some r)
    (hx : x ∈ s.motion.records) (ht : x.tag = tag) : x = r :=
  List.inj_on_of_nodup_map hn hx (List.mem_of_find?_eq_some hf) (ht.trans (find_tag hf).symm)

/-- R83: a controlled stop leaves its record STOPPING or ended, and the others as they were. -/
theorem mem_enterStopping {res : Result} {r x : Record} {s : State} (h : res ≠ .limited)
    (hx : x ∈ (enterStopping r res false s).motion.records) :
    x.state = .stopping ∨ (x ∈ s.motion.records ∧ x.tag ≠ r.tag) := by
  have hon : ∀ y ∈ (s.onRecord r.tag (fun _ => r.stopping res false)).motion.records,
      y.state = .stopping ∨ (y ∈ s.motion.records ∧ y.tag ≠ r.tag) := by
    intro y hy
    rcases mem_onRecord hy with ⟨_, _, _, rfl⟩ | hy
    · exact .inl rfl
    · exact .inr hy
  by_cases hd : r.dPrev = 0
  · rw [enterStopping, if_pos hd, finishStop_stopping r _ h] at hx
    have hm := (mem_endRecord hx).1
    rw [stageZero_motion] at hm
    exact hon x hm
  · rw [enterStopping, if_neg hd] at hx
    exact hon x hx

/-- R58, R116, R126: a stop proper leaves its record STOPPING or ended, and the others as they were. -/
theorem mem_stopProper {res : Result} {tag : Nat} {r x : Record} {s : State} (h : res ≠ .limited) (hn : s.tags.Nodup)
    (hf : s.find tag = some r) (hx : x ∈ (stopProper res r s).motion.records) :
    x.state = .stopping ∨ (x ∈ s.motion.records ∧ x.tag ≠ tag) := by
  obtain rfl := find_tag hf
  unfold stopProper at hx
  cases hs : r.state <;> simp only [hs] at hx
  case waiting | prewarn | paused => exact .inr (mem_endRecord hx)
  case starting | moving => exact mem_enterStopping h hx
  case stopping =>
    rcases mem_onRecord hx with ⟨y, hy, ht, rfl⟩ | hx
    · left
      obtain rfl := eq_of_find hn hf hy ht
      unfold overtake
      split <;> exact hs
    · exact .inr hx

/-- The stop of the record under a tag, as a stop of every record makes it. -/
def stopTagged (res : Result) (s : State) (t : Nat) : State :=
  match s.find t with
  | some r => stopProper res r s
  | none => s

theorem stopEvery_eq (res : Result) (s : State) :
    stopEvery res s = s.asOneEvent (fun s => s.tags.foldl (stopTagged res) s) := rfl

theorem ListChange.stopTagged (res : Result) (s : State) (t : Nat) : ListChange s (stopTagged res s t) := by
  unfold Machine.stopTagged
  split
  · exact stopProper _ _ _
  · exact refl s

theorem mem_stopTagged {res : Result} {x : Record} {s : State} (t : Nat) (h : res ≠ .limited) (hn : s.tags.Nodup)
    (hx : x ∈ (stopTagged res s t).motion.records) :
    x.state = .stopping ∨ (x ∈ s.motion.records ∧ x.tag ≠ t) := by
  unfold stopTagged at hx
  split at hx
  · next r hf => exact mem_stopProper h hn hf hx
  · next hf =>
    rw [State.find, List.find?_eq_none] at hf
    exact .inr ⟨hx, fun ht => hf x hx (decide_eq_true ht)⟩

theorem mem_foldl_stopTagged {res : Result} (h : res ≠ .limited) : ∀ (l : List Nat) {x : Record} {s : State},
    s.tags.Nodup → x ∈ (l.foldl (stopTagged res) s).motion.records →
      x.state = .stopping ∨ (x ∈ s.motion.records ∧ x.tag ∉ l)
  | [], _, _, _, hx => .inr ⟨hx, List.not_mem_nil⟩
  | t :: l, x, s, hn, hx => by
      rcases mem_foldl_stopTagged h l (hn.sublist (ListChange.stopTagged res s t).tags) hx with hs | ⟨hm, hl⟩
      · exact .inl hs
      · rcases mem_stopTagged t h hn hm with hs | ⟨hm, ht⟩
        · exact .inl hs
        · exact .inr ⟨hm, fun hc => (List.mem_cons.1 hc).elim ht hl⟩

/-- R58, R117, R126: a stop of every record leaves none that is not STOPPING. -/
theorem stopEvery_stopping {res : Result} {s : State} (h : res ≠ .limited) (hn : s.tags.Nodup) :
    ∀ r ∈ (stopEvery res s).motion.records, r.state = .stopping := by
  intro r hr
  rw [stopEvery_eq] at hr
  rcases mem_foldl_stopTagged h s.tags hn hr with hs | ⟨hm, ht⟩
  · exact hs
  · exact absurd (List.mem_map_of_mem hm) ht

/-! ### The figures of SC5 to SC7 (R5, R10, R12) -/

/-- R5: a conversion of a channel that is not dual-track completes 25 µs after it began, with this code. -/
theorem exec_conversionComplete_of_single {s : State} {c : Channel} {cv : Conversion} (code : RawCode)
    (hd : dualTrack s.profile.calibration c = none) (hc : (s.sense.get c).conversion = some cv) :
    exec (.conversionComplete c code) s =
      .next (deliver c cv (codeValue cv.mode code) none (s.upTo (cv.began + 25))) := by
  change execConversionComplete c code s = _
  simp only [execConversionComplete, hc, hd, Config.conversionTime]

/-- The nearer bound as a maximum of a minimum. -/
theorem clampTo_eq {lo hi : Int} (x : Int) (h : lo ≤ hi) : clampTo lo hi x = max lo (min hi x) := by
  unfold clampTo
  split
  · omega
  · split <;> omega

theorem figureClamp_pitch (u : Int) : figureClamp .pitch u = max (-150) (min 150 u) := clampTo_eq u (by decide)

theorem figureClamp_pressure (u : Int) : figureClamp .pressure u = max 0 (min 2500 u) := clampTo_eq u (by decide)

theorem figureClamp_battery (u : Int) : figureClamp .battery u = max 0 (min 400 u) := clampTo_eq u (by decide)

/-- R10, R12: a code in range gives the clamped figure, and one out of range none. -/
theorem figureOf_eq (s : State) (c : Channel) (code : Int) :
    figureOf s c code =
      if (s.profile.calibration.channel.get c).clo ≤ code ∧ code ≤ (s.profile.calibration.channel.get c).chi then
        some (figureClamp c ((s.profile.calibration.channel.get c).points.scale code))
      else none := by
  simp only [figureOf, ChannelCal.inRange, Bool.and_eq_true, decide_eq_true_eq]

/-- R12: the channel takes a figure that is there on a condition. -/
theorem takeFigure_ite (P : Prop) [Decidable P] (c : Channel) (code x : Int) (s : State) :
    takeFigure c code (if P then some x else none) s =
      s.onChannel c (fun ch => { ch with
        code := some code, value := if P then some x else ch.value, valid := decide P, healthy := decide P
        conversion := none, clearable := decide P }) := by
  by_cases h : P <;> simp [takeFigure, h]

/-! ### The overload watch (R87) -/

section Overload

variable {s : State} {r : Record} {v? : Option Int}

/-- R87: only a LIFT raise in MOVING is watched. -/
theorem judgeOverload_of_other (v? : Option Int)
    (h : ∀ r, s.mover .lift = some r → r.state ≠ .moving ∨ r.dir = .dec) : judgeOverload v? s = s := by
  unfold judgeOverload
  split
  · rfl
  · next r hm =>
    refine if_neg fun ⟨hst, hd⟩ => ?_
    rcases h r hm with hn | hn
    · exact hn hst
    · rw [hd] at hn; cases hn

/-- R87: the first pressure above P_max starts the watch. -/
theorem judgeOverload_starts {v : Int} (hm : s.mover .lift = some r) (hst : r.state = .moving) (hd : r.dir = .inc)
    (hv : (s.profile.limits.pMax : Int) < v) (ho : r.overload = none) :
    judgeOverload (some v) s = s.onRecord r.tag (fun r => { r with overload := some s.clock }) := by
  simp only [judgeOverload, hm, hst, hd, ho, hv, and_self, if_true]

/-- R87: a sample that is not above P_max clears the watch. -/
theorem judgeOverload_clears (hm : s.mover .lift = some r) (hst : r.state = .moving) (hd : r.dir = .inc)
    (hv : ∀ v ∈ v?, ¬(s.profile.limits.pMax : Int) < v) (ho : r.overload.isSome = true) :
    judgeOverload v? s = s.onRecord r.tag (fun r => { r with overload := none }) := by
  obtain ⟨t, ht⟩ := Option.isSome_iff_exists.1 ho
  cases v? with
  | none => simp only [judgeOverload, hm, hst, hd, and_self, if_true]
  | some v => simp only [judgeOverload, hm, hst, hd, ht, hv v rfl, and_self, if_true, if_false]

/-- R87: a pressure still above P_max begins a controlled stop once the watch has run for 200 ms. -/
theorem judgeOverload_runs {v : Int} {b : Nat} (hm : s.mover .lift = some r) (hst : r.state = .moving)
    (hd : r.dir = .inc) (hv : (s.profile.limits.pMax : Int) < v) (ho : r.overload = some b) :
    judgeOverload (some v) s = if b + 200000 ≤ s.clock then enterStopping r .overload false s else s := by
  simp only [judgeOverload, hm, hst, hd, ho, hv, and_self, if_true, Config.overloadLimit, Config.ms]
  rfl

end Overload

/-! ### The supply state (R125, R126) -/

/-- R125, R126: a supply judgement changes only the runs, or cuts a NORMAL supply, or restores a CUT one. -/
theorem judgeSupply_cases (v? : Option Int) (s : State) :
    (∃ low recovery, judgeSupply v? s = s.onMotion (fun m => { m with lowRun := low, recoveryRun := recovery }))
      ∨ (s.motion.supply = .normal ∧ judgeSupply v? s = cutSupply s)
      ∨ (s.motion.supply = .cut ∧ judgeSupply v? s = restoreSupply s) := by
  unfold judgeSupply
  split
  · exact .inl ⟨none, none, rfl⟩
  · next v hs =>
    split
    · split
      · exact .inl ⟨_, _, rfl⟩
      · split
        · exact .inr (.inl ⟨hs, rfl⟩)
        · exact .inl ⟨_, _, rfl⟩
    · exact .inl ⟨none, _, rfl⟩
  · next v hs =>
    split
    · split
      · exact .inl ⟨_, _, rfl⟩
      · split
        · exact .inr (.inr ⟨hs, rfl⟩)
        · exact .inl ⟨_, _, rfl⟩
    · exact .inl ⟨_, none, rfl⟩

/-- The state as a supply CUT stands, its notice appended, before any record is stopped. -/
def supplyCutNoted (s : State) : State :=
  appendNotice (.supply .cut s.volts)
    (s.onMotion (fun m => { m with supply := .cut, lowRun := none, recoveryRun := none }))

/-- R126: the stops of a supply CUT are changes of the list after its notice. -/
theorem cutSupply_listChange (s : State) : ListChange (supplyCutNoted s) (cutSupply s) :=
  (ListChange.stopEvery .supplyLow (supplyCutNoted s)).trans (.settle _)

/-- R126: a supply CUT leaves no record that is not STOPPING. -/
theorem cutSupply_stopping {s : State} (hn : s.tags.Nodup) :
    ∀ r ∈ (cutSupply s).motion.records, r.state = .stopping := by
  have hstop : ∀ r ∈ (stopEvery .supplyLow (supplyCutNoted s)).motion.records, r.state = .stopping :=
    stopEvery_stopping (by decide) hn
  have hw : (stopEvery .supplyLow (supplyCutNoted s)).NoneWaits := fun r hr => by
    rw [hstop r hr]
    decide
  have he : cutSupply s = settle (stopEvery .supplyLow (supplyCutNoted s)) := rfl
  rw [he, settle_of_noneWaits hw]
  exact hstop

/-- R125, R126: a supply judgement leaves everything but the supply state, its runs, the list and the notices. -/
theorem judgeSupply_listChange (v? : Option Int) (s : State) : ∃ supply low recovery,
    ListChange (s.onMotion (fun m => { m with supply := supply, lowRun := low, recoveryRun := recovery }))
      (judgeSupply v? s) := by
  rcases judgeSupply_cases v? s with ⟨low, recovery, h⟩ | ⟨_, h⟩ | ⟨_, h⟩
  · exact ⟨s.motion.supply, low, recovery, h ▸ .refl _⟩
  · exact ⟨.cut, none, none, h ▸ (ListChange.appendNotice _ _).trans (cutSupply_listChange s)⟩
  · exact ⟨.normal, none, none, h ▸ .appendNotice _ _⟩

/-- R126: a supply judgement that leaves the supply state appends no notice. -/
theorem judgeSupply_link {v? : Option Int} {s : State} (h : (judgeSupply v? s).motion.supply = s.motion.supply) :
    (judgeSupply v? s).link = s.link := by
  rcases judgeSupply_cases v? s with ⟨_, _, he⟩ | ⟨hs, he⟩ | ⟨hs, he⟩
  · rw [he]; rfl
  · rw [he, (cutSupply_listChange s).supply, hs] at h; cases h
  · rw [he, hs] at h; cases h

/-- R126: a supply judgement that leaves a NORMAL supply CUT has cut it. -/
theorem judgeSupply_cuts {v? : Option Int} {s : State} (hs : s.motion.supply = .normal)
    (h : (judgeSupply v? s).motion.supply = .cut) : judgeSupply v? s = cutSupply s := by
  rcases judgeSupply_cases v? s with ⟨_, _, he⟩ | ⟨_, he⟩ | ⟨hc, _⟩
  · rw [he, State.onMotion_motion, hs] at h; cases h
  · exact he
  · rw [hs] at hc; cases hc

/-- R125: a supply judgement that leaves a CUT supply NORMAL has restored it. -/
theorem judgeSupply_restores {v? : Option Int} {s : State} (hs : s.motion.supply = .cut)
    (h : (judgeSupply v? s).motion.supply = .normal) : judgeSupply v? s = restoreSupply s := by
  rcases judgeSupply_cases v? s with ⟨_, _, he⟩ | ⟨hn, _⟩ | ⟨_, he⟩
  · rw [he, State.onMotion_motion, hs] at h; cases h
  · rw [hs] at hn; cases hn
  · exact he

section Normal

variable {s : State} {v : Int} (hs : s.motion.supply = .normal)
include hs

/-- R125: a V not below V_cut ends the low run of a NORMAL supply. -/
theorem judgeSupply_not_low (hv : 190 ≤ v) : judgeSupply (some v) s = s.onMotion (fun m => { m with lowRun := none }) := by
  simp only [judgeSupply, hs, Config.cutBelow, Int.not_lt.2 hv, if_false]

/-- R125: a V below V_cut begins the low run of a NORMAL supply. -/
theorem judgeSupply_low_begins (hv : v < 190) (hr : s.motion.lowRun = none) :
    judgeSupply (some v) s = s.onMotion (fun m => { m with lowRun := some s.clock }) := by
  simp only [judgeSupply, hs, Config.cutBelow, hv, if_true, hr]

/-- R125: a low run cuts the supply at 500 ms. -/
theorem judgeSupply_low_runs {b : Nat} (hv : v < 190) (hr : s.motion.lowRun = some b) :
    judgeSupply (some v) s = if b + 500000 ≤ s.clock then cutSupply s else s := by
  simp only [judgeSupply, hs, Config.cutBelow, hv, if_true, hr, Config.lowRunLimit, Config.ms]
  rfl

end Normal

section Cut

variable {s : State} {v : Int} (hs : s.motion.supply = .cut)
include hs

/-- R125: a V below V_rec ends the recovery run of a CUT supply. -/
theorem judgeSupply_not_recovering (hv : v < 210) :
    judgeSupply (some v) s = s.onMotion (fun m => { m with recoveryRun := none }) := by
  simp only [judgeSupply, hs, Config.recoverFrom, Int.not_le.2 hv, if_false]

/-- R125: a V from V_rec on begins the recovery run of a CUT supply. -/
theorem judgeSupply_recovery_begins (hv : 210 ≤ v) (hr : s.motion.recoveryRun = none) :
    judgeSupply (some v) s = s.onMotion (fun m => { m with recoveryRun := some s.clock }) := by
  simp only [judgeSupply, hs, Config.recoverFrom, hv, if_true, hr]

/-- R125: a recovery run restores the supply at 1000 ms. -/
theorem judgeSupply_recovery_runs {b : Nat} (hv : 210 ≤ v) (hr : s.motion.recoveryRun = some b) :
    judgeSupply (some v) s = if b + 1000000 ≤ s.clock then restoreSupply s else s := by
  simp only [judgeSupply, hs, Config.recoverFrom, hv, if_true, hr, Config.recoveryRunLimit, Config.ms]
  rfl

end Cut

/-! ### The budget (R36, R39) -/

/-- The state with the budget that a voltage gives. -/
def withBudget (v : Int) (s : State) : State := s.onMotion (fun m => { m with budget := budgetFor s.profile.limits v })

/-- R36, R39: what a new budget makes of the list is changes of the list. -/
theorem recomputeBudget_listChange (v : Int) (s : State) : ListChange (withBudget v s) (recomputeBudget v s) :=
  (ListChange.oweAttempt _).trans <| (ListChange.settle _).trans (.endFailedSteps _)

/-- R39: with none waiting, a new budget changes nothing else. -/
theorem recomputeBudget_of_noneWaits {s : State} (v : Int) (hd : s.motion.attemptsDue = 0) (hw : s.NoneWaits) :
    recomputeBudget v s = withBudget v s := by
  have hset : settle ((withBudget v s).oweAttempt) = withBudget v s := by
    rw [settle_of_noneWaits (s := (withBudget v s).oweAttempt) hw]
    simp only [withBudget, State.oweAttempt, State.onMotion, ← hd]
  change endFailedSteps (settle ((withBudget v s).oweAttempt)) = _
  rw [hset]
  exact endFailedSteps_of_none hd fun r hr => failsWaiting_of_ne _ (hw r hr)

/-- R36: from V_full on the budget is B_nom. -/
theorem budgetFor_of_full {l : Limits} {v : Int} (h : l.vFull ≤ v) : budgetFor l v = l.bNom := if_pos h

/-- R36: up to V_zero the budget is 0. -/
theorem budgetFor_of_zero {l : Limits} {v : Int} (h : l.vZero < l.vFull) (hv : v ≤ l.vZero) : budgetFor l v = 0 := by
  rw [budgetFor, if_neg (by omega), if_pos hv]

/-- R36: between V_zero and V_full the budget is the truncated quotient of the exact product. -/
theorem budgetFor_between {l : Limits} {v : Int} (h0 : l.vZero < v) (h1 : v < l.vFull) :
    (budgetFor l v : Int) * (l.vFull - l.vZero) ≤ l.bNom * (v - l.vZero)
      ∧ (l.bNom : Int) * (v - l.vZero) < (budgetFor l v + 1) * (l.vFull - l.vZero) := by
  have hp : (0 : Int) ≤ l.bNom * (v - l.vZero) := Int.mul_nonneg (by omega) (by omega)
  have hw : 0 < l.vFull - l.vZero := by omega
  have hb : (budgetFor l v : Int) = l.bNom * (v - l.vZero) / (l.vFull - l.vZero) := by
    rw [budgetFor, if_neg (by omega), if_neg (by omega), Int.tdiv_eq_ediv_of_nonneg hp,
      Int.toNat_of_nonneg (Int.ediv_nonneg hp hw.le)]
  rw [hb]
  exact ⟨Int.ediv_mul_le _ hw.ne', Int.lt_ediv_add_one_mul_self _ hw⟩

/-! ### Delivered figures (R9, R12, R36, R87, R125) -/

/-- R5, R12: a completed conversion of SC5 gives the pitch figure. -/
theorem exec_conversionComplete_pitch {s : State} {cv : Conversion} (code : RawCode)
    (hc : s.sense.pitch.conversion = some cv) :
    exec (.conversionComplete .pitch code) s =
      .next (takeFigure .pitch (codeValue cv.mode code) (figureOf s .pitch (codeValue cv.mode code))
        (s.upTo (cv.began + 25))) :=
  exec_conversionComplete_of_single code rfl hc

/-- R9, R87: the overload watch is judged after the pressure figure. -/
theorem exec_conversionComplete_pressure {s : State} {cv : Conversion} (code : RawCode)
    (hc : s.sense.pressure.conversion = some cv) :
    exec (.conversionComplete .pressure code) s =
      .next (settle (judgeOverload (figureOf s .pressure (codeValue cv.mode code))
        (takeFigure .pressure (codeValue cv.mode code) (figureOf s .pressure (codeValue cv.mode code))
          (s.upTo (cv.began + 25))))) :=
  exec_conversionComplete_of_single code rfl hc

/-- R9, R36, R125: the budget and the supply are judged after the battery figure. -/
theorem exec_conversionComplete_battery {s : State} {cv : Conversion} (code : RawCode)
    (hc : s.sense.battery.conversion = some cv) :
    exec (.conversionComplete .battery code) s =
      .next (deliverBattery (figureOf s .battery (codeValue cv.mode code))
        (takeFigure .battery (codeValue cv.mode code) (figureOf s .battery (codeValue cv.mode code))
          (s.upTo (cv.began + 25)))) :=
  exec_conversionComplete_of_single code rfl hc

/-- R36, R125: an SC7 value is judged for the supply on what its budget has made of the list. -/
theorem deliverBattery_eq (v : Int) (s : State) :
    ∃ w, ListChange (withBudget v s) w ∧ deliverBattery (some v) s = judgeSupply (some v) w :=
  ⟨_, recomputeBudget_listChange v s, rfl⟩

section Battery

variable {s t : State} {v : Int} (ht : deliverBattery (some v) s = t)
include ht

/-- R36, R125: what the delivery of an SC7 value leaves. -/
theorem deliverBattery_keeps : t.clock = s.clock ∧ t.sense.battery = s.sense.battery
    ∧ t.motion.budget = budgetFor s.profile.limits v ∧ s.link.notices <+: t.link.notices := by
  obtain ⟨w, hw, rfl⟩ := ht ▸ deliverBattery_eq v s
  obtain ⟨_, _, _, hj⟩ := judgeSupply_listChange (some v) w
  have hsense : (judgeSupply (some v) w).sense.battery = s.sense.battery := by
    rw [hj.sense, State.onMotion_sense, hw.sense]
    rfl
  exact ⟨hj.clock.trans hw.clock, hsense, hj.budget.trans hw.budget,
    hw.notices.trans hj.notices⟩

/-- R126: with no record in WAITING for the attempt of the sample, the notices of an SC7 value are those of a change of
the supply state. -/
theorem deliverBattery_notices (hd : s.motion.attemptsDue = 0) (hw : s.NoneWaits) (hq : s.link.notices.length < 16) :
    (t.motion.supply = s.motion.supply → t.link = s.link)
      ∧ (s.motion.supply = .normal → t.motion.supply = .cut →
        (s.link.notices ++ [.supply .cut s.volts]) <+: t.link.notices)
      ∧ (s.motion.supply = .cut → t.motion.supply = .normal →
        t.link = { s.link with notices := s.link.notices ++ [.supply .normal s.volts] }) := by
  have he : judgeSupply (some v) (withBudget v s) = t := by
    rw [← recomputeBudget_of_noneWaits v hd hw]
    exact ht
  subst he
  refine ⟨judgeSupply_link (s := withBudget v s), fun hs hc => ?_, fun hs hn => ?_⟩
  · rw [judgeSupply_cuts (s := withBudget v s) hs hc]
    have hn : (supplyCutNoted (withBudget v s)).link.notices = s.link.notices ++ [.supply .cut s.volts] :=
      (appendNotice_notices _ _).trans (if_pos hq)
    exact hn ▸ (cutSupply_listChange (withBudget v s)).notices
  · rw [judgeSupply_restores (s := withBudget v s) hs hn]
    exact if_pos hq

/-- R125: the low run of a NORMAL supply at an SC7 value. -/
theorem deliverBattery_normal (hs : s.motion.supply = .normal) :
    (190 ≤ v → t.motion.supply = .normal ∧ t.motion.lowRun = none)
      ∧ (v < 190 → s.motion.lowRun = none → t.motion.supply = .normal ∧ t.motion.lowRun = some s.clock)
      ∧ (v < 190 → ∀ b, s.motion.lowRun = some b → s.clock < b + 500000 →
        t.motion.supply = .normal ∧ t.motion.lowRun = some b)
      ∧ (v < 190 → ∀ b, s.motion.lowRun = some b → b + 500000 ≤ s.clock → s.tags.Nodup →
        t.motion.supply = .cut ∧ t.motion.lowRun = none ∧ t.motion.recoveryRun = none
          ∧ (∀ r ∈ t.motion.records, r.state = .stopping)) := by
  obtain ⟨w, hw, rfl⟩ := ht ▸ deliverBattery_eq v s
  have hsup : w.motion.supply = .normal := hw.supply.trans hs
  have hrun : w.motion.lowRun = s.motion.lowRun := hw.lowRun
  have hclock : w.clock = s.clock := hw.clock
  refine ⟨fun hv => ?_, fun hv hr => ?_, fun hv b hr hb => ?_, fun hv b hr hb hn => ?_⟩
  · rw [judgeSupply_not_low hsup hv]
    exact ⟨hsup, rfl⟩
  · rw [judgeSupply_low_begins hsup hv (hrun.trans hr), hclock]
    exact ⟨hsup, rfl⟩
  · rw [judgeSupply_low_runs hsup hv (hrun.trans hr), hclock, if_neg (Nat.not_le.2 hb)]
    exact ⟨hsup, hrun.trans hr⟩
  · rw [judgeSupply_low_runs hsup hv (hrun.trans hr), hclock, if_pos hb]
    have hc := cutSupply_listChange w
    exact ⟨hc.supply, hc.lowRun, hc.recoveryRun, cutSupply_stopping (hn.sublist hw.tags)⟩

/-- R125: the recovery run of a CUT supply at an SC7 value. -/
theorem deliverBattery_cut (hs : s.motion.supply = .cut) :
    (v < 210 → t.motion.supply = .cut ∧ t.motion.recoveryRun = none)
      ∧ (210 ≤ v → s.motion.recoveryRun = none → t.motion.supply = .cut ∧ t.motion.recoveryRun = some s.clock)
      ∧ (210 ≤ v → ∀ b, s.motion.recoveryRun = some b → s.clock < b + 1000000 →
        t.motion.supply = .cut ∧ t.motion.recoveryRun = some b)
      ∧ (210 ≤ v → ∀ b, s.motion.recoveryRun = some b → b + 1000000 ≤ s.clock →
        t.motion.supply = .normal ∧ t.motion.lowRun = none ∧ t.motion.recoveryRun = none) := by
  obtain ⟨w, hw, rfl⟩ := ht ▸ deliverBattery_eq v s
  have hsup : w.motion.supply = .cut := hw.supply.trans hs
  have hrun : w.motion.recoveryRun = s.motion.recoveryRun := hw.recoveryRun
  have hclock : w.clock = s.clock := hw.clock
  refine ⟨fun hv => ?_, fun hv hr => ?_, fun hv b hr hb => ?_, fun hv b hr hb => ?_⟩
  · rw [judgeSupply_not_recovering hsup hv]
    exact ⟨hsup, rfl⟩
  · rw [judgeSupply_recovery_begins hsup hv (hrun.trans hr), hclock]
    exact ⟨hsup, rfl⟩
  · rw [judgeSupply_recovery_runs hsup hv (hrun.trans hr), hclock, if_neg (Nat.not_le.2 hb)]
    exact ⟨hsup, hrun.trans hr⟩
  · rw [judgeSupply_recovery_runs hsup hv (hrun.trans hr), hclock, if_pos hb]
    exact ⟨rfl, rfl, rfl⟩

end Battery

/-- With no attempt owed an outcome's state is settled. -/
theorem next_settle {s : State} (h : s.motion.attemptsDue = 0) :
    (.next (settle s) : Host.Outcome State Fault Refusal) = .next s := by
  rw [settle_of_settled h]

/-- Settles O28, channel by channel: the figure is taken first, then the overload watch, or the budget and the supply,
is judged on the state that has it. -/
theorem figuresAreDelivered : Obligations.FiguresAreDelivered := by
  refine ⟨?pitch, ?pressure, ?battery, fun l v h => ⟨budgetFor_of_full, budgetFor_of_zero h, budgetFor_between⟩⟩
  case pitch =>
    intro s code cv k c u hc
    rw [exec_conversionComplete_pitch code hc, figureOf_eq, takeFigure_ite, figureClamp_pitch]
    rfl
  case pressure =>
    intro s code cv k c u v now taken hc hd
    have hfig : figureOf s .pressure c = if k.clo ≤ c ∧ c ≤ k.chi then some v else none := by
      rw [figureOf_eq, figureClamp_pressure]
      rfl
    have htaken : takeFigure .pressure c (figureOf s .pressure c) (s.upTo (cv.began + 25)) = taken := by
      rw [hfig, takeFigure_ite]
      rfl
    have hexec : exec (.conversionComplete .pressure code) s =
        .next (settle (judgeOverload (figureOf s .pressure c) taken)) := by
      rw [exec_conversionComplete_pressure code hc, htaken]
    have habove (h : k.clo ≤ c ∧ c ≤ k.chi ∧ (s.profile.limits.pMax : Int) < v) :
        figureOf s .pressure c = some v := hfig.trans (if_pos ⟨h.1, h.2.1⟩)
    have hnot (h : ¬(k.clo ≤ c ∧ c ≤ k.chi ∧ (s.profile.limits.pMax : Int) < v)) :
        ∀ x ∈ figureOf s .pressure c, ¬(s.profile.limits.pMax : Int) < x := by
      intro x hx hlt
      rw [hfig, Option.mem_def, Option.ite_none_right_eq_some] at hx
      obtain ⟨⟨hlo, hhi⟩, hxv⟩ := hx
      exact h ⟨hlo, hhi, (Option.some.inj hxv) ▸ hlt⟩
    rw [hexec]
    refine ⟨fun hother => ?_, fun r hm hst hdir => ⟨fun ha ho => ?_, fun ha ho => ?_, fun ha b ho => ⟨?_, ?_, ?_⟩⟩⟩
    · rw [judgeOverload_of_other (s := taken) _ hother]
      exact next_settle hd
    · rw [habove ha, judgeOverload_starts (s := taken) hm hst hdir ha.2.2 ho]
      exact next_settle hd
    · rw [judgeOverload_clears (s := taken) hm hst hdir (hnot ha) ho]
      exact next_settle hd
    · intro hb
      rw [habove ha, judgeOverload_runs (s := taken) hm hst hdir ha.2.2 ho, if_neg (Nat.not_le.2 hb)]
      exact next_settle hd
    · intro hb hp
      rw [habove ha, judgeOverload_runs (s := taken) hm hst hdir ha.2.2 ho, if_pos hb, enterStopping, if_neg hp]
      exact next_settle hd
    · intro hb hp hf
      rw [habove ha, judgeOverload_runs (s := taken) hm hst hdir ha.2.2 ho, if_pos hb]
      exact ⟨_, rfl, settle_enterStopping_ends (by decide) hp hf⟩
  case battery =>
    intro s code cv k c u v now hc
    have hfig : figureOf s .battery c = if k.clo ≤ c ∧ c ≤ k.chi then some v else none := by
      rw [figureOf_eq, figureClamp_battery]
      rfl
    rw [exec_conversionComplete_battery code hc]
    refine ⟨fun hlo hhi => ?_, fun hout => ?_⟩
    · have hv : figureOf s .battery c = some v := hfig.trans (if_pos ⟨hlo, hhi⟩)
      rw [show codeValue cv.mode code = c from rfl, hv]
      generalize ht : deliverBattery (some v) (takeFigure .battery c (some v) (s.upTo (cv.began + 25))) = t
      obtain ⟨hclock, hsense, hbudget, hnotices⟩ := deliverBattery_keeps ht
      exact ⟨t, rfl, hclock, congrArg SenseChannel.value hsense, congrArg SenseChannel.healthy hsense, hbudget, hnotices,
        deliverBattery_notices ht, deliverBattery_normal ht, deliverBattery_cut ht⟩
    · have hv : figureOf s .battery c = none := hfig.trans (if_neg (by omega))
      rw [show codeValue cv.mode code = c from rfl, hv]
      rfl

end Sys2Proof.Machine

namespace Sys2Proof.Machine

/-! ### What a grant, an end or a step is made of -/

/-- A record's claims read its sequence fields where it has some, and else its axis. -/
theorem claims_of_seq {r : Record} {q : SeqFields} (h : r.seq = some q) : r.claims = q.claimed.get := by
  funext a
  rw [Record.claims, h]

theorem formMarks_claims (s : State) (r : Record) : (formMarks s r).claims = r.claims := by
  unfold formMarks
  split <;> rfl

/-- R99: a formed step leaves the claims of its SEQUENCE. -/
theorem formStep_claims {s : State} {r r1 : Record} {q : SeqFields} (hq : r.seq = some q)
    (h : formStep s r q = some r1) : r1.claims = r.claims := by
  unfold formStep at h
  split at h
  · cases h
  · obtain ⟨x, -, rfl⟩ := Option.map_eq_some_iff.1 h
    rw [claims_of_seq hq]
    rfl

theorem claims_seq_map {r x : Record} {f : SeqFields → SeqFields} (ha : x.axis = r.axis) (hs : x.seq = r.seq.map f)
    (hf : ∀ q, (f q).claimed = q.claimed) : x.claims = r.claims := by
  funext a
  unfold Record.claims
  rw [hs, ha]
  cases r.seq with
  | none => rfl
  | some q => exact congrArg (fun p => PerAxis.get p a) (hf q)

/-- One change that ends, grants and steps of records are made of. No record takes claims that the list did not hold,
no output is touched but by the rules of R136, R137 and R140, the disagreement count and the sensor verdict of a channel
are no part of any of them, and notices come only through the queue's own append. -/
inductive GrantEffect : State → State → Prop
  | claim (tag : Nat) (s : State) (o : DriveOut) : GrantEffect s (claimOut tag s o)
  | release (s : State) (o : DriveOut) : GrantEffect s (releaseOut s o)
  | force (s : State) (o : DriveOut) : GrantEffect s (forceImmediate s o)
  | stage (tag duty : Nat) (hit : Bool) (s : State) (o : DriveOut) : GrantEffect s (stageOut tag duty hit s o)
  | channel (s : State) (a : Axis) (f : SenseChannel → SenseChannel)
      (hf : ∀ c, (f c).disagree = c.disagree ∧ (f c).clearable = c.clearable) : GrantEffect s (s.onChannel (.axis a) f)
  | records (s : State) (f : Record → Record) (hf : ∀ r, (f r).tag = r.tag)
      (hc : ∀ r ∈ s.motion.records, ∃ x ∈ s.motion.records, (f r).claims = x.claims) :
      GrantEffect s (s.onMotion (fun m => { m with records := m.records.map f }))
  | remove (s : State) (tag : Nat) : GrantEffect s (removeRecord tag s)
  | bank (s : State) (b : Option Nat) : GrantEffect s (s.onMotion (fun m => { m with bank := b }))
  | due (s : State) (n : Nat) : GrantEffect s (s.onMotion (fun m => { m with attemptsDue := n }))
  | prewarn (s : State) (f : List PrewarnEntry → List PrewarnEntry) :
      GrantEffect s (s.onBeacon (fun b => { b with prewarn := f b.prewarn }))
  | buttons (s : State) (tag : Nat) : GrantEffect s (clearButtonTags tag s)
  | notice (n : Notice) (s : State) : GrantEffect s (appendNotice n s)

/-- Such changes one after another. -/
abbrev GrantEffects : State → State → Prop := Relation.ReflTransGen GrantEffect

/-- A change made to each record that keeps its tag is a change of the list. -/
theorem ListChange.records (s : State) {f : Record → Record} (hf : ∀ r, (f r).tag = r.tag) :
    ListChange s (s.onMotion (fun m => { m with records := m.records.map f })) := by
  refine ⟨rfl, rfl, rfl, rfl, rfl, rfl, rfl, rfl, rfl, rfl, rfl, List.prefix_rfl, ?_⟩
  have ht : (s.onMotion (fun m => { m with records := m.records.map f })).tags = s.tags := by
    simp only [State.tags, State.onMotion_motion, List.map_map]
    exact List.map_congr_left fun r _ => hf r
  rw [ht]

/-- Each of them is a change of the list, so what ListChange leaves alone stands. -/
theorem GrantEffect.listChange {s t : State} (h : GrantEffect s t) : ListChange s t := by
  cases h with
  | claim tag _ o => exact .claimOut tag s o
  | release _ o => exact .releaseOut s o
  | force _ o => exact .forceImmediate s o
  | stage tag duty hit _ o => exact .stageOut tag duty hit s o
  | channel _ a f _ => exact .onAxisChannel s a f
  | records _ f hf _ => exact .records s hf
  | remove _ tag => exact .removeRecord tag s
  | bank _ b => exact .bank s b
  | due _ n => exact .attemptsDue s n
  | prewarn _ f => exact .prewarn s f
  | buttons _ tag => exact .stations s _
  | notice n => exact .appendNotice n s

namespace GrantEffects

theorem listChange {s t : State} (h : GrantEffects s t) : ListChange s t := by
  induction h with
  | refl => exact .refl s
  | tail _ hk ih => exact ih.trans hk.listChange

/-- A change made for each entry of a list. -/
theorem foldl {α : Type} {f : State → α → State} (h : ∀ s x, GrantEffects s (f s x)) :
    ∀ (l : List α) (s : State), GrantEffects s (l.foldl f s)
  | [], _ => .refl
  | x :: l, s => (h s x).trans (foldl h l (f s x))

theorem channel (s : State) (a : Axis) {f : SenseChannel → SenseChannel}
    (hf : ∀ c, (f c).disagree = c.disagree ∧ (f c).clearable = c.clearable := by exact fun _ => ⟨rfl, rfl⟩) :
    GrantEffects s (s.onChannel (.axis a) f) :=
  .single (.channel s a f hf)

/-- A change of the record under a tag that keeps the tag and takes no new claims. -/
theorem record (s : State) (tag : Nat) {f : Record → Record}
    (hf : ∀ r, r.tag = tag → (f r).tag = tag := by exact fun _ h => h)
    (hc : ∀ r ∈ s.motion.records, r.tag = tag → ∃ x ∈ s.motion.records, (f r).claims = x.claims := by
      exact fun r hr _ => ⟨r, hr, rfl⟩) : GrantEffects s (s.onRecord tag f) := by
  refine .single (.records s (fun r => if r.tag = tag then f r else r) (fun r => ?_) fun r hr => ?_)
  · split
    · next h => rw [hf r h, h]
    · rfl
  · split
    · next h => exact hc r hr h
    · exact ⟨r, hr, rfl⟩

theorem due (s : State) (n : Nat) : GrantEffects s (s.onMotion (fun m => { m with attemptsDue := n })) :=
  .single (.due s n)

theorem oweAttempt (s : State) : GrantEffects s s.oweAttempt := due s _

theorem asOneEvent {f : State → State} {s : State} (h : GrantEffects s (f s)) : GrantEffects s (s.asOneEvent f) :=
  h.trans (due (f s) _)

theorem notice (n : Notice) (s : State) : GrantEffects s (appendNotice n s) := .single (.notice n s)

theorem prewarn (s : State) (f : List PrewarnEntry → List PrewarnEntry) :
    GrantEffects s (s.onBeacon (fun b => { b with prewarn := f b.prewarn })) := .single (.prewarn s f)

/-- A change that is made only under a condition. -/
theorem ite {p : Prop} [Decidable p] {s t u : State} (ht : p → GrantEffects s t) (hu : ¬p → GrantEffects s u) :
    GrantEffects s (if p then t else u) := by
  split
  · next h => exact ht h
  · next h => exact hu h

theorem claimOut (tag : Nat) (s : State) (o : DriveOut) : GrantEffects s (claimOut tag s o) := .single (.claim tag s o)
theorem releaseOut (s : State) (o : DriveOut) : GrantEffects s (releaseOut s o) := .single (.release s o)
theorem forceImmediate (s : State) (o : DriveOut) : GrantEffects s (forceImmediate s o) := .single (.force s o)
theorem stageOut (tag duty : Nat) (hit : Bool) (s : State) (o : DriveOut) : GrantEffects s (stageOut tag duty hit s o) :=
  .single (.stage tag duty hit s o)

theorem stageZero (tag : Nat) (a : Axis) (s : State) : GrantEffects s (stageZero tag a s) :=
  foldl (stageOut tag 0 false) (outputsOf a) s

theorem immediateStop (r : Record) (s : State) : GrantEffects s (immediateStop r s) :=
  (foldl forceImmediate (outputsOf r.axis) s).trans (record _ _)

theorem leaveMotion (r : Record) (s : State) : GrantEffects s (leaveMotion r s) :=
  ite (fun _ => (foldl releaseOut (outputsOf r.axis) s).trans (channel _ _)) fun _ => .refl

/-! Ends (R45). -/

theorem endRecord (tag : Nat) (res : Result) (s : State) : GrantEffects s (endRecord tag res s) := by
  unfold Machine.endRecord
  split
  · exact .refl
  · next r _ =>
    exact (leaveMotion r s).trans <| (Relation.ReflTransGen.single (.remove _ tag)).trans <|
      (Relation.ReflTransGen.single (.buttons _ tag)).trans <| (prewarn _ _).trans <| (notice _ _).trans (oweAttempt _)

theorem cutRecord (res : Result) (s : State) (tag : Nat) : GrantEffects s (cutRecord res s tag) := by
  unfold Machine.cutRecord
  split
  · exact .refl
  · next r _ =>
    exact (ite (fun _ => immediateStop r s) fun _ => .refl).trans (endRecord _ _ _)

/-! Starts (R41, R61, R73). -/

theorem prewarnRequest (tag : Nat) (a : Axis) (d : Dir) (time : Nat) (s : State) :
    GrantEffects s (prewarnRequest tag a d time s) := by
  have h : Machine.prewarnRequest tag a d time s = s.onBeacon (fun b =>
      { b with prewarn := (Machine.prewarnRequest tag a d time s).beacon.prewarn }) := by
    simp only [Machine.prewarnRequest, State.onBeacon]
    split <;> rfl
  rw [h]
  exact prewarn s fun _ => (Machine.prewarnRequest tag a d time s).beacon.prewarn

theorem prewarnCancel (tag : Nat) (s : State) : GrantEffects s (prewarnCancel tag s) := prewarn s _

theorem startRecord (r : Record) (reversal : Bool) (s : State) : GrantEffects s (startRecord r reversal s) := by
  have hvalve (s : State) : GrantEffects s (match valveOf r.axis r.dir with
      | some v => Machine.stageOut r.tag 1000 true s v
      | none => s) := by
    split
    · exact stageOut r.tag 1000 true s _
    · exact .refl
  unfold Machine.startRecord
  exact (record s r.tag).trans <| (foldl (claimOut r.tag) _ _).trans <|
    (foldl (stageOut r.tag 0 false) _ _).trans <| (hvalve _).trans (channel _ _)

theorem enterStarting (r : Record) (s : State) : GrantEffects s (enterStarting r s) :=
  (startRecord r false s).trans <| ite (fun _ => (immediateStop r _).trans (endRecord _ _ _)) fun _ => .refl

theorem beginMotion (tag : Nat) (s : State) : GrantEffects s (beginMotion tag s) := by
  unfold Machine.beginMotion
  split
  · exact .refl
  · next r _ =>
    exact (record s tag (f := fun r => { formMarks s r with waitReason := none })
      (fun r h => (formMarks_tag s r).trans h) fun r hr _ => ⟨r, hr, formMarks_claims s r⟩).trans <|
      ite (fun _ => (record _ _).trans (prewarnRequest _ _ _ _ _)) fun _ => enterStarting r _

/-! Pauses, step ends and step starts (R103, R105, R110). -/

theorem pauseRecord (tag : Nat) (s : State) : GrantEffects s (pauseRecord tag s) := by
  unfold Machine.pauseRecord
  split
  · exact .refl
  · next r _ =>
    exact (leaveMotion r s).trans <| (ite (fun _ => prewarnCancel tag _) fun _ => .refl).trans
      (record _ _ (hc := by exact fun r hr _ => ⟨r, hr, claims_seq_map rfl rfl fun _ => rfl⟩))

/-- A change that gives the records of a tag the sequence fields of one of the list, as far as claims go. -/
theorem recordSeq {s : State} {tag : Nat} {r : Record} {q : SeqFields} (hr : r ∈ s.motion.records)
    (hq : r.seq = some q) {f : Record → Record} (hf : ∀ r, r.tag = tag → (f r).tag = tag)
    (hc : ∀ x, (f x).claims = q.claimed.get) : GrantEffects s (s.onRecord tag f) :=
  record s tag hf fun x _ _ => ⟨r, hr, (hc x).trans (claims_of_seq hq).symm⟩

theorem stepAdvance (tag : Nat) (res : Result) (s : State) : GrantEffects s (stepAdvance tag res s) := by
  unfold Machine.stepAdvance
  split
  · exact .refl
  · next r hr =>
    have hm : r ∈ s.motion.records := List.mem_of_find?_eq_some hr
    split
    · exact .refl
    · next q hq =>
      have hfirst : GrantEffects s ((Machine.leaveMotion r s).onRecord tag (fun r =>
          { r with
            state := .waiting, pendingResult := none, waitReason := none, stall := none, overload := none
            currentSince := none, stripArmed := false
            seq := some { q with limited := q.limited || res == .limited } })) :=
        (leaveMotion r s).trans (recordSeq (by rw [leaveMotion_motion]; exact hm) hq (fun _ h => h) fun _ => rfl)
      refine hfirst.trans (ite (fun _ => endRecord _ _ _) fun _ => ?_)
      refine Relation.ReflTransGen.trans (record _ tag (hc := ?_)) (ite (fun _ => pauseRecord _ _) fun _ => .refl)
      refine fun x hx ht => ⟨x, hx, ?_⟩
      rcases mem_onRecord hx with ⟨y, -, -, rfl⟩ | ⟨-, hne⟩
      · rfl
      · exact absurd ht hne

theorem stepStart : ∀ (fuel tag : Nat) (s : State), GrantEffects s (stepStart fuel tag s)
  | 0, _, _ => .refl
  | fuel + 1, tag, s => by
      have hpass (res : Result) (s1 : State) : GrantEffects s1
          (if between (Machine.stepAdvance tag res s1) tag then
            Machine.stepStart fuel tag (Machine.stepAdvance tag res s1)
          else Machine.stepAdvance tag res s1) :=
        (stepAdvance tag res s1).trans (ite (fun _ => stepStart fuel tag _) fun _ => .refl)
      unfold Machine.stepStart
      split
      · exact .refl
      · next r hr =>
        split
        · exact .refl
        · next q hq =>
          split
          · exact endRecord _ _ _
          · next r1 hf =>
            have hform : GrantEffects s (s.onRecord tag (fun _ => r1)) :=
              record s tag (fun _ _ => (formStep_tag hf).trans (find_tag hr)) fun _ _ _ =>
                ⟨r, List.mem_of_find?_eq_some hr, formStep_claims hq hf⟩
            exact hform.trans <|
              ite (fun _ => endRecord _ _ _) fun _ => ite (fun _ => hpass _ _) fun _ => ite (fun _ => hpass _ _) fun _ =>
                ite (fun _ => beginMotion _ _) fun _ => record _ _

theorem stepEnd (tag : Nat) (res : Result) (s : State) : GrantEffects s (stepEnd tag res s) := by
  refine (stepAdvance tag res s).trans ?_
  unfold Machine.stepEnd
  dsimp only
  split
  · exact .refl
  · exact (ite (fun _ => stepStart _ _ _) fun _ => .refl).trans (oweAttempt _)

theorem resumeRecord (tag : Nat) (s : State) : GrantEffects s (resumeRecord tag s) :=
  (record s tag).trans <| (stepStart _ _ _).trans (oweAttempt _)

/-! Grant attempts (R39 to R42, R102). -/

theorem takeGrant (r : Record) (s : State) : GrantEffects s (takeGrant r s) :=
  (record s r.tag (hc := by exact fun r hr _ => ⟨r, hr, claims_seq_map rfl rfl fun _ => rfl⟩)).trans
    (ite (fun _ => .single (.bank _ (some r.tag))) fun _ => .refl)

theorem grantRecord (r : Record) (sc : Scan) (s : State) : GrantEffects s (grantRecord r sc s).state := by
  refine (takeGrant r s).trans ?_
  unfold Machine.grantRecord
  dsimp only
  split
  · split
    · exact .refl
    · exact endRecord _ _ _
  · exact beginMotion _ _

theorem scanFormed (r : Record) (sc : Scan) (s : State) : GrantEffects s (scanFormed r sc s).state := by
  unfold Machine.scanFormed
  split
  · exact record s r.tag
  · split
    · exact record s r.tag
    · split
      · exact endRecord _ _ _
      · exact grantRecord r sc s

theorem scanRecord (sc : Scan) (tag : Nat) : GrantEffects sc.state (scanRecord sc tag).state := by
  unfold Machine.scanRecord
  split
  · exact .refl
  · next r hr =>
    split
    · split
      · exact scanFormed r sc sc.state
      · next q hq =>
        split
        · exact endRecord _ _ _
        · next r1 hf =>
          have hform : GrantEffects sc.state (sc.state.onRecord tag (fun _ => r1)) :=
            record _ tag (fun _ _ => (formStep_tag hf).trans (find_tag hr)) fun _ _ _ =>
              ⟨r, List.mem_of_find?_eq_some hr, formStep_claims hq hf⟩
          exact hform.trans (scanFormed r1 sc _)
    · exact .refl

theorem foldl_scanRecord : ∀ (l : List Nat) (sc : Scan), GrantEffects sc.state (l.foldl Machine.scanRecord sc).state
  | [], _ => .refl
  | t :: l, sc => (scanRecord sc t).trans (foldl_scanRecord l (Machine.scanRecord sc t))

theorem grantAttempt (s : State) : GrantEffects s (grantAttempt s) :=
  (due s _).trans <| (foldl_scanRecord _ ⟨_, false, false, []⟩).trans
    (foldl (f := fun s (x : Nat × Result) => Machine.stepEnd x.1 x.2 s) (fun s x => stepEnd x.1 x.2 s) _ _)

theorem attempts : ∀ (fuel : Nat) (s : State), GrantEffects s (attempts fuel s)
  | 0, _ => .refl
  | fuel + 1, s => by
      unfold Machine.attempts
      exact ite (fun _ => .refl) fun _ => (grantAttempt s).trans (attempts fuel _)

theorem settle (s : State) : GrantEffects s (settle s) := attempts _ s

end GrantEffects

/-! ### What an operation on the motion list is made of -/

/-- One change of those kinds, or one that may also give a record other claims. -/
inductive ListEffect : State → State → Prop
  | grant {s t : State} (h : GrantEffect s t) : ListEffect s t
  | rewrite (s : State) (f : Record → Record) (hf : ∀ r, (f r).tag = r.tag) :
      ListEffect s (s.onMotion (fun m => { m with records := m.records.map f }))

/-- Such changes one after another. -/
abbrev ListEffects : State → State → Prop := Relation.ReflTransGen ListEffect

theorem ListEffect.listChange {s t : State} (h : ListEffect s t) : ListChange s t := by
  cases h with
  | grant h => exact h.listChange
  | rewrite _ hf => exact .records s hf

/-- R91: the record of a closing door as it stands once it has met an obstruction at position p. -/
def reversal (s : State) (r : Record) (p : Int) : Record :=
  let goal := envelopeClamp s r.axis .inc (min (p + 100) (s.limits r.axis).high)
  { r with
    state := .stopping, pendingResult := some .obstructed, dPrev := 0, dir := .inc, target := goal, speed := .slow
    limitMark := goal != min (p + 100) (s.limits r.axis).high, clamped := r.clamped || goal != p + 100
    stall := none, overload := none, currentSince := none }

/-- R91: the state in which a closing door has stopped at once for its reversal. -/
def stoppedForReversal (s : State) (r : Record) (p : Int) : State :=
  (immediateStop r s).onRecord r.tag (fun _ => reversal s r p)

/-- R91: a reversal is refused, or begins. -/
theorem reverseDoor_eq (r : Record) (p : Int) (s : State) :
    reverseDoor r p s =
      if (r.axis == .rdoor && !(r.road && r.warned)) || withinDeadband s r.axis p (reversal s r p).target
          || envelopeBlocked s r.axis .inc then
        endRecord r.tag .obstructed (stoppedForReversal s r p)
      else startRecord (reversal s r p) true (stoppedForReversal s r p) := rfl

namespace ListEffects

theorem ofGrant {s t : State} (h : GrantEffects s t) : ListEffects s t :=
  Relation.ReflTransGen.mono (fun _ _ => ListEffect.grant) _ _ h

theorem listChange {s t : State} (h : ListEffects s t) : ListChange s t := by
  induction h with
  | refl => exact .refl s
  | tail _ hk ih => exact ih.trans hk.listChange

/-- A change made for each entry of a list. -/
theorem foldl {α : Type} {f : State → α → State} (h : ∀ s x, ListEffects s (f s x)) :
    ∀ (l : List α) (s : State), ListEffects s (l.foldl f s)
  | [], _ => .refl
  | x :: l, s => (h s x).trans (foldl h l (f s x))

/-- A change that is made only under a condition. -/
theorem ite {p : Prop} [Decidable p] {s t u : State} (ht : p → ListEffects s t) (hu : ¬p → ListEffects s u) :
    ListEffects s (if p then t else u) := by
  split
  · next h => exact ht h
  · next h => exact hu h

/-- A change of the record under a tag that keeps the tag. -/
theorem record (s : State) (tag : Nat) {f : Record → Record}
    (hf : ∀ r, r.tag = tag → (f r).tag = tag := by exact fun _ h => h) : ListEffects s (s.onRecord tag f) := by
  refine .single (.rewrite s (fun r => if r.tag = tag then f r else r) fun r => ?_)
  split
  · next h => rw [hf r h, h]
  · rfl

theorem due (s : State) (n : Nat) : ListEffects s (s.onMotion (fun m => { m with attemptsDue := n })) := ofGrant (.due s n)

theorem oweAttempt (s : State) : ListEffects s s.oweAttempt := due s _

theorem asOneEvent {f : State → State} {s : State} (h : ListEffects s (f s)) : ListEffects s (s.asOneEvent f) :=
  h.trans (due (f s) _)

theorem notice (n : Notice) (s : State) : ListEffects s (appendNotice n s) := ofGrant (.notice n s)

theorem stageOut (tag duty : Nat) (hit : Bool) (s : State) (o : DriveOut) : ListEffects s (stageOut tag duty hit s o) :=
  ofGrant (.stageOut tag duty hit s o)

theorem stageZero (tag : Nat) (a : Axis) (s : State) : ListEffects s (stageZero tag a s) := ofGrant (.stageZero tag a s)

theorem immediateStop (r : Record) (s : State) : ListEffects s (immediateStop r s) := ofGrant (.immediateStop r s)

theorem endRecord (tag : Nat) (res : Result) (s : State) : ListEffects s (endRecord tag res s) :=
  ofGrant (.endRecord tag res s)

theorem cutRecord (res : Result) (s : State) (tag : Nat) : ListEffects s (cutRecord res s tag) :=
  ofGrant (.cutRecord res s tag)

theorem prewarnCancel (tag : Nat) (s : State) : ListEffects s (prewarnCancel tag s) := ofGrant (.prewarnCancel tag s)

theorem startRecord (r : Record) (reversal : Bool) (s : State) : ListEffects s (startRecord r reversal s) :=
  ofGrant (.startRecord r reversal s)

theorem enterStarting (r : Record) (s : State) : ListEffects s (enterStarting r s) := ofGrant (.enterStarting r s)

theorem pauseRecord (tag : Nat) (s : State) : ListEffects s (pauseRecord tag s) := ofGrant (.pauseRecord tag s)

theorem stepEnd (tag : Nat) (res : Result) (s : State) : ListEffects s (stepEnd tag res s) := ofGrant (.stepEnd tag res s)

theorem resumeRecord (tag : Nat) (s : State) : ListEffects s (resumeRecord tag s) := ofGrant (.resumeRecord tag s)

theorem settle (s : State) : ListEffects s (settle s) := ofGrant (.settle s)

theorem endFailedSteps (s : State) : ListEffects s (endFailedSteps s) := by
  refine Relation.ReflTransGen.trans (foldl (fun s t => ?_) s.tags s) (settle _)
  split
  · exact ite (fun _ => endRecord _ _ _) fun _ => .refl
  · exact .refl

/-! Stops (R82 to R84, R94, R108, R116). -/

theorem finishStop (r : Record) (s : State) : ListEffects s (finishStop r s) := by
  refine (stageZero r.tag r.axis s).trans ?_
  unfold Machine.finishStop
  dsimp only
  split
  · exact ite (fun _ => stepEnd _ _ _) fun _ => ite (fun _ => pauseRecord _ _) fun _ => endRecord _ _ _
  · exact endRecord _ _ _

theorem rampDown (r : Record) (s : State) : ListEffects s (rampDown r s) :=
  (stageOut r.tag _ false s _).trans <| (record _ r.tag).trans (ite (fun _ => finishStop _ _) fun _ => .refl)

theorem enterStopping (r : Record) (res : Result) (pause : Bool) (s : State) :
    ListEffects s (enterStopping r res pause s) :=
  (record s r.tag (f := fun _ => r.stopping res pause) fun _ _ => rfl).trans
    (ite (fun _ => finishStop _ _) fun _ => .refl)

theorem stopAtUpdate (r : Record) (res : Result) (s : State) : ListEffects s (stopAtUpdate r res s) :=
  (record s r.tag (f := fun _ => r.stopping res false) fun _ _ => rfl).trans (rampDown _ _)

theorem overtake_tag (r : Record) (res : Result) : (overtake r res).tag = r.tag := by
  unfold overtake
  split <;> rfl

theorem stopProper (res : Result) (r : Record) (s : State) : ListEffects s (stopProper res r s) := by
  unfold Machine.stopProper
  split
  · exact endRecord _ _ _
  · exact endRecord _ _ _
  · exact endRecord _ _ _
  · exact enterStopping _ _ _ _
  · exact enterStopping _ _ _ _
  · exact record s r.tag fun x h => (overtake_tag x res).trans h

theorem stopEvery (res : Result) (s : State) : ListEffects s (stopEvery res s) := by
  refine asOneEvent (foldl (fun s t => ?_) s.tags s)
  split
  · exact stopProper _ _ _
  · exact .refl

theorem holdStop (res : Result) (r : Record) (s : State) : ListEffects s (holdStop res r s) := by
  unfold Machine.holdStop
  split
  · split
    · exact endRecord _ _ _
    · exact endRecord _ _ _
    · exact enterStopping _ _ _ _
    · exact enterStopping _ _ _ _
    · exact .refl
    · exact .refl
  · split
    · exact ite (fun _ => pauseRecord _ _) fun _ => endRecord _ _ _
    · exact pauseRecord _ _
    · exact enterStopping _ _ _ _
    · exact enterStopping _ _ _ _
    · exact ite (fun _ => record _ _) fun _ => .refl
    · exact .refl

theorem lapsePendants (s : State) : ListEffects s (lapsePendants s) := by
  refine Relation.ReflTransGen.trans (asOneEvent (foldl (fun s t => ?_) s.tags s)) (settle _)
  split
  · exact ite (fun _ => holdStop _ _ _) fun _ => .refl
  · exact .refl

/-! Obstructions, control updates and watches (R76, R86 to R91). -/

theorem reverseDoor (r : Record) (p : Int) (s : State) : ListEffects s (reverseDoor r p s) := by
  have hstop : ListEffects s (stoppedForReversal s r p) :=
    (immediateStop r s).trans (record _ r.tag (f := fun _ => reversal s r p) fun _ _ => rfl)
  rw [reverseDoor_eq]
  exact hstop.trans (ite (fun _ => endRecord _ _ _) fun _ => startRecord _ _ _)

theorem obstruct (a : Axis) (s : State) : ListEffects s (obstruct a s) := by
  unfold Machine.obstruct
  split
  · exact .refl
  · split
    · exact reverseDoor _ _ _
    · exact (immediateStop _ _).trans (endRecord _ _ _)

theorem driveRecord (r : Record) (p : Int) (s : State) : ListEffects s (driveRecord r p s) :=
  (stageOut r.tag _ false s _).trans <| (foldl (stageOut r.tag 0 false) _ _).trans (record _ r.tag)

theorem arrive (r : Record) (s : State) : ListEffects s (arrive r s) :=
  (stageZero r.tag r.axis s).trans <| ite (fun _ => endRecord _ _ _) fun _ =>
    ite (fun _ => stepEnd _ _ _) fun _ => endRecord _ _ _

theorem judgeOverload (v? : Option Int) (s : State) : ListEffects s (judgeOverload v? s) := by
  unfold Machine.judgeOverload
  split
  · exact .refl
  · refine ite (fun _ => ?_) fun _ => .refl
    split
    · exact ite (fun _ => record _ _) fun _ => .refl
    · exact ite (fun _ => ite (fun _ => enterStopping _ _ _ _) fun _ => .refl) fun _ => record _ _
    · exact record _ _

theorem goodSnapshot (a : Axis) (s : State) : ListEffects s (goodSnapshot a s) := by
  unfold Machine.goodSnapshot
  split
  · exact .refl
  · exact ite (fun _ => record _ _) fun _ => .refl

theorem loseRoadMarks (s : State) : ListEffects s (loseRoadMarks s) := by
  refine .single (.rewrite s _ fun r => ?_)
  split <;> rfl

theorem prewarnComplete (r : Record) (s : State) : ListEffects s (prewarnComplete r s) := by
  unfold Machine.prewarnComplete
  exact (ite (fun _ => record _ _) fun _ => .refl).trans <| ite (fun _ => endRecord _ _ _) fun _ =>
    ite (fun _ => ite (fun _ => stepEnd _ _ _) fun _ => endRecord _ _ _) fun _ => enterStarting _ _

theorem prewarnEvent (tag : Nat) (t : PrewarnTimer) (s : State) : ListEffects s (prewarnEvent tag t s) := by
  unfold Machine.prewarnEvent
  split
  · exact .refl
  · exact ite (fun _ => (prewarnComplete _ _).trans (settle _)) fun _ => .refl

theorem doorCurrent (o : DriveOut) (reading : Nat) (a : Axis) (s : State) :
    ListEffects s (doorCurrent o reading a s) := by
  unfold Machine.doorCurrent
  split
  · exact .refl
  · refine ite (fun _ => ite (fun _ => ?_) fun _ => record _ _) fun _ => .refl
    split
    · exact record _ _
    · exact ite (fun _ => (obstruct a s).trans (settle _)) fun _ => .refl

theorem refresh (r : Record) (s : State) : ListEffects s (refresh r s) :=
  ite (fun _ => (resumeRecord r.tag s).trans (settle _)) fun _ => ite (fun _ => record _ _) fun _ => .refl

theorem amendRecord (old r : Record) (s : State) : ListEffects s (amendRecord old r s) :=
  (record s old.tag).trans (oweAttempt _)

theorem stripEvent (a : Axis) (s : State) : ListEffects s (stripEvent a s) := by
  unfold Machine.stripEvent
  split
  · exact .refl
  · exact ite (fun _ => (obstruct a s).trans (settle _)) fun _ => .refl

theorem vehicleStarts (s : State) : ListEffects s (vehicleStarts s) :=
  (notice _ s).trans <| (stopEvery _ _).trans (settle _)

end ListEffects

end Sys2Proof.Machine

namespace Sys2Proof.Machine

/-! ### Records that are found stand in the list -/

theorem mem_of_find {s : State} {tag : Nat} {r : Record} (h : s.find tag = some r) : r ∈ s.motion.records :=
  List.mem_of_find?_eq_some h

theorem mem_of_mover {s : State} {a : Axis} {r : Record} (h : s.mover a = some r) : r ∈ s.motion.records :=
  List.mem_of_find?_eq_some h

theorem mem_of_claimant {s : State} {a : Axis} {r : Record} (h : s.claimant a = some r) : r ∈ s.motion.records :=
  List.mem_of_find?_eq_some h

theorem ListChange.empty {s t : State} (h : ListChange s t) (he : s.motion.records = []) : t.motion.records = [] := by
  have ht : t.tags = [] := List.sublist_nil.1 (by simpa [State.tags, he] using h.tags)
  exact List.map_eq_nil_iff.1 ht

/-! ### Work on the motion list -/

/-- Changes of the list that leave the outputs and the channels of an empty list alone. -/
structure ListWork (s t : State) : Prop where
  effects : ListEffects s t
  idle : s.motion.records = [] → t.drive = s.drive ∧ t.sense = s.sense

namespace ListWork

theorem refl (s : State) : ListWork s s := ⟨.refl, fun _ => ⟨rfl, rfl⟩⟩

theorem trans {s t u : State} (h : ListWork s t) (k : ListWork t u) : ListWork s u where
  effects := h.effects.trans k.effects
  idle := fun he => by
    obtain ⟨hd, hs⟩ := h.idle he
    obtain ⟨kd, ks⟩ := k.idle (h.effects.listChange.empty he)
    exact ⟨kd.trans hd, ks.trans hs⟩

/-- What starts from a record of the list is work on the list. -/
theorem of_mem {s t : State} {r : Record} (hr : r ∈ s.motion.records) (h : ListEffects s t) : ListWork s t :=
  ⟨h, fun he => absurd (he ▸ hr) List.not_mem_nil⟩

theorem foldl {α : Type} {f : State → α → State} (h : ∀ s x, ListWork s (f s x)) :
    ∀ (l : List α) (s : State), ListWork s (l.foldl f s)
  | [], s => refl s
  | x :: l, s => (h s x).trans (foldl h l (f s x))

theorem ite {p : Prop} [Decidable p] {s t u : State} (ht : p → ListWork s t) (hu : ¬p → ListWork s u) :
    ListWork s (if p then t else u) := by
  split
  · next h => exact ht h
  · next h => exact hu h

theorem due (s : State) (n : Nat) : ListWork s (s.onMotion (fun m => { m with attemptsDue := n })) :=
  ⟨.due s n, fun _ => ⟨rfl, rfl⟩⟩

theorem oweAttempt (s : State) : ListWork s s.oweAttempt := due s _

theorem asOneEvent {f : State → State} {s : State} (h : ListWork s (f s)) : ListWork s (s.asOneEvent f) :=
  h.trans (due (f s) _)

theorem notice (n : Notice) (s : State) : ListWork s (appendNotice n s) := ⟨.notice n s, fun _ => ⟨rfl, rfl⟩⟩

theorem record (s : State) (tag : Nat) {f : Record → Record}
    (hf : ∀ r, r.tag = tag → (f r).tag = tag := by exact fun _ h => h) : ListWork s (s.onRecord tag f) :=
  ⟨.record s tag hf, fun _ => ⟨rfl, rfl⟩⟩

theorem settle (s : State) : ListWork s (settle s) :=
  ⟨.settle s, fun he => by rw [settle_of_empty he]; exact ⟨rfl, rfl⟩⟩

theorem settled {s t : State} (h : ListWork s t) : ListWork s (Machine.settle t) := h.trans (settle t)

theorem endRecord (tag : Nat) (res : Result) (s : State) : ListWork s (endRecord tag res s) := by
  cases h : s.find tag with
  | none => rw [endRecord_none res h]; exact refl s
  | some r => exact of_mem (mem_of_find h) (.endRecord tag res s)

theorem cutRecord (res : Result) (s : State) (tag : Nat) : ListWork s (cutRecord res s tag) := by
  cases h : s.find tag with
  | none => rw [Machine.cutRecord, h]; exact refl s
  | some r => exact of_mem (mem_of_find h) (.cutRecord res s tag)

theorem stopEvery (res : Result) (s : State) : ListWork s (stopEvery res s) := by
  refine asOneEvent (foldl (fun s t => ?_) s.tags s)
  split
  · next r hr => exact of_mem (mem_of_find hr) (.stopProper res r s)
  · exact refl s

theorem endFailedSteps (s : State) : ListWork s (endFailedSteps s) := by
  refine settled (foldl (fun s t => ?_) s.tags s)
  split
  · exact ite (fun _ => endRecord _ _ _) fun _ => refl s
  · exact refl s

theorem lapsePendants (s : State) : ListWork s (lapsePendants s) := by
  refine settled (asOneEvent (foldl (fun s t => ?_) s.tags s))
  split
  · next r hr => exact ite (fun _ => of_mem (mem_of_find hr) (.holdStop _ r s)) fun _ => refl s
  · exact refl s

theorem obstruct (a : Axis) (s : State) : ListWork s (obstruct a s) := by
  cases h : s.mover a with
  | none => rw [Machine.obstruct, h]; exact refl s
  | some r => exact of_mem (mem_of_mover h) (.obstruct a s)

theorem doorCurrent (o : DriveOut) (reading : Nat) (a : Axis) (s : State) : ListWork s (doorCurrent o reading a s) := by
  cases h : s.mover a with
  | none => rw [Machine.doorCurrent, h]; exact refl s
  | some r => exact of_mem (mem_of_mover h) (.doorCurrent o reading a s)

theorem judgeOverload (v? : Option Int) (s : State) : ListWork s (judgeOverload v? s) := by
  cases h : s.mover .lift with
  | none => rw [Machine.judgeOverload, h]; exact refl s
  | some r => exact of_mem (mem_of_mover h) (.judgeOverload v? s)

theorem goodSnapshot (a : Axis) (s : State) : ListWork s (goodSnapshot a s) := by
  cases h : s.mover a with
  | none => rw [Machine.goodSnapshot, h]; exact refl s
  | some r => exact of_mem (mem_of_mover h) (.goodSnapshot a s)

theorem stripEvent (a : Axis) (s : State) : ListWork s (stripEvent a s) := by
  cases h : s.mover a with
  | none => rw [Machine.stripEvent, h]; exact refl s
  | some r => exact of_mem (mem_of_mover h) (.stripEvent a s)

theorem prewarnEvent (tag : Nat) (t : PrewarnTimer) (s : State) : ListWork s (prewarnEvent tag t s) := by
  cases h : s.find tag with
  | none => rw [Machine.prewarnEvent, h]; exact refl s
  | some r => exact of_mem (mem_of_find h) (.prewarnEvent tag t s)

theorem vehicleStarts (s : State) : ListWork s (vehicleStarts s) := (notice _ s).trans (settled (stopEvery _ _))

end ListWork

/-! ### The parts of an axis fault (R128, R129) -/

/-- R128: the axes of a finding that have no fault record. -/
def freshAxes (l : List Axis) (s : State) : List Axis := l.filter (fun a => !s.faulted a)

/-- R128, R129: the state in which these axes have latched a fault and their outputs are held off, before any record
ends. -/
def heldForFault (l : List Axis) (k : FaultKind) (pos : Axis → Option Int) (s : State) : State :=
  (l.flatMap outputsOf).foldl forceFault (l.foldl (fun s a => latchFault k (pos a) s a) s)

/-- R129: the fresh axes latch and are held off, and then the records that R129 names end as one event. -/
theorem raiseFaults_eq (l : List Axis) (k : FaultKind) (pos : Axis → Option Int) (s : State) :
    raiseFaults l k pos s =
      (heldForFault (freshAxes l s) k pos s).asOneEvent
        (fun t => (faultVictims (freshAxes l s) t).foldl (cutRecord .fault) t) := rfl

/-! ### The parts of a reading (R145 to R147, R89) -/

/-- R145: the reading of a drive output at a boundary that ends a period begun in the state s0. -/
def driveReading (s0 : State) (x : DriveOut × Sense) : Nat :=
  readingOf ((s0.drive.out.get x.1).conductedAll x.1) x.2

/-- R146, R147: the output has taken its reading, and the short or the open check is made. -/
def checkDrive (s0 s : State) (x : DriveOut × Sense) : State :=
  let old := s0.drive.out.get x.1
  let s1 := s.onOut x.1 (fun r => { r with reading := driveReading s0 x })
  if old.conductedAll x.1 && pastBlank (old.onTime.map (· + periodTime x.1))
      && decide ((Builtin.driveThresholds x.1).shortAbove < driveReading s0 x) then reportShort x.1 s1
  else openCheck x.1 old (driveReading s0 x) s1

/-- R89: the current watch of a door takes the reading after the checks. -/
theorem judgeDrive_eq (s0 s : State) (x : DriveOut × Sense) :
    judgeDrive s0 s x =
      (doorOf x.1).elim (checkDrive s0 s x) (fun a => doorCurrent x.1 (driveReading s0 x) a (checkDrive s0 s x)) := by
  have h : judgeDrive s0 s x = match doorOf x.1 with
      | some a => doorCurrent x.1 (driveReading s0 x) a (checkDrive s0 s x)
      | none => checkDrive s0 s x := rfl
  rw [h]
  cases doorOf x.1 <;> rfl

/-! ### What a command is made of -/

/-- The framing, counters and queues of the link are within Law 10. -/
abbrev Link.Bounded (l : Link) : Prop :=
  l.good ≤ 9999 ∧ l.bad ≤ 255 ∧ l.notices.length ≤ 16 ∧ l.fifo.length ≤ 4

/-- The blink clock and the lamp test are within Law 10. -/
abbrev Beacons.Bounded (b : Beacons) : Prop := b.blink ≤ 999 ∧ b.test.Bounded

/-- R5: nothing converts on a channel, and nothing begins to. -/
abbrev SenseChannel.Still (c : SenseChannel) : Prop := c.conversion = none ∧ c.timer = none ∧ c.sync = false

/-- One change that the commands are made of, with what the laws of Safety.lean need to know of it. The release of
HOLDOFF, the clear of the latch and a reset are not among them: no command makes one together with any other change
that those laws name. -/
inductive Effect : State → State → Prop
  | list {s t : State} (h : ListWork s t) : Effect s t
  | clock (s : State) (n : Nat) : Effect s (s.upTo n)
  | pins (s : State) (f : Pins → Pins) (level : (f s.pins).level.holdoff = s.pins.level.holdoff)
      (holdoff : (f s.pins).holdoff = s.pins.holdoff) (low : (f s.pins).holdoffLow = s.pins.holdoffLow) :
      Effect s (s.onPins f)
  | holdoffFalls (s : State) : Effect s (holdoffPinLow s)
  | holdoffRises (s : State) : Effect s (holdoffHigh s)
  | estop (c : EstopCause) (s : State) : Effect s (estopCause c s)
  | out (s : State) (o : DriveOut) (f : DriveRecord → DriveRecord)
      (h : (s.drive.out.get o).Quiet → (f (s.drive.out.get o)).Quiet) : Effect s (s.onOut o f)
  | drive (s : State) (f : Drive → Drive) (h : ∀ d, (f d).out = d.out) : Effect s (s.onDrive f)
  | beacon (s : State) (f : Beacons → Beacons) (h : s.beacon.Bounded → (f s.beacon).Bounded) : Effect s (s.onBeacon f)
  | crew (s : State) (f : Crew → Crew) : Effect s (s.onCrew f)
  | link (s : State) (f : Link → Link) (h : s.link.Bounded → (f s.link).Bounded) : Effect s (s.onLink f)
  | store (s : State) (f : Store → Store) (h : (f s.store).mode = .loading → s.store.mode = .loading) :
      Effect s (s.onStore f)
  | fault (s : State) (a : Axis) (f : Option FaultRecord) : Effect s (s.onAxis a (fun x => { x with fault := f }))
  | sample (s : State) (a : Axis) (t : Trigger) (primary : Int) (alternate : Option Int)
      (h : (s.sense.axis.get a).conversion.isSome = true) :
      Effect s (takeSample a (axisSample s a t primary alternate) s)
  | channel (s : State) (c : Channel) (f : SenseChannel → SenseChannel)
      (count : (s.sense.get c).disagree ≤ 2 → (f (s.sense.get c)).disagree ≤ 2)
      (still : (s.sense.get c).Still → (f (s.sense.get c)).Still) : Effect s (s.onChannel c f)
  | accept (s : State) (r : Record) (mode : s.store.mode = .run) (holdoff : s.pins.holdoff = false)
      (estop : s.motion.estop = false) : Effect s (acceptRecord r s)
  | tag (s : State) (n : Nat) (h : 200 ≤ n) : Effect s (takeTag n s)
  | supply (s : State) (f : Motion → Motion)
      (h : f s.motion = { s.motion with supply := (f s.motion).supply, lowRun := (f s.motion).lowRun
                                        recoveryRun := (f s.motion).recoveryRun, budget := (f s.motion).budget }) :
      Effect s (s.onMotion f)
  | leave (s : State) : Effect s (leaveLoading s)
  | adopt (m : Image) (s : State) : Effect s (adoptImage m s)

/-- Such changes one after another. -/
abbrev Effects : State → State → Prop := Relation.ReflTransGen Effect

namespace Effects

theorem list {s t : State} (h : ListWork s t) : Effects s t := .single (.list h)

theorem foldl {α : Type} {f : State → α → State} (h : ∀ s x, Effects s (f s x)) :
    ∀ (l : List α) (s : State), Effects s (l.foldl f s)
  | [], _ => .refl
  | x :: l, s => (h s x).trans (foldl h l (f s x))

theorem ite {p : Prop} [Decidable p] {s t u : State} (ht : p → Effects s t) (hu : ¬p → Effects s u) :
    Effects s (if p then t else u) := by
  split
  · next h => exact ht h
  · next h => exact hu h

theorem settled {s t : State} (h : Effects s t) : Effects s (settle t) := h.trans (list (.settle t))

theorem clock (s : State) (n : Nat) : Effects s (s.upTo n) := .single (.clock s n)

theorem out (s : State) (o : DriveOut) {f : DriveRecord → DriveRecord}
    (h : ∀ r : DriveRecord, r.Quiet → (f r).Quiet := by exact fun _ h => h) : Effects s (s.onOut o f) :=
  .single (.out s o f (h _))

theorem drive (s : State) {f : Drive → Drive} (h : ∀ d, (f d).out = d.out := by exact fun _ => rfl) :
    Effects s (s.onDrive f) := .single (.drive s f h)

theorem beacon (s : State) {f : Beacons → Beacons}
    (h : s.beacon.Bounded → (f s.beacon).Bounded := by exact fun h => h) : Effects s (s.onBeacon f) :=
  .single (.beacon s f h)

theorem crew (s : State) (f : Crew → Crew) : Effects s (s.onCrew f) := .single (.crew s f)

theorem link (s : State) {f : Link → Link} (h : s.link.Bounded → (f s.link).Bounded := by exact fun h => h) :
    Effects s (s.onLink f) := .single (.link s f h)

theorem store (s : State) {f : Store → Store}
    (h : (f s.store).mode = .loading → s.store.mode = .loading := by exact fun h => h) : Effects s (s.onStore f) :=
  .single (.store s f h)

theorem pins (s : State) {f : Pins → Pins}
    (level : (f s.pins).level.holdoff = s.pins.level.holdoff := by rfl)
    (holdoff : (f s.pins).holdoff = s.pins.holdoff := by rfl)
    (low : (f s.pins).holdoffLow = s.pins.holdoffLow := by rfl) : Effects s (s.onPins f) :=
  .single (.pins s f level holdoff low)

theorem notice (n : Notice) (s : State) : Effects s (appendNotice n s) := list (.notice n s)

theorem lampOut (s : State) (l : Lamp) (f : LampRecord → LampRecord) : Effects s (s.onLampOut l f) := drive s

theorem lamp (s : State) (l : Lamp) (f : Beacon → Beacon) : Effects s (s.onLamp l f) := beacon s

/-! Faults and findings (R127 to R130, R161). -/

theorem forceFault (s : State) (o : DriveOut) : Effects s (forceFault s o) :=
  out s o fun _ _ => ⟨rfl, rfl, rfl, rfl, rfl⟩

theorem latchFault (k : FaultKind) (pos : Option Int) (s : State) (a : Axis) : Effects s (latchFault k pos s a) :=
  (Relation.ReflTransGen.single (.fault s a _)).trans (notice _ _)

theorem heldForFault (l : List Axis) (k : FaultKind) (pos : Axis → Option Int) (s : State) :
    Effects s (heldForFault l k pos s) :=
  (foldl (fun s a => latchFault k (pos a) s a) l s).trans (foldl forceFault _ _)

theorem raiseFaults (l : List Axis) (k : FaultKind) (pos : Axis → Option Int) (s : State) :
    Effects s (raiseFaults l k pos s) := by
  rw [raiseFaults_eq]
  exact (heldForFault _ k pos s).trans (list (.asOneEvent (ListWork.foldl (ListWork.cutRecord .fault) _ _)))

theorem driveFinding (o : DriveOut) (k : FaultKind) (s : State) : Effects s (driveFinding o k s) :=
  settled (raiseFaults _ _ _ s)

theorem lampFinding (l : Lamp) (k : LampFault) (s : State) : Effects s (lampFinding l k s) :=
  ite (fun _ => .refl) fun _ => (lamp s l _).trans <|
    (ite (fun _ => list ⟨.loseRoadMarks _, fun _ => ⟨rfl, rfl⟩⟩) fun _ => .refl).trans (notice _ _)

theorem reportOpen (o : Output) (s : State) : Effects s (reportOpen o s) := by
  cases o with
  | drive o => exact (out s o).trans (driveFinding o _ _)
  | lamp l => exact (lampOut s l _).trans (lampFinding l _ _)

theorem reportEcho (o : Output) (s : State) : Effects s (reportEcho o s) := by
  cases o with
  | drive o => exact (out s o).trans (driveFinding o _ _)
  | lamp l => exact (lampOut s l _).trans (lampFinding l _ _)

theorem reportShort (o : DriveOut) (s : State) : Effects s (reportShort o s) :=
  (forceFault s o).trans (driveFinding o _ _)

theorem driveLamp (l : Lamp) (d : Nat) (s : State) : Effects s (driveLamp l d s) := lampOut s l _

theorem reportLampShort (l : Lamp) (s : State) : Effects s (reportLampShort l s) :=
  (driveLamp l 0 s).trans <| (lampOut _ l _).trans (lampFinding l _ _)

/-! The Drive Unit's periods (R138 to R148). -/

theorem applyStaged_quiet (o : DriveOut) (hold : Nat) {r : DriveRecord} (h : r.Quiet) : applyStaged o hold r = r := by
  obtain ⟨-, -, hu, -, hp⟩ := h
  simp [applyStaged, hu, hp]

theorem boundaryOut (s : State) (o : DriveOut) : Effects s (boundaryOut s o) := by
  refine out s o fun r h => ?_
  rw [applyStaged_quiet o _ h]
  exact h

theorem guardHalf_quiet (p : DriveRecord) {r : DriveRecord} (h : r.Quiet) : (guardHalf p r).Quiet := by
  unfold guardHalf
  obtain ⟨ha, hs, hu, hh, hp⟩ := h
  split
  · exact ⟨ha, rfl, hu, hh, hp⟩
  · exact ⟨ha, hs, hu, hh, hp⟩

theorem guardPair (s : State) (a b : DriveOut) : Effects s (guardPair s a b) :=
  (out s a fun _ => guardHalf_quiet _).trans (out _ b fun _ => guardHalf_quiet _)

theorem openCheck (o : DriveOut) (old : DriveRecord) (reading : Nat) (s : State) :
    Effects s (openCheck o old reading s) :=
  ite (fun _ => ite (fun _ => ite (fun _ => reportOpen _ _) fun _ => out _ _) fun _ => out _ _) fun _ => out _ _

theorem checkDrive (s0 s : State) (x : DriveOut × Sense) : Effects s (checkDrive s0 s x) := by
  unfold Machine.checkDrive
  dsimp only
  split
  · exact (out s x.1).trans (reportShort _ _)
  · exact (out s x.1).trans (openCheck _ _ _ _)

theorem judgeDrive (s0 s : State) (x : DriveOut × Sense) : Effects s (judgeDrive s0 s x) := by
  rw [judgeDrive_eq]
  cases doorOf x.1 with
  | none => exact checkDrive s0 s x
  | some a => exact (checkDrive s0 s x).trans (list (.doorCurrent _ _ _ _))

theorem driveBoundary (xs : List (DriveOut × Sense)) (s : State) : Effects s (driveBoundary xs s) :=
  (foldl boundaryOut _ s).trans (foldl (judgeDrive s) xs _)

theorem judgeLampReading (base : Nat) (s : State) (x : Lamp × Sense) : Effects s (judgeLampReading base s x) := by
  unfold Machine.judgeLampReading
  dsimp only
  split
  · split
    · exact (lampOut s x.1 _).trans (reportLampShort _ _)
    · split
      · split
        · exact (lampOut s x.1 _).trans (reportOpen _ _)
        · exact (lampOut s x.1 _).trans (lampOut _ _ _)
      · exact (lampOut s x.1 _).trans (lampOut _ _ _)
  · exact lampOut s x.1 _

theorem compareDrive (t : Nat) (s : State) (x : DriveOut × Bool) : Effects s (compareDrive t s x) := by
  unfold Machine.compareDrive
  split
  · exact .refl
  · exact out s x.1

theorem driveCentre (t : Nat) (xs : List (DriveOut × Bool)) (s : State) : Effects s (driveCentre t xs s) :=
  (clock s t).trans <| (foldl (compareDrive t) xs _).trans (foldl (fun s o => driveFinding o .echo s) _ _)

theorem lampCentre (t : Nat) (xs : List (Lamp × Bool)) (s : State) : Effects s (lampCentre t xs s) :=
  (clock s t).trans <| (foldl (fun s x => lampOut s x.1 _) xs _).trans (foldl (fun s l => lampFinding l .echo s) _ _)

/-! Lamps (R150 to R160). -/

theorem judgeLamp (l : Lamp) (s : State) : Effects s (judgeLamp l s) := (lamp s l _).trans (driveLamp l _ _)

theorem lampBoundary (s : State) (l : Lamp) : Effects s (lampBoundary s l) :=
  (lamp s l _).trans <| (lamp _ l _).trans (judgeLamp l _)

theorem lampTestDone (s : State) : Effects s (lampTestDone s) :=
  (beacon s fun h => ⟨h.1, trivial⟩).trans (store _ fun h => by cases h)

theorem testBoundary (s : State) : Effects s (testBoundary s) := by
  unfold Machine.testBoundary
  split
  · next n _ =>
    exact ite (fun hn => beacon s fun h => ⟨h.1, hn⟩) fun _ => lampTestDone s
  · exact .refl
  · exact .refl

end Effects

end Sys2Proof.Machine

namespace Sys2Proof.Machine

namespace Effects

/-! Samples (R9, R12). -/

theorem movingUpdate {r : Record} {s : State} (hr : r ∈ s.motion.records) : Effects s (movingUpdate r s) := by
  unfold Machine.movingUpdate
  split
  · exact .refl
  · split
    · exact list (.of_mem hr (.stopAtUpdate r _ s))
    · split
      · exact list (.of_mem hr (.arrive r s))
      · split
        · exact list (.of_mem hr (.stopAtUpdate r _ s))
        · split
          · exact raiseFaults _ _ _ s
          · exact list (.of_mem hr ((ListEffects.record s r.tag).trans (ListEffects.driveRecord r _ _)))

theorem controlUpdate (a : Axis) (s : State) : Effects s (controlUpdate a s) := by
  unfold Machine.controlUpdate
  split
  · exact .refl
  · next r hr =>
    split
    · exact movingUpdate (mem_of_mover hr)
    · exact list (.of_mem (mem_of_mover hr) (.rampDown r s))
    all_goals exact .refl

theorem deliverAxis {a : Axis} {s : State} (t : Trigger) (primary : Int) (alternate : Option Int)
    (h : (s.sense.axis.get a).conversion.isSome = true) :
    Effects s (deliverAxis a (axisSample s a t primary alternate) s) := by
  refine (Relation.ReflTransGen.single (.sample s a t primary alternate h)).trans ?_
  unfold Machine.deliverAxis
  dsimp only
  split
  · exact settled (raiseFaults _ _ _ _)
  · split
    · exact .refl
    · exact settled (controlUpdate _ _)
    · exact list (.goodSnapshot _ _)

theorem channel (s : State) (c : Channel) {f : SenseChannel → SenseChannel}
    (count : (s.sense.get c).disagree ≤ 2 → (f (s.sense.get c)).disagree ≤ 2)
    (still : (s.sense.get c).Still → (f (s.sense.get c)).Still) : Effects s (s.onChannel c f) :=
  .single (.channel s c f count still)

theorem takeFigure (c : Channel) (code : Int) (v : Option Int) (s : State) : Effects s (takeFigure c code v s) :=
  channel s c id fun h => ⟨rfl, h.2⟩

theorem supply (s : State) {f : Motion → Motion}
    (h : f s.motion = { s.motion with supply := (f s.motion).supply, lowRun := (f s.motion).lowRun
                                      recoveryRun := (f s.motion).recoveryRun, budget := (f s.motion).budget } := by
      rfl) : Effects s (s.onMotion f) := .single (.supply s f h)

theorem cutSupply (s : State) : Effects s (cutSupply s) :=
  (supply s).trans <| (notice _ _).trans (list (ListWork.settled (.stopEvery _ _)))

theorem restoreSupply (s : State) : Effects s (restoreSupply s) := (supply s).trans (notice _ _)

theorem judgeSupply (v? : Option Int) (s : State) : Effects s (judgeSupply v? s) := by
  rcases judgeSupply_cases v? s with ⟨_, _, h⟩ | ⟨-, h⟩ | ⟨-, h⟩
  · rw [h]; exact supply s
  · rw [h]; exact cutSupply s
  · rw [h]; exact restoreSupply s

theorem deliverBattery (v : Option Int) (s : State) : Effects s (deliverBattery v s) := by
  cases v with
  | none => exact judgeSupply none s
  | some v =>
      exact ((supply s).trans (list ((ListWork.settled (.oweAttempt _)).trans (.endFailedSteps _)))).trans
        (judgeSupply (some v) _)

theorem deliverFigure (c : Channel) (code : Int) (s : State) : Effects s (deliverFigure c code s) := by
  refine (takeFigure c code (figureOf s c code) s).trans ?_
  cases c with
  | battery => exact deliverBattery _ _
  | pressure => exact list (.settled (.judgeOverload _ _))
  | pitch => exact .refl
  | axis a => exact .refl

theorem deliver {c : Channel} {s : State} (cv : Conversion) (primary : Int) (alternate : Option Int)
    (h : (s.sense.get c).conversion.isSome = true) : Effects s (deliver c cv primary alternate s) := by
  cases c with
  | axis a => exact deliverAxis cv.trigger primary alternate h
  | pitch => exact deliverFigure .pitch primary s
  | pressure => exact deliverFigure .pressure primary s
  | battery => exact deliverFigure .battery primary s

/-- A conversion begins only on a channel that is not still. -/
theorem beginConversion {c : Channel} {s : State} (t : Trigger) (h : ¬(s.sense.get c).Still) :
    Effects s (beginConversion c t s) := by
  refine channel s c ?_ fun hs => absurd hs h
  split <;> exact id

theorem triggerSynchronised (a : Axis) (s : State) : Effects s (triggerSynchronised a s) := by
  unfold Machine.triggerSynchronised
  refine ite (fun h => ?_) fun _ => .refl
  have hs : ¬(s.sense.get (.axis a)).Still := fun hs => by
    rw [hs.2.2] at h
    exact absurd h.1 (by decide)
  exact (beginConversion _ hs).trans (channel _ _ id id)

/-! Pins (R18 to R21). -/

theorem holdMoving (s : State) : Effects s (holdMoving s) :=
  (pins s).trans (ite (fun _ => .refl) fun _ => list (.vehicleStarts _))

theorem rawSpeedEdge (s : State) : Effects s (rawSpeedEdge s) :=
  (pins s).trans (ite (fun _ => holdMoving _) fun _ => .refl)

theorem inputActive (i : Input) (s : State) : Effects s (inputActive i s) := by
  cases i with
  | edgeK => exact list (.stripEvent _ _)
  | edgeR => exact list (.stripEvent _ _)
  | speed => exact holdMoving s
  | _ => exact .refl

theorem inputPin (i : Input) (l : Bool) (s : State) : Effects s (inputPin i l s) :=
  ite (fun _ => .refl) fun _ => (pins s).trans (ite (fun _ => rawSpeedEdge _) fun _ => .refl)

theorem estopLow (s : State) : Effects s (estopLow s) := (pins s).trans (.single (.estop _ _))

/-! The store (R193 to R201). -/

theorem endLoad (m : Image) (source : Source) (s : State) : Effects s (endLoad m source s) :=
  (store s).trans (.single (.leave _))

theorem judgeLoad (bytes : List Byte) (s : State) : Effects s (judgeLoad bytes s) := by
  unfold Machine.judgeLoad
  split
  · exact endLoad _ _ s
  · split
    · exact endLoad _ _ s
    · exact endLoad _ _ s

theorem takeStrap (s : State) : Effects s (takeStrap s) := (store s).trans <| (pins _).trans (.single (.leave _))

theorem setLock (s : State) : Effects s (setLock s) := store s

theorem endCommit (failed : Option CommitStage) (s : State) : Effects s (endCommit failed s) :=
  (notice _ s).trans <| (store _).trans (ite (fun _ => setLock _) fun _ => .refl)

theorem verifyCommit (bytes : List Byte) (s : State) : Effects s (verifyCommit bytes s) := by
  unfold Machine.verifyCommit
  split
  · next m _ => exact ite (fun _ => (Relation.ReflTransGen.single (.adopt m s)).trans (endCommit _ _)) fun _ => endCommit _ _
  · exact endCommit _ _

/-! The crew bus (R163 to R178). -/

theorem station (s : State) (n : Nat) (f : StationRecord → StationRecord) : Effects s (s.onStation n f) := crew s _

theorem heard (n : Nat) (s : State) : Effects s (heard n s) := station s n _

theorem frameStop (bytes : List Byte) (s : State) : Effects s (frameStop bytes s) := crew s _

theorem refresh {r : Record} {s : State} (h : r ∈ s.motion.records) : Effects s (refresh r s) :=
  list (.of_mem h (.refresh r s))

theorem releaseButton (n : Nat) (s : State) (b : Button) : Effects s (releaseButton n s b) := by
  unfold Machine.releaseButton
  split
  · exact .refl
  · next r hr =>
    obtain ⟨t, -, ht⟩ := Option.bind_eq_some_iff.1 hr
    exact list (.settled (.of_mem (mem_of_find ht) (.holdStop _ r s)))

theorem refreshButton (n : Nat) (s : State) (b : Button) : Effects s (refreshButton n s b) := by
  unfold Machine.refreshButton
  split
  · exact .refl
  · refine ite (fun _ => .refl) fun _ => ?_
    split
    · exact .refl
    · next r hr =>
      obtain ⟨t, -, ht⟩ := Option.bind_eq_some_iff.1 hr
      exact ite (fun _ => .refl) fun _ => refresh (mem_of_find ht)

end Effects

/-- R28: an accepted request found the block in RUN with HOLDOFF and the latch clear. -/
theorem judgeRequest_accept {s : State} {rq : Request} {r : Record} (h : judgeRequest s rq = .accept r) :
    s.store.mode = .run ∧ s.pins.holdoff = false ∧ s.motion.estop = false := by
  unfold judgeRequest at h
  split at h
  · cases h
  · next f _ =>
    have hc := (judgeFormed_accept h).1
    unfold conditionRefusal at hc
    grind

namespace Effects

theorem accept {s : State} {rq : Request} {r : Record} (x : Record) (h : judgeRequest s rq = .accept r) :
    Effects s (acceptRecord x s) :=
  have ⟨mode, holdoff, estop⟩ := judgeRequest_accept h
  .single (.accept s x mode holdoff estop)

theorem pressDemand (st : StationRecord) (b : Button) (d : Demand) (s : State) : Effects s (pressDemand st b d s) := by
  unfold Machine.pressDemand
  split
  · next r hr =>
    have ⟨mode, holdoff, estop⟩ := judgeRequest_accept hr
    exact settled <| (Relation.ReflTransGen.single (.tag s _ (freeTag_range s).1)).trans <|
      (Relation.ReflTransGen.single (.accept _ _ mode holdoff estop)).trans (station _ _ _)
  · exact station _ _ _
  · exact station _ _ _

theorem mem_of_pausedRecord {st : StationRecord} {b : Button} {s : State} {r : Record}
    (h : pausedRecord st b s = some r) : r ∈ s.motion.records := by
  unfold pausedRecord at h
  split at h
  · next hf =>
    obtain ⟨t, -, ht⟩ := Option.bind_eq_some_iff.1 hf
    obtain ⟨-, hr⟩ := Option.ite_none_right_eq_some.1 h
    cases hr
    exact mem_of_find ht
  · cases h

theorem pressButton (n : Nat) (set : PerButton Bool) (s : State) (b : Button) : Effects s (pressButton n set s b) := by
  unfold Machine.pressButton
  split
  · exact .refl
  · split
    · exact .refl
    · split
      · next r hr => exact ite (fun _ => station _ _ _) fun _ => refresh (mem_of_pausedRecord hr)
      · exact ite (fun _ => station _ _ _) fun _ => pressDemand _ _ _ _

theorem holdDecode (st : StationRecord) (n : PerButton Bool) (s : State) : Effects s (holdDecode st n s) := by
  unfold Machine.holdDecode
  exact (foldl (releaseButton _) _ s).trans <| (foldl (releaseButton _) _ _).trans <|
    (foldl (refreshButton _) _ _).trans <|
    (ite (fun _ => list (.settled (.stopEvery _ _))) fun _ => .refl).trans <|
    (foldl (pressButton _ n) _ _).trans (station _ _ _)

theorem handHold (src dst : BitVec 4) (data : Byte) (s : State) : Effects s (handHold src dst data s) := by
  unfold Machine.handHold
  split
  · exact .refl
  · exact ite (fun _ => (heard _ _).trans (holdDecode _ _ _)) fun _ => .refl

theorem handHalt (src : BitVec 4) (s : State) : Effects s (handHalt src s) :=
  ite (fun _ => .refl) fun _ => (heard _ s).trans (.single (.estop _ _))

end Effects

/-! ### What a command can do -/

/-- What a command that neither releases HOLDOFF nor resets the block leaves: changes of the kinds above, or these and
then a clear of the latch that the state it found allows. -/
inductive Served (s t : State) : Prop
  | runs (h : Effects s t)
  | clears (u : State) (allowed : clearAllowed s = true) (h : Effects s u) (ht : t = clearLatch u)

theorem Served.after {s u t : State} (h : Effects s u) (ha : clearAllowed u = clearAllowed s) (k : Served u t) :
    Served s t := by
  cases k with
  | runs k => exact .runs (h.trans k)
  | clears v allowed k ht => exact .clears v (ha ▸ allowed) (h.trans k) ht

theorem Served.ite {p : Prop} [Decidable p] {s t u : State} (ht : p → Served s t) (hu : ¬p → Served s u) :
    Served s (if p then t else u) := by
  split
  · next h => exact ht h
  · next h => exact hu h

/-- What a command can do to the block (R20, R121, R188, R202): it is served by changes and perhaps a clear of the
latch, or releases HOLDOFF with the count of its release running, or takes the block to its reset values. -/
inductive CommandEffect (c : Instr) (s t : State) : Prop
  | served (h : Served s t)
  | releases (n k : Nat) (hc : c = .holdoffReleased) (low : s.pins.holdoffLow = some n)
      (ht : t = releaseHoldoff (s.upTo k))
  | resets (hc : Resets c) (ht : t = resetRelease s)

/-- An outcome whose next state, if it has one, is served. -/
abbrev Serves (s : State) (o : Host.Outcome State Fault Refusal) : Prop := ∀ t, o = .next t → Served s t

theorem Serves.next {s t : State} (h : Served s t) : Serves s (.next t) := by
  rintro _ ⟨⟩
  exact h

theorem Serves.runs {s t : State} (h : Effects s t) : Serves s (.next t) := .next (.runs h)

theorem Serves.fault (s : State) (f : Fault) : Serves s (.fault f) := by
  rintro _ ⟨⟩

theorem Serves.ite {p : Prop} [Decidable p] {s : State} {o o' : Host.Outcome State Fault Refusal} (h : p → Serves s o)
    (h' : ¬p → Serves s o') : Serves s (if p then o else o') := by
  split
  · next hp => exact h hp
  · next hp => exact h' hp

/-! ### Crew frames that may clear the latch (R121, R172) -/

/-- A change of stations that keeps their last HOLD sets keeps what a clear needs. -/
theorem clearAllowed_onStation (n : Nat) (s : State) {f : StationRecord → StationRecord}
    (hf : ∀ st, (f st).lastSet = st.lastSet) : clearAllowed (s.onStation n f) = clearAllowed s := by
  simp only [clearAllowed, State.onStation_pins, State.onStation_crew, List.all_map]
  congr 2
  funext st
  simp only [Function.comp]
  split
  · rw [hf]
  · rfl

theorem Served.clearFrom (n : Nat) (s : State) : Served s (clearFrom n s) :=
  .ite (fun _ => .runs .refl) fun _ =>
    .ite (fun h => .clears s h .refl rfl) fun _ => .runs (.station _ _ _)

theorem Served.handClear (src dst : BitVec 4) (s : State) : Served s (handClear src dst s) := by
  unfold Machine.handClear
  split
  · exact .runs .refl
  · refine .ite (fun _ => .ite (fun _ => ?_) fun _ => .runs (.heard _ _)) fun _ => .runs .refl
    exact .after (.heard _ s) (clearAllowed_onStation _ s fun _ => rfl) (.clearFrom _ _)

theorem Served.handOn (fr : CrewFrame) (s : State) : Served s (handOn fr s) := by
  unfold Machine.handOn
  split
  · exact .runs (.handHold _ _ _ _)
  · exact .handClear _ _ _
  · exact .runs (.handHalt _ _)
  · exact .runs .refl

theorem Served.handBytes (bytes : List Byte) (s : State) : Served s (handBytes bytes s) := by
  unfold Machine.handBytes
  split
  · exact .handOn _ _
  · exact .runs .refl

theorem Served.atStop (bytes : List Byte) {f : State → State} (hf : ∀ s, Served s (f s)) (s : State) :
    Served s (atStop bytes f s) :=
  .ite (fun _ => .after (.frameStop bytes s) rfl (hf _)) fun _ => .runs .refl

/-! ### Host requests -/

namespace Effects

/-- R183: a reply joins a FIFO that has room. -/
theorem reply {s : State} (r : Reply) (h : s.link.fifo.length < 4) : Effects s (pushReply r s) :=
  link s fun ⟨hg, hb, hn, _⟩ => ⟨hg, hb, hn, by rw [List.length_append]; exact h⟩

theorem answer {s : State} (kind tag : Byte) (st : Status) (h : s.link.fifo.length < 4) :
    Effects s (answer kind tag st s) := reply _ h

theorem countGood (s : State) : Effects s (countGood s) :=
  link s fun ⟨_, hb, hn, hf⟩ => ⟨Nat.le_of_lt_succ (Nat.mod_lt _ (by decide)), hb, hn, hf⟩

theorem countBad (s : State) : Effects s (countBad s) :=
  link s fun ⟨hg, _, hn, hf⟩ => ⟨hg, Nat.min_le_right _ _, hn, hf⟩

theorem setFraming (f : Framing) (s : State) : Effects s (setFraming f s) := link s

theorem dropFrame (s : State) : Effects s (dropFrame s) := (countBad s).trans (setFraming _ _)

theorem huntCharacter (c : Byte) (b : Bool) (s : State) : Effects s (huntCharacter c b s) :=
  ite (fun _ => setFraming _ _) fun _ => .refl

theorem badLen (c : Byte) (s : State) : Effects s (badLen c s) := (countBad s).trans (setFraming _ _)

theorem badCheck (s : State) : Effects s (badCheck s) :=
  (ite (fun _ => .refl) fun _ => countBad s).trans (setFraming _ _)

theorem clearFault (a : Axis) (s : State) : Effects s (clearFault a s) := by
  have hlift (s : State) (o : DriveOut) : Effects s (liftHold s o) := ite (fun _ => .refl) fun _ => out s o
  exact (Relation.ReflTransGen.single (.fault s a none)).trans <| (foldl hlift _ _).trans <|
    ite (fun _ => list (.settled (.oweAttempt _))) fun _ => .refl

theorem clearLampFault (l : Lamp) (s : State) : Effects s (clearLampFault l s) := (lamp s l _).trans (lampOut _ l _)

section Room

variable {s : State} (h : s.link.fifo.length < 4)
include h

theorem doStatus (tag : Byte) : Effects s (doStatus tag s) := by
  refine (reply _ h).trans (link _ ?_)
  rintro ⟨-, -, hn, hf⟩
  exact ⟨Nat.zero_le _, Nat.zero_le _, hn, hf⟩

theorem doQueryAxis (tag axis : Byte) : Effects s (doQueryAxis tag axis s) := by
  unfold Machine.doQueryAxis
  split
  · exact reply _ h
  · exact answer _ _ _ h

theorem doReadNotices (tag : Byte) : Effects s (doReadNotices tag s) := by
  unfold Machine.doReadNotices
  dsimp only
  refine (reply _ h).trans (link _ ?_)
  rintro ⟨hg, hb, hn, hf⟩
  exact ⟨hg, hb, (List.length_drop ..).trans_le ((Nat.sub_le _ _).trans hn), hf⟩

theorem doMotion (kind tag : Byte) (d : Demand) : Effects s (doMotion kind tag d s) := by
  unfold Machine.doMotion
  split
  · exact answer _ _ _ h
  · next r hr =>
    have ⟨mode, holdoff, estop⟩ := judgeRequest_accept hr
    exact settled ((reply _ h).trans (.single (.accept _ r mode holdoff estop)))
  · exact (reply _ h).trans (list (.settled ⟨.amendRecord _ _ _, fun _ => ⟨rfl, rfl⟩⟩))

theorem doMove (tag axis : Byte) (target : Half) (speed : Byte) : Effects s (doMove tag axis target speed s) := by
  unfold Machine.doMove
  split
  · exact doMotion h _ _ _
  · exact answer _ _ _ h

theorem doJog (tag axis dir speed : Byte) : Effects s (doJog tag axis dir speed s) := by
  unfold Machine.doJog
  split
  · exact doMotion h _ _ _
  · exact answer _ _ _ h

theorem doJogRefresh (tag : Byte) : Effects s (doJogRefresh tag s) := by
  unfold Machine.doJogRefresh
  split
  · next r hr =>
    exact ite (fun _ => (answer _ _ _ h).trans (refresh (s := Machine.answer 0x06 tag .ok s) (mem_of_find hr)))
      fun _ => answer _ _ _ h
  · exact answer _ _ _ h

theorem doRunSequence (tag seq held : Byte) : Effects s (doRunSequence tag seq held s) :=
  ite (fun _ => doMotion h _ _ _) fun _ => answer _ _ _ h

theorem stopTag (tag : Byte) (n : Nat) : Effects s (stopTag tag n s) := by
  unfold Machine.stopTag
  split
  · exact answer _ _ _ h
  · next r hr =>
    refine ite (fun _ => answer _ _ _ h) fun _ => (answer 0x08 tag .ok h).trans (list (.settled ?_))
    exact .of_mem (s := Machine.answer 0x08 tag .ok s) (mem_of_find hr)
      (ListEffects.ite (fun _ => .holdStop _ r _) fun _ => .stopProper _ r _)

theorem stopAxis (tag : Byte) (a : Axis) : Effects s (stopAxis tag a s) := by
  unfold Machine.stopAxis
  split
  · exact answer _ _ _ h
  · next r hr =>
    refine ite (fun _ => answer _ _ _ h) fun _ => (answer 0x08 tag .ok h).trans (list (.settled ?_))
    exact .of_mem (s := Machine.answer 0x08 tag .ok s) (mem_of_claimant hr) (.stopProper _ r _)

theorem doStop (tag axis recordTag : Byte) : Effects s (doStop tag axis recordTag s) := by
  unfold Machine.doStop
  refine ite (fun _ => ite (fun _ => answer _ _ _ h) fun _ => stopTag h _ _) fun _ => ?_
  split
  · exact ite (fun _ => stopAxis h _ _) fun _ => answer _ _ _ h
  · exact answer _ _ _ h

theorem doStopAll (tag : Byte) : Effects s (doStopAll tag s) :=
  (answer _ _ _ h).trans (list (.settled (.stopEvery _ _)))

theorem doEstop (tag : Byte) : Effects s (doEstop tag s) := (answer _ _ _ h).trans (.single (.estop _ _))

theorem doFaultClear (tag axis channel : Byte) : Effects s (doFaultClear tag axis channel s) := by
  unfold Machine.doFaultClear
  refine ite (fun _ => ?_) fun _ => ?_
  · split
    · exact ite (fun _ => answer _ _ _ h) fun _ =>
        ite (fun _ => (answer _ _ _ h).trans (clearLampFault _ _)) fun _ => answer _ _ _ h
    · exact answer _ _ _ h
  · split
    · exact ite (fun _ => ite (fun _ => answer _ _ _ h) fun _ =>
        ite (fun _ => (answer _ _ _ h).trans (clearFault _ _)) fun _ => answer _ _ _ h) fun _ => answer _ _ _ h
    · exact answer _ _ _ h

theorem doBeaconOverride (tag channel pattern : Byte) (seconds : Half) :
    Effects s (doBeaconOverride tag channel pattern seconds s) := by
  unfold Machine.doBeaconOverride
  split
  · exact ite (fun _ => (answer _ _ _ h).trans (lamp _ _ _)) fun _ => answer _ _ _ h
  · exact answer _ _ _ h

theorem doProfileDiscard (tag : Byte) : Effects s (doProfileDiscard tag s) := by
  refine ite (fun _ => answer _ _ _ h) fun _ => (answer _ _ _ h).trans (store _ ?_)
  split
  · exact id
  · exact id

theorem doProfileCommit (tag : Byte) : Effects s (doProfileCommit tag s) := by
  unfold Machine.doProfileCommit
  refine ite (fun _ => answer _ _ _ h) fun _ => ite (fun _ => answer _ _ _ h) fun _ =>
    ite (fun _ => answer _ _ _ h) fun _ => ?_
  split
  · exact reply _ h
  · exact (answer _ _ _ h).trans (store _)

theorem doLockEnvelopes (tag : Byte) : Effects s (doLockEnvelopes tag s) :=
  ite (fun _ => answer _ _ _ h) fun _ => (answer _ _ _ h).trans <|
    ite (fun _ => .refl) fun _ => ite (fun _ => setLock _) fun _ => store _

theorem doRestart (tag : Byte) : Effects s (doRestart tag s) :=
  ite (fun _ => answer _ _ _ h) fun _ => (answer _ _ _ h).trans (link _)

end Room

end Effects

section Requests

variable {s : State} (h : s.link.fifo.length < 4)
include h

theorem Served.doEstopClear (tag : Byte) : Served s (doEstopClear tag s) :=
  .ite (fun _ => .runs (.answer _ _ _ h)) fun _ =>
    .ite (fun ha => .clears _ ha (.answer _ _ _ h) rfl) fun _ => .runs (.answer _ _ _ h)

theorem Serves.doProfileRead (tag region : Byte) (offset : Half) (length : Byte) :
    Serves s (doProfileRead tag region offset length s) := by
  unfold Machine.doProfileRead
  refine .ite (fun _ => .runs (.answer _ _ _ h)) fun _ => ?_
  split
  · exact .ite (fun _ => .runs (.reply _ h)) fun _ => .fault s _
  · exact .runs (.answer _ _ _ h)

theorem Serves.doProfileStage (tag region : Byte) (offset : Half) (bytes : List Byte) :
    Serves s (doProfileStage tag region offset bytes s) := by
  unfold Machine.doProfileStage
  refine .ite (fun _ => .runs (.answer _ _ _ h)) fun _ => ?_
  split
  · exact .runs (.answer _ _ _ h)
  · exact .ite (fun _ => .runs ((Effects.answer _ _ _ h).trans (Effects.store _))) fun _ => .fault s _
  · exact .runs (.answer _ _ _ h)

end Requests

/-- R184: whatever a good frame's kind and payload, its dispatch is served. -/
theorem Serves.dispatch {s : State} (h : s.link.fifo.length < 4) (kind tag : Byte) (payload : List Byte) :
    Serves s (dispatch kind tag payload s) := by
  have other (st : Status) : Serves s (.next (answer kind tag st s)) := .runs (.answer _ _ _ h)
  unfold Machine.dispatch
  generalize kind.toNat = k
  by_cases hk : 0x14 < k
  · obtain ⟨n, rfl⟩ := Nat.exists_eq_add_of_lt hk
    rw [Nat.add_comm _ n]
    exact other _
  interval_cases k
  · exact other _
  · exact match payload with | [] => .runs (.doStatus h _) | _ :: _ => other _
  · exact match payload with | [_] => .runs (.doQueryAxis h _ _) | [] | _ :: _ :: _ => other _
  · exact match payload with | [] => .runs (.reply _ h) | _ :: _ => other _
  · exact match payload with
      | [_, _, _, _] => .runs (.doMove h _ _ _ _)
      | [] | [_] | [_, _] | [_, _, _] | _ :: _ :: _ :: _ :: _ :: _ => other _
  · exact match payload with
      | [_, _, _] => .runs (.doJog h _ _ _ _)
      | [] | [_] | [_, _] | _ :: _ :: _ :: _ :: _ => other _
  · exact match payload with | [] => .runs (.doJogRefresh h _) | _ :: _ => other _
  · exact match payload with
      | [_, _] => .runs (.doRunSequence h _ _ _)
      | [] | [_] | _ :: _ :: _ :: _ => other _
  · exact match payload with | [_, _] => .runs (.doStop h _ _ _) | [] | [_] | _ :: _ :: _ :: _ => other _
  · exact match payload with | [] => .runs (.doStopAll h _) | _ :: _ => other _
  · exact match payload with | [] => .runs (.doEstop h _) | _ :: _ => other _
  · exact match payload with | [] => .next (.doEstopClear h _) | _ :: _ => other _
  · exact match payload with | [_, _] => .runs (.doFaultClear h _ _ _) | [] | [_] | _ :: _ :: _ :: _ => other _
  · exact match payload with
      | [_, _, _, _] => .runs (.doBeaconOverride h _ _ _ _)
      | [] | [_] | [_, _] | [_, _, _] | _ :: _ :: _ :: _ :: _ :: _ => other _
  · exact match payload with | [] => .runs (.doReadNotices h _) | _ :: _ => other _
  · exact match payload with
      | [_, _, _, _] => .doProfileRead h _ _ _ _
      | [] | [_] | [_, _] | [_, _, _] | _ :: _ :: _ :: _ :: _ :: _ => other _
  · exact match payload with
      | _ :: _ :: _ :: _ :: _ => .ite (fun _ => .doProfileStage h _ _ _ _) fun _ => .runs (.answer _ _ _ h)
      | [] | [_] | [_, _] | [_, _, _] => other _
  · exact match payload with | [] => .runs (.doProfileDiscard h _) | _ :: _ => other _
  · exact match payload with | [] => .runs (.doProfileCommit h _) | _ :: _ => other _
  · exact match payload with | [] => .runs (.doLockEnvelopes h _) | _ :: _ => other _
  · exact match payload with | [] => .runs (.doRestart h _) | _ :: _ => other _
/-- R182, R188: a good frame is served as its dispatch is, which finds room in the FIFO. -/
theorem Served.goodFrame {k : State → State} (hk : ∀ s : State, s.link.fifo.length < 4 → Served s (k s)) (s : State) :
    Served s (goodFrame k s) := by
  unfold Machine.goodFrame
  refine .ite (fun _ => .runs (.link s)) fun _ => .ite (fun _ => ?_) fun hf => ?_
  · exact .runs ((Effects.countGood s).trans (Effects.link _))
  · exact .after (.countGood s) rfl (hk _ (Nat.not_le.1 hf))

theorem Serves.goodFrame {k : State → State} (hk : ∀ s : State, s.link.fifo.length < 4 → Effects s (k s)) (s : State) :
    Serves s (.next (goodFrame k s)) := .next (.goodFrame (fun s hs => .runs (hk s hs)) s)

theorem Serves.goodFrameOutcome {k : State → Host.Outcome State Fault Refusal}
    (hk : ∀ s : State, s.link.fifo.length < 4 → Serves s (k s)) (s : State) : Serves s (goodFrameOutcome k s) := by
  unfold Machine.goodFrameOutcome
  refine .ite (fun _ => .runs (.link s)) fun _ => .ite (fun _ => ?_) fun hf => ?_
  · exact .runs ((Effects.countGood s).trans (Effects.link _))
  · exact fun t ht => .after (.countGood s) rfl (hk (countGood s) (Nat.not_le.1 hf) t ht)

theorem Serves.hostCharacter (c : Byte) (b : Bool) (s : State) : Serves s (execHostCharacterReceived c b s) := by
  unfold execHostCharacterReceived
  split
  · exact .runs (.huntCharacter _ _ _)
  · refine .ite (fun _ => .runs ((Effects.dropFrame s).trans (Effects.huntCharacter _ _ _))) fun _ =>
      .ite (fun _ => ?_) fun _ => .runs (.dropFrame s)
    unfold takeCharacter
    split
    · exact .ite (fun _ => .runs (.setFraming _ _)) fun _ => .runs (.badLen _ _)
    · refine .ite (fun _ => .runs (.setFraming _ _)) fun _ => ?_
      unfold takeFrame
      refine .ite (fun _ => ?_) fun _ => .runs (.badCheck _)
      split
      · exact .goodFrameOutcome (fun _ hs => .dispatch hs _ _ _) _
      · exact .runs (.setFraming _ _)

end Sys2Proof.Machine

namespace Sys2Proof.Machine

namespace Serves

theorem refl (s : State) : Serves s (.next s) := .runs .refl

/-! Stops, pins and samples. -/

theorem debounce (i : Input) (s : State) : Serves s (execDebounceStateChange i s) := by
  unfold execDebounceStateChange
  dsimp only
  split
  · exact .refl s
  · exact .ite (fun _ => .refl s) fun _ => .runs <| (Effects.clock s _).trans <| (Effects.pins _).trans <|
      Effects.ite (fun _ => .inputActive i _) fun _ => .refl

theorem vehicleMovingExpiry (s : State) : Serves s (execVehicleMovingExpiry s) := by
  unfold execVehicleMovingExpiry
  split
  · exact .refl s
  · exact .runs ((Effects.clock s _).trans (Effects.pins _))

theorem freeRunTimerExpiry (c : Channel) (s : State) : Serves s (execFreeRunTimerExpiry c s) := by
  unfold execFreeRunTimerExpiry
  split
  · exact .refl s
  · next t ht =>
    have hs : ¬(s.sense.get c).Still := fun hs => by rw [hs.2.1] at ht; cases ht
    have htimer : Effects (s.upTo (t + Config.conversionPeriod)) ((s.upTo (t + Config.conversionPeriod)).onChannel c
        (fun ch => { ch with timer := some (s.upTo (t + Config.conversionPeriod)).clock })) :=
      .channel _ c (fun h => h) fun h => absurd h hs
    refine .runs <| (Effects.clock s _).trans <| htimer.trans (Effects.beginConversion _ fun h => ?_)
    rw [State.onChannel_sense, PerChannel.get_set_self] at h
    exact absurd h.2.1 (Option.some_ne_none _)

theorem dualTrackPrimaryComplete (c : Channel) (code : RawCode) (s : State) :
    Serves s (execDualTrackPrimaryComplete c code s) := by
  unfold execDualTrackPrimaryComplete
  split
  · next cv _ hcv =>
    split
    · exact .refl s
    · refine .runs ((Effects.clock s _).trans (Effects.channel _ c id fun h => ?_))
      exact absurd (hcv.symm.trans h.1) (Option.some_ne_none _)
  · exact .refl s

theorem conversionComplete (c : Channel) (code : RawCode) (s : State) : Serves s (execConversionComplete c code s) := by
  unfold execConversionComplete
  split
  · exact .refl s
  · next cv hcv =>
    have hc : (s.sense.get c).conversion.isSome = true := by rw [hcv]; rfl
    split
    · exact .runs ((Effects.clock s _).trans (Effects.deliver _ _ _ hc))
    · exact .runs ((Effects.clock s _).trans (Effects.deliver _ _ _ hc))
    · exact .refl s

theorem stall (a : Axis) (s : State) : Serves s (execStall a s) := by
  unfold execStall
  split
  · exact .refl s
  · refine .ite (fun _ => .runs (.settled ?_)) fun _ => .refl s
    split
    · exact (Effects.clock s _).trans (Effects.raiseFaults _ _ _ _)
    · exact .raiseFaults _ _ _ _

theorem overload (s : State) : Serves s (execOverload s) := by
  unfold execOverload
  split
  · exact .refl s
  · next r hr =>
    refine .ite (fun _ => .runs (.settled ?_)) fun _ => .refl s
    have hstop (u : State) (hu : u.motion = s.motion) : Effects u (enterStopping r .overload false u) :=
      .list (.of_mem (hu ▸ mem_of_mover hr) (.enterStopping r _ _ u))
    split
    · exact (Effects.clock s _).trans (hstop _ rfl)
    · exact hstop s rfl

theorem sensorDisagree (c : Channel) (s : State) : Serves s (execSensorDisagree c s) := by
  have hcount (a : Axis) : Serves s (.next (execSensorDisagree.disagreed a s)) :=
    .runs (.settled ((Effects.channel s (.axis a) (fun _ => Nat.zero_le _) id).trans (Effects.raiseFaults _ _ _ _)))
  unfold execSensorDisagree
  split
  · exact hcount .lift
  · exact hcount .tilt
  all_goals exact .refl s

theorem supplyCut (s : State) : Serves s (execSupplyCut s) := by
  unfold execSupplyCut
  split
  · split
    · exact .runs ((Effects.clock s _).trans (Effects.cutSupply _))
    · exact .runs (.cutSupply s)
  · exact .refl s

theorem supplyRecover (s : State) : Serves s (execSupplyRecover s) := by
  unfold execSupplyRecover
  split
  · split
    · exact .runs ((Effects.clock s _).trans (Effects.restoreSupply _))
    · exact .runs (.restoreSupply s)
  · exact .refl s

theorem pinChange (p : Pin) (l : Bool) (s : State) : Serves s (execDiscretePinChange p l s) := by
  unfold execDiscretePinChange
  split
  · exact .runs (.inputPin _ _ s)
  · exact .runs (.pins s)
  · exact .runs (.estopLow s)
  · exact .runs (.single (.holdoffRises s))
  · exact .runs (.single (.holdoffFalls s))
  · exact .runs (.pins s)

/-! Timers of records. -/

/-- R45: the end of a record at a time, and then the attempts it owes. -/
theorem endsAt (tag : Nat) (res : Result) (n : Nat) (s : State) :
    Effects s (settle (Machine.endRecord tag res (s.upTo n))) :=
  .settled ((Effects.clock s n).trans (Effects.list (.endRecord tag res _)))

theorem waitTimerExpiry (tag : Nat) (s : State) : Serves s (execWaitTimerExpiry tag s) := by
  unfold execWaitTimerExpiry
  split
  · exact .refl s
  · exact .ite (fun _ => .runs (endsAt _ _ _ s)) fun _ => .refl s

theorem holdTimerExpiry (tag : Nat) (s : State) : Serves s (execHoldTimerExpiry tag s) := by
  unfold execHoldTimerExpiry
  split
  · exact .refl s
  · next r hr =>
    exact .ite (fun _ => .runs (.settled ((Effects.clock s _).trans
      (Effects.list (.of_mem (s := s.upTo _) (mem_of_find hr) (.holdStop _ r _)))))) fun _ => .refl s

theorem pauseWindowExpiry (tag : Nat) (s : State) : Serves s (execPauseWindowExpiry tag s) := by
  unfold execPauseWindowExpiry
  split
  · exact .refl s
  · exact .ite (fun _ => .runs (endsAt _ _ _ s)) fun _ => .refl s

theorem prewarnTimerExpiry (tag : Nat) (s : State) : Serves s (execPrewarnTimerExpiry tag s) := by
  unfold execPrewarnTimerExpiry
  split
  · exact .refl s
  · exact .runs <| (Effects.clock s _).trans <| (Effects.list ⟨.prewarnCancel tag _, fun _ => ⟨rfl, rfl⟩⟩).trans
      (Effects.list (.prewarnEvent _ _ _))

/-! The Drive Unit's rows. -/

/-- R138: a boundary brings the clock and its base up to the same time. -/
theorem boundaryAt (s : State) (n : Nat) {f : Drive → Drive} (h : ∀ d, (f d).out = d.out := by exact fun _ => rfl) :
    Effects s ((s.upTo n).onDrive f) := (Effects.clock s n).trans (Effects.drive _ h)

theorem periodBoundary (r : Readings) (s : State) : Serves s (execPeriodBoundary r s) := by
  unfold execPeriodBoundary
  split
  · exact .runs ((boundaryAt s _).trans (Effects.driveBoundary _ _))
  · exact .runs ((boundaryAt s _).trans (Effects.driveBoundary _ _))
  · exact .runs ((boundaryAt s _).trans <| (Effects.guardPair _ _ _).trans <| (Effects.guardPair _ _ _).trans
      (Effects.driveBoundary _ _))
  · exact .runs ((boundaryAt s _).trans (Effects.foldl (Effects.judgeLampReading _) _ _))

theorem hitPhaseEnd (o : DriveOut) (s : State) : Serves s (execHitPhaseEnd o s) := by
  refine .ite (fun h => .runs ((Effects.clock s _).trans (.single (.out _ o _ fun hq => ?_)))) fun _ => .refl s
  have hp : (s.drive.out.get o).phase = .off := hq.2.2.2.2
  rw [hp] at h
  simp at h

theorem doorCurrentObstruction (a : Axis) (s : State) : Serves s (execDoorCurrentObstruction a s) := by
  unfold execDoorCurrentObstruction
  split
  · exact .refl s
  · refine .ite (fun _ => .runs (.settled ?_)) fun _ => .refl s
    split
    · exact (Effects.clock s _).trans (Effects.list (.obstruct a _))
    · exact .list (.obstruct a s)

theorem periodCentre (l : Levels) (s : State) : Serves s (execPeriodCentre l s) := by
  unfold execPeriodCentre
  split
  · exact .runs (.driveCentre _ _ s)
  · exact .runs (.driveCentre _ _ s)
  · exact .runs (.driveCentre _ _ s)
  · exact .runs (.lampCentre _ _ s)

/-! The Beacon Unit's rows. -/

theorem lampBoundary (s : State) : Serves s (execLampBoundary s) := by
  refine .runs <| (Effects.clock s _).trans <| (Effects.beacon _ fun h => ?_).trans <|
    (Effects.testBoundary _).trans (Effects.foldl Effects.lampBoundary _ _)
  exact ⟨Nat.le_of_lt_succ (Nat.mod_lt _ (by decide)), h.2⟩

theorem lampTestComplete (s : State) : Serves s (execLampTestComplete s) := by
  unfold execLampTestComplete
  split
  · exact .runs (.lampTestDone s)
  · exact .refl s
  · exact .refl s

theorem overrideExpiry (l : Lamp) (s : State) : Serves s (execOverrideExpiry l s) := by
  unfold execOverrideExpiry
  split
  · exact .runs (.lamp s l _)
  · exact .refl s
  · exact .refl s

/-! The crew bus. -/

theorem crewFrameDiscard (frame : HeardFrame) (s : State) : Serves s (execCrewFrameDiscard frame s) := by
  refine .next (.atStop _ (fun u => ?_) s)
  split
  · exact .handBytes _ u
  · exact .runs .refl

theorem crewFrameStart (s : State) : Serves s (execCrewFrameStart s) := by
  unfold execCrewFrameStart
  split
  · exact .runs (.crew s _)
  · exact .runs (.crew s _)
  · exact .runs (.crew s _)
  · exact .refl s
  · exact .refl s

theorem silenceTimerExpiry (n : Nat) (s : State) : Serves s (execSilenceTimerExpiry n s) := by
  unfold execSilenceTimerExpiry
  split
  · exact .refl s
  · exact .runs ((Effects.clock s _).trans (Effects.station _ n _))

theorem clearRefusedTimerExpiry (n : Nat) (s : State) : Serves s (execClearRefusedTimerExpiry n s) := by
  unfold execClearRefusedTimerExpiry
  split
  · exact .refl s
  · exact .runs ((Effects.clock s _).trans (Effects.station _ n _))

theorem lampsTimer (s : State) : Serves s (execLampsTimer s) := by
  unfold execLampsTimer
  split
  · exact .refl s
  · exact .runs <| (Effects.clock s _).trans <| (Effects.crew _ _).trans <|
      Effects.ite (fun _ => .refl) fun _ => Effects.crew _ _

theorem lampsFrameStart (s : State) : Serves s (execLampsFrameStart s) := by
  unfold execLampsFrameStart
  split
  · exact .runs <| (Effects.clock s _).trans <| (Effects.station _ _ _).trans (Effects.crew _ _)
  · exact .refl s

theorem arbitrationLost (s : State) : Serves s (execArbitrationLost s) := by
  unfold execArbitrationLost
  split
  · exact .runs ((Effects.station s _ _).trans (Effects.crew _ _))
  · exact .refl s

theorem busStuck (s : State) : Serves s (execBusStuck s) :=
  .ite (fun _ => .refl s) fun _ => .runs <| (Effects.crew s _).trans <| (Effects.notice _ _).trans
    (Effects.list (.lapsePendants _))

/-! The store. -/

theorem commitEraseDone (s : State) : Serves s (execCommitEraseDone s) := by
  unfold execCommitEraseDone
  split
  · exact .ite (fun _ => .runs (.store s)) fun _ => .runs (.endCommit _ s)
  all_goals exact .refl s

theorem commitPageDone (s : State) : Serves s (execCommitPageDone s) := by
  unfold execCommitPageDone
  split
  · exact .ite (fun _ => .runs (.store s)) fun _ => .runs (.endCommit _ s)
  all_goals exact .refl s

theorem commitVerifyDone (bytes : List Byte) (s : State) : Serves s (execCommitVerifyDone bytes s) := by
  unfold execCommitVerifyDone
  split
  · exact .runs (.verifyCommit bytes s)
  all_goals exact .refl s

theorem commitStepTimeout (s : State) : Serves s (execCommitStepTimeout s) := by
  unfold execCommitStepTimeout
  split
  · exact .refl s
  · exact .runs ((Effects.clock s _).trans (Effects.endCommit _ _))

/-! The host's line. -/

theorem hostFrameBad (why : BadFrame) (s : State) : Serves s (execHostFrameBad why s) := by
  unfold execHostFrameBad
  split
  · exact .ite (fun _ => .refl s) fun _ => .runs (.badLen _ s)
  · exact .runs (.badCheck s)
  · unfold framingError
    split
    · exact .refl s
    · exact .runs (.dropFrame s)

theorem hostGapTimeout (s : State) : Serves s (execHostGapTimeout s) := by
  unfold execHostGapTimeout
  split
  · exact .refl s
  · exact .runs ((Effects.clock s _).trans (Effects.dropFrame _))

end Serves

/-! ### Resets and the release of HOLDOFF -/

/-- R188: the restart takes effect, or nothing happens. -/
theorem takeRestart_effect {c : Instr} (hc : Resets c) {s u : State} (h : Effects s u) (hp : u.pins = s.pins)
    (hq : u.pending = s.pending) : CommandEffect c s (takeRestart u) := by
  unfold takeRestart
  split
  · refine .resets hc ?_
    unfold resetRelease
    rw [hp, hq]
  · exact .served (.runs h)

theorem holdoffReleased_effect {s t : State} (h : execHoldoffReleased s = .next t) :
    CommandEffect .holdoffReleased s t := by
  unfold execHoldoffReleased at h
  split at h
  · next n hn =>
    split at h
    · cases h
      exact .releases n _ rfl hn rfl
    · cases h
      exact .served (.runs .refl)
  · cases h
    exact .served (.runs .refl)

theorem replySent_effect {s t : State} (h : execReplySent s = .next t) : CommandEffect .replySent s t := by
  unfold execReplySent at h
  split at h
  · cases h
    exact .served (.runs .refl)
  · next r rest hf =>
    have hl : Effects s (s.onLink (fun l => { l with fifo := rest })) := .link s fun ⟨hg, hb, hn, hr⟩ =>
      ⟨hg, hb, hn, by rw [hf] at hr; exact (Nat.le_succ _).trans hr⟩
    cases h
    split
    · exact takeRestart_effect (.inr (.inr rfl)) hl rfl rfl
    · exact .served (.runs hl)

theorem restartTakesEffect_effect {s t : State} (h : execRestartTakesEffect s = .next t) :
    CommandEffect .restartTakesEffect s t := by
  unfold execRestartTakesEffect at h
  split at h
  · cases h
    exact takeRestart_effect (.inr (.inl rfl)) .refl rfl rfl
  · cases h
    exact .served (.runs .refl)
  · cases h
    exact .served (.runs .refl)

/-- What every command does, one case for each. -/
theorem exec_effect {c : Instr} {s t : State} (h : exec c s = .next t) : CommandEffect c s t := by
  have served {o : Host.Outcome State Fault Refusal} (ho : Serves s o) (h : o = .next t) : CommandEffect c s t :=
    .served (ho t h)
  cases c with
  | powerOnReset => cases h; exact .resets (.inl rfl) rfl
  | profileLoadEnd image => exact served (.ite (fun _ => .runs (.judgeLoad image s)) fun _ => .refl s) h
  | loadReadTimeout =>
      exact served (.ite (fun _ => .runs ((Effects.clock s _).trans (Effects.endLoad _ _ _))) fun _ => .refl s) h
  | strapSample =>
      exact served (.ite (fun _ => .refl s) fun _ => .runs ((Effects.clock s _).trans (Effects.takeStrap _))) h
  | lampTestComplete => exact served (.lampTestComplete s) h
  | estopPinLow => exact served (.runs (.estopLow s)) h
  | holdoffAsserted => exact served (.runs (.single (.holdoffRises s))) h
  | holdoffReleased => exact holdoffReleased_effect h
  | debounceStateChange i => exact served (.debounce i s) h
  | vehicleMoving => exact served (.ite (fun _ => .refl s) fun _ => .runs (.holdMoving s)) h
  | vehicleMovingExpiry => exact served (.vehicleMovingExpiry s) h
  | freeRunTimerExpiry c => exact served (.freeRunTimerExpiry c s) h
  | controlIntervalEvent a =>
      exact served (.runs ((Serves.boundaryAt s _).trans (Effects.triggerSynchronised a _))) h
  | dualTrackPrimaryComplete c code => exact served (.dualTrackPrimaryComplete c code s) h
  | conversionComplete c code => exact served (.conversionComplete c code s) h
  | stall a => exact served (.stall a s) h
  | overload => exact served (.overload s) h
  | sensorDisagree c => exact served (.sensorDisagree c s) h
  | supplyCut => exact served (.supplyCut s) h
  | supplyRecover => exact served (.supplyRecover s) h
  | waitTimerExpiry tag => exact served (.waitTimerExpiry tag s) h
  | holdTimerExpiry tag => exact served (.holdTimerExpiry tag s) h
  | pauseWindowExpiry tag => exact served (.pauseWindowExpiry tag s) h
  | prewarnTimerExpiry tag => exact served (.prewarnTimerExpiry tag s) h
  | periodBoundary r => exact served (.periodBoundary r s) h
  | hitPhaseEnd o => exact served (.hitPhaseEnd o s) h
  | openFinding o => exact served (.runs (.reportOpen o s)) h
  | doorCurrentObstruction a => exact served (.doorCurrentObstruction a s) h
  | periodCentre l => exact served (.periodCentre l s) h
  | echoFinding o => exact served (.runs (.reportEcho o s)) h
  | lampBoundary => exact served (.lampBoundary s) h
  | stretchTimerExpiry l => exact served (.ite (fun _ => .runs (.lamp s l _)) fun _ => .refl s) h
  | overridePulseExpiry l => exact served (.ite (fun _ => .runs (.lamp s l _)) fun _ => .refl s) h
  | overrideExpiry l => exact served (.overrideExpiry l s) h
  | holdFrame src dst data => exact served (.next (.atStop _ (fun _ => .runs (.handHold _ _ _ _)) s)) h
  | clearFrame src dst => exact served (.next (.atStop _ (fun _ => .handClear _ _ _) s)) h
  | haltFrame src => exact served (.next (.atStop _ (fun _ => .runs (.handHalt _ _)) s)) h
  | crewFrameDiscard frame => exact served (.crewFrameDiscard frame s) h
  | crewFrameTimeout => exact served (.ite (fun _ => .runs (.crew s _)) fun _ => .refl s) h
  | silenceTimerExpiry n => exact served (.silenceTimerExpiry n s) h
  | clearRefusedTimerExpiry n => exact served (.clearRefusedTimerExpiry n s) h
  | lampsTimer => exact served (.lampsTimer s) h
  | lampsFrameStart => exact served (.lampsFrameStart s) h
  | lampsFrameSent => exact served (.ite (fun _ => .runs (.crew s _)) fun _ => .refl s) h
  | lampsNotAcknowledged => exact served (.ite (fun _ => .runs (.crew s _)) fun _ => .refl s) h
  | arbitrationLost => exact served (.arbitrationLost s) h
  | backoffEnd =>
      exact served (.ite (fun _ => .runs ((Effects.clock s _).trans (Effects.crew _ _))) fun _ => .refl s) h
  | busStuck => exact served (.busStuck s) h
  | busRecover =>
      exact served (.ite (fun _ => .runs ((Effects.crew s _).trans (Effects.notice _ _))) fun _ => .refl s) h
  | hostFrameBad why => exact served (.hostFrameBad why s) h
  | hostGapTimeout => exact served (.hostGapTimeout s) h
  | frameOverrun => exact served (.ite (fun _ => .goodFrame (fun _ _ => .refl) s) fun _ => .refl s) h
  | unknownKind kind tag =>
      exact served (.ite (fun _ => .refl s) fun _ => .goodFrame (fun _ hs => .answer _ _ _ hs) s) h
  | replySent => exact replySent_effect h
  | status tag => exact served (.goodFrame (fun _ hs => .doStatus hs _) s) h
  | queryAxis tag axis => exact served (.goodFrame (fun _ hs => .doQueryAxis hs _ _) s) h
  | queryList tag => exact served (.goodFrame (fun _ hs => .reply _ hs) s) h
  | move tag axis target speed => exact served (.goodFrame (fun _ hs => .doMove hs _ _ _ _) s) h
  | jog tag axis dir speed => exact served (.goodFrame (fun _ hs => .doJog hs _ _ _ _) s) h
  | jogRefresh tag => exact served (.goodFrame (fun _ hs => .doJogRefresh hs _) s) h
  | runSequence tag seq held => exact served (.goodFrame (fun _ hs => .doRunSequence hs _ _ _) s) h
  | stop tag axis recordTag => exact served (.goodFrame (fun _ hs => .doStop hs _ _ _) s) h
  | stopAll tag => exact served (.goodFrame (fun _ hs => .doStopAll hs _) s) h
  | estop tag => exact served (.goodFrame (fun _ hs => .doEstop hs _) s) h
  | estopClear tag => exact served (.next (.goodFrame (fun _ hs => .doEstopClear hs _) s)) h
  | faultClear tag axis channel => exact served (.goodFrame (fun _ hs => .doFaultClear hs _ _ _) s) h
  | beaconOverride tag channel pattern seconds =>
      exact served (.goodFrame (fun _ hs => .doBeaconOverride hs _ _ _ _) s) h
  | readNotices tag => exact served (.goodFrame (fun _ hs => .doReadNotices hs _) s) h
  | profileRead tag region offset length =>
      exact served (.goodFrameOutcome (fun _ hs => .doProfileRead hs _ _ _ _) s) h
  | profileStage tag region offset bytes =>
      exact served (.goodFrameOutcome (fun _ hs => .doProfileStage hs _ _ _ _) s) h
  | profileDiscard tag => exact served (.goodFrame (fun _ hs => .doProfileDiscard hs _) s) h
  | profileCommit tag => exact served (.goodFrame (fun _ hs => .doProfileCommit hs _) s) h
  | lockEnvelopes tag => exact served (.goodFrame (fun _ hs => .doLockEnvelopes hs _) s) h
  | restart tag => exact served (.goodFrame (fun _ hs => .doRestart hs _) s) h
  | restartTakesEffect => exact restartTakesEffect_effect h
  | commitEraseDone => exact served (.commitEraseDone s) h
  | commitPageDone => exact served (.commitPageDone s) h
  | commitVerifyDone bytes => exact served (.commitVerifyDone bytes s) h
  | commitStepTimeout => exact served (.commitStepTimeout s) h
  | discretePinChange p l => exact served (.pinChange p l s) h
  | crewFrameStart => exact served (.crewFrameStart s) h
  | crewFrameIgnored bytes => exact served (.next (.atStop _ (fun _ => .handBytes _ _) s)) h
  | hostCharacterReceived c b => exact served (.hostCharacter c b s) h

end Sys2Proof.Machine

namespace Sys2Proof.Machine

/-! ### A list that a stop empties (R119, R122) -/

/-- Every record of the list ends as one event, and then the attempts which that owes. -/
def emptyList (res : Result) (s : State) : State :=
  settle (s.asOneEvent (fun s => s.tags.foldl (cutRecord res) s))

/-- R118: the latch set, every output forced off and the notice given, before any record ends. -/
def estopForced (c : EstopCause) (s : State) : State :=
  appendNotice (.estop c)
    (driveOuts.foldl forceImmediate
      ((s.onMotion (fun m => { m with estop := true })).onLink (fun l => { l with restarting := false })))

/-- R122: HOLDOFF asserted, every output held off and every lamp dark, before any record ends. -/
def holdoffForced (s : State) : State :=
  lamps.foldl darkenLamp (driveOuts.foldl forceHoldoff (s.onPins (fun p => { p with holdoff := true, holdoffLow := none })))

theorem estopCause_eq (c : EstopCause) (s : State) :
    estopCause c s = if s.motion.estop then s else emptyList .estop (estopForced c s) := rfl

theorem assertHoldoff_eq (s : State) : assertHoldoff s = emptyList .holdoff (holdoffForced s) := rfl

/-- What each change of a fold keeps, the fold keeps. -/
theorem foldl_keeps {α β : Type} (g : State → β) {f : State → α → State} (h : ∀ s x, g (f s x) = g s) :
    ∀ (l : List α) (s : State), g (l.foldl f s) = g s
  | [], _ => rfl
  | x :: l, s => (foldl_keeps g h l (f s x)).trans (h s x)

theorem estopForced_pins (c : EstopCause) (s : State) : (estopForced c s).pins = s.pins := by
  rw [estopForced, appendNotice_pins, foldl_keeps State.pins (f := forceImmediate) fun _ _ => rfl]
  rfl

theorem estopForced_motion (c : EstopCause) (s : State) : (estopForced c s).motion = { s.motion with estop := true } := by
  rw [estopForced, appendNotice_motion, foldl_keeps State.motion (f := forceImmediate) fun _ _ => rfl]
  rfl

/-- A field that neither the forces on the outputs nor a notice touch. -/
theorem estopForced_keeps {β : Type} (g : State → β) (hn : ∀ n s, g (appendNotice n s) = g s)
    (ho : ∀ s o, g (forceImmediate s o) = g s) (c : EstopCause) (s : State) :
    g (estopForced c s) =
      g ((s.onMotion (fun m => { m with estop := true })).onLink (fun l => { l with restarting := false })) := by
  rw [estopForced, hn, foldl_keeps g (f := forceImmediate) ho]

/-- A field that neither the lamps nor the forces on the outputs touch. -/
theorem holdoffForced_keeps {β : Type} (g : State → β) (hl : ∀ s l, g (darkenLamp s l) = g s)
    (ho : ∀ s o, g (forceHoldoff s o) = g s) (s : State) :
    g (holdoffForced s) = g (s.onPins (fun p => { p with holdoff := true, holdoffLow := none })) := by
  rw [holdoffForced, foldl_keeps g (f := darkenLamp) hl, foldl_keeps g (f := forceHoldoff) ho]

theorem holdoffForced_pins (s : State) : (holdoffForced s).pins = { s.pins with holdoff := true, holdoffLow := none } :=
  holdoffForced_keeps State.pins (fun _ _ => rfl) (fun _ _ => rfl) s

theorem holdoffForced_motion (s : State) : (holdoffForced s).motion = s.motion :=
  holdoffForced_keeps State.motion (fun _ _ => rfl) (fun _ _ => rfl) s

theorem ListWork.emptyList (res : Result) (s : State) : ListWork s (emptyList res s) :=
  .settled (.asOneEvent (ListWork.foldl (ListWork.cutRecord res) s.tags s))

/-- A cut leaves no record under its tag. -/
theorem cutRecord_find (res : Result) (s : State) (tag : Nat) : (cutRecord res s tag).find tag = none := by
  unfold cutRecord
  split
  · assumption
  · exact endRecord_find tag res _

/-- A tag is found exactly when the list holds it. -/
theorem find_eq_none_iff {s : State} {tag : Nat} : s.find tag = none ↔ tag ∉ s.tags := by
  simp [State.find, State.tags]

/-- Cuts of some tags leave none of them. -/
theorem not_mem_foldl_cutRecord (res : Result) : ∀ (l : List Nat) (s : State),
    ∀ t ∈ (l.foldl (cutRecord res) s).tags, t ∉ l
  | [], _, _, _ => List.not_mem_nil
  | x :: l, s, t, ht => by
      have hl := not_mem_foldl_cutRecord res l _ t ht
      have hx : t ∈ (cutRecord res s x).tags :=
        (ListWork.foldl (ListWork.cutRecord res) l _).effects.listChange.tags.subset ht
      rw [List.mem_cons, not_or]
      exact ⟨fun h => find_eq_none_iff.1 (cutRecord_find res s x) (h ▸ hx), hl⟩

theorem foldl_cutRecord_records (res : Result) (s : State) : (s.tags.foldl (cutRecord res) s).motion.records = [] := by
  have h : (s.tags.foldl (cutRecord res) s).tags = [] := List.eq_nil_iff_forall_not_mem.2 fun t ht =>
    not_mem_foldl_cutRecord res s.tags s t ht
      ((ListWork.foldl (ListWork.cutRecord res) s.tags s).effects.listChange.tags.subset ht)
  exact List.map_eq_nil_iff.1 h

theorem emptyList_records (res : Result) (s : State) : (emptyList res s).motion.records = [] :=
  (ListChange.settle _).empty (foldl_cutRecord_records res s)

/-! ### Outputs that stay off -/

/-- What a change of one output's record keeps of that record, it keeps of every output. -/
theorem onOut_holds {p : DriveRecord → Prop} {s : State} {o : DriveOut} (o' : DriveOut) {f : DriveRecord → DriveRecord}
    (hf : p (s.drive.out.get o') → p (f (s.drive.out.get o'))) (h : p (s.drive.out.get o)) :
    p ((s.onOut o' f).drive.out.get o) := by
  rw [onOut_get]
  split
  · next he => exact hf (he ▸ h)
  · exact h

theorem foldl_out_holds {p : DriveRecord → Prop} {f : State → DriveOut → State} {o : DriveOut}
    (hf : ∀ s o', p (s.drive.out.get o) → p ((f s o').drive.out.get o)) : ∀ (l : List DriveOut) (s : State),
    p (s.drive.out.get o) → p ((l.foldl f s).drive.out.get o)
  | [], _, h => h
  | x :: l, s, h => foldl_out_holds hf l (f s x) (hf s x h)

theorem endRecord_drive {tag : Nat} {s : State} {r : Record} (res : Result) (h : s.find tag = some r) :
    (endRecord tag res s).drive = (leaveMotion r s).drive := by
  rw [endRecord, h]
  rfl

/-- R139, R140: an IMMEDIATE force keeps this of an output's record. -/
abbrev KeptByForce (p : DriveRecord → Prop) : Prop :=
  ∀ (s : State) (o : DriveOut) (r : DriveRecord), p r →
    p { s.turnedOff o r with force := { r.force with immediate := r.claim.isSome } }

/-- R136: a release keeps this of an output's record. -/
abbrev KeptByRelease (p : DriveRecord → Prop) : Prop :=
  ∀ r : DriveRecord, p r → p { r with claim := none, force := { r.force with immediate := false } }

section Cuts

variable {p : DriveRecord → Prop} (hforce : KeptByForce p) (hrelease : KeptByRelease p)

include hrelease in
theorem leaveMotion_out {s : State} {o : DriveOut} (r : Record) (h : p (s.drive.out.get o)) :
    p ((leaveMotion r s).drive.out.get o) := by
  unfold leaveMotion
  split
  · exact foldl_out_holds (f := releaseOut) (fun s o' => onOut_holds o' (hrelease _)) _ s h
  · exact h

include hrelease in
theorem endRecord_out {s : State} {o : DriveOut} (tag : Nat) (res : Result) (h : p (s.drive.out.get o)) :
    p ((endRecord tag res s).drive.out.get o) := by
  cases hf : s.find tag with
  | none => rwa [endRecord_none res hf]
  | some r =>
      rw [endRecord_drive res hf]
      exact leaveMotion_out hrelease r h

include hforce in
theorem immediateStop_out {s : State} {o : DriveOut} (r : Record) (h : p (s.drive.out.get o)) :
    p ((immediateStop r s).drive.out.get o) :=
  foldl_out_holds (f := forceImmediate) (fun s o' => onOut_holds o' (hforce s o' _)) _ s h

include hforce hrelease in
theorem cutRecord_out {s : State} {o : DriveOut} (res : Result) (tag : Nat) (h : p (s.drive.out.get o)) :
    p ((cutRecord res s tag).drive.out.get o) := by
  unfold cutRecord
  split
  · exact h
  · refine endRecord_out hrelease _ _ ?_
    split
    · exact immediateStop_out hforce _ h
    · exact h

include hforce hrelease in
/-- Cuts keep it of every output. -/
theorem foldl_cutRecord_out {o : DriveOut} (res : Result) : ∀ (l : List Nat) (s : State),
    p (s.drive.out.get o) → p ((l.foldl (cutRecord res) s).drive.out.get o)
  | [], _, h => h
  | x :: l, s, h => foldl_cutRecord_out res l (cutRecord res s x) (cutRecord_out hforce hrelease res x h)

include hforce hrelease in
theorem emptyList_out {s : State} {o : DriveOut} (res : Result) (h : p (s.drive.out.get o)) :
    p ((emptyList res s).drive.out.get o) := by
  have he : (s.asOneEvent (fun s => s.tags.foldl (cutRecord res) s)).motion.records = [] := foldl_cutRecord_records res s
  rw [emptyList, settle_of_empty he]
  exact foldl_cutRecord_out hforce hrelease res s.tags s h

end Cuts

theorem quiet_keptByForce : KeptByForce DriveRecord.Quiet := fun _ _ _ _ => ⟨rfl, rfl, rfl, rfl, rfl⟩

theorem quiet_keptByRelease : KeptByRelease DriveRecord.Quiet := fun _ h => h

theorem emptyList_quiet {s : State} (res : Result) (h : s.DriveQuiet) : (emptyList res s).DriveQuiet := fun o ho =>
  emptyList_out quiet_keptByForce quiet_keptByRelease res (h o ho)

theorem estopForced_quiet (c : EstopCause) (s : State) : (estopForced c s).DriveQuiet := by
  intro o _
  rw [estopForced, appendNotice_drive, forceImmediate_all_get]
  exact ⟨rfl, rfl, rfl, rfl, rfl⟩

/-- R139, R141: the outputs as the HOLDOFF force takes their duties. -/
theorem holdoffForced_get (s : State) (o : DriveOut) :
    (holdoffForced s).drive.out.get o =
      { s.dutyTaken o (s.drive.out.get o) with force := { (s.drive.out.get o).force with holdoff := true } }:= by
  rw [holdoffForced, foldl_keeps (fun s => s.drive.out.get o) (f := darkenLamp) fun _ _ => rfl, forceHoldoff_all_get]
  rfl

theorem holdoffForced_quiet (s : State) : (holdoffForced s).DriveQuiet := by
  intro o _
  rw [holdoffForced_get]
  exact ⟨rfl, rfl, rfl, rfl, rfl⟩

/-! ### Law 5 -/

theorem estopCause_stops {c : EstopCause} {s : State} (h : s.StopsHold) : (estopCause c s).StopsHold := by
  rw [estopCause_eq]
  split
  · exact h
  · have hp : (emptyList .estop (estopForced c s)).pins = s.pins :=
      (ListWork.emptyList .estop (estopForced c s)).effects.listChange.pins.trans (estopForced_pins c s)
    refine ⟨?_, ?_, fun _ => ⟨emptyList_records _ _, emptyList_quiet _ (estopForced_quiet c s)⟩⟩
    · rw [hp]
      exact h.1
    · rw [hp]
      exact h.2.1

theorem assertHoldoff_pins (s : State) : (assertHoldoff s).pins = { s.pins with holdoff := true, holdoffLow := none } :=
  (ListWork.emptyList .holdoff (holdoffForced s)).effects.listChange.pins.trans (holdoffForced_pins s)

theorem assertHoldoff_stops (s : State) : (assertHoldoff s).StopsHold := by
  refine ⟨?_, ?_, fun _ => ⟨emptyList_records _ _, emptyList_quiet _ (holdoffForced_quiet s)⟩⟩
  · rw [assertHoldoff_pins]
    exact fun _ => rfl
  · rw [assertHoldoff_pins]
    exact fun h => absurd h Bool.false_ne_true

theorem holdoffHigh_stops {s : State} (h : s.StopsHold) : (holdoffHigh s).StopsHold := by
  unfold holdoffHigh
  dsimp only
  split
  · next hp => exact And.intro (fun _ => hp) ⟨fun hn => absurd hn Bool.false_ne_true, h.2.2⟩
  · exact assertHoldoff_stops _

theorem holdoffPinLow_stops {s : State} (h : s.StopsHold) : (holdoffPinLow s).StopsHold :=
  And.intro (fun hl => absurd hl Bool.false_ne_true) ⟨fun _ => rfl, h.2.2⟩

theorem ListWork.stopsHold {s t : State} (w : ListWork s t) (h : s.StopsHold) : t.StopsHold := by
  obtain ⟨hlevel, hlow, hoff⟩ := h
  have hc := w.effects.listChange
  refine ⟨hc.pins ▸ hlevel, hc.pins ▸ hlow, fun hs => ?_⟩
  rw [hc.estop, hc.pins] at hs
  obtain ⟨he, hq⟩ := hoff hs
  refine ⟨hc.empty he, fun o ho => ?_⟩
  rw [(w.idle he).1]
  exact hq o ho

/-- A change that keeps the pins' HOLDOFF, the latch, the list and the outputs keeps Law 5. -/
theorem State.StopsHold.of_eq {s t : State} (h : s.StopsHold) (hp : t.pins = s.pins)
    (he : t.motion.estop = s.motion.estop) (hr : t.motion.records = s.motion.records) (ho : t.drive.out = s.drive.out) :
    t.StopsHold := by
  rw [State.StopsHold, State.DriveQuiet, hp, he, hr, ho]
  exact h

theorem leaveLoading_cases (s : State) : leaveLoading s = s ∨ ∃ m, s.store.mode = .loading ∧ s.store.inForce = some m
    ∧ leaveLoading s = startLampTest (startCrew (startConversions (handOut m s))) := by
  unfold leaveLoading
  split
  · next m hmode _ _ hm => exact .inr ⟨m, hmode, hm, rfl⟩
  · exact .inl rfl

theorem startLampTest_cases (s : State) :
    startLampTest s = s.onBeacon (fun b => { b with test := .running 0 })
      ∨ startLampTest s = s.onStore (fun st => { st with mode := .run }) := by
  unfold startLampTest
  split
  · exact .inl rfl
  · exact .inr rfl

theorem leaveLoading_keeps (s : State) : (leaveLoading s).pins = s.pins ∧ (leaveLoading s).motion = s.motion
    ∧ (leaveLoading s).drive = s.drive ∧ (leaveLoading s).link = s.link := by
  rcases leaveLoading_cases s with h | ⟨m, -, -, h⟩
  · rw [h]
    exact ⟨rfl, rfl, rfl, rfl⟩
  · rw [h]
    rcases startLampTest_cases (startCrew (startConversions (handOut m s))) with h | h
    · rw [h]
      exact ⟨rfl, rfl, rfl, rfl⟩
    · rw [h]
      exact ⟨rfl, rfl, rfl, rfl⟩

theorem Effect.stopsHold {s t : State} (e : Effect s t) (h : s.StopsHold) : t.StopsHold := by
  cases e with
  | list w => exact w.stopsHold h
  | pins _ f level holdoff low =>
      have ⟨hlevel, hlow, hoff⟩ := h
      refine ⟨?_, ?_, ?_⟩
      · rw [State.onPins_pins, level, holdoff]
        exact hlevel
      · rw [State.onPins_pins, level, low]
        exact hlow
      · rw [State.onPins_pins, holdoff]
        exact hoff
  | holdoffFalls => exact holdoffPinLow_stops h
  | holdoffRises => exact holdoffHigh_stops h
  | estop c => exact estopCause_stops h
  | out _ o f hf => exact ⟨h.1, h.2.1, fun hs => ⟨(h.2.2 hs).1, fun o' ho => onOut_holds o hf ((h.2.2 hs).2 o' ho)⟩⟩
  | drive _ f hf => exact h.of_eq rfl rfl rfl (hf _)
  | accept _ r _ holdoff estop =>
      refine ⟨h.1, h.2.1, fun hs => ?_⟩
      rcases hs with hs | hs
      · exact absurd (estop.symm.trans hs) Bool.false_ne_true
      · exact absurd (holdoff.symm.trans hs) Bool.false_ne_true
  | supply _ f hf =>
      refine h.of_eq rfl ?_ ?_ rfl
      · rw [State.onMotion_motion, hf]
      · rw [State.onMotion_motion, hf]
  | leave =>
      obtain ⟨hp, hm, hd, -⟩ := leaveLoading_keeps s
      exact h.of_eq hp (by rw [hm]) (by rw [hm]) (by rw [hd])
  | sample _ a _ primary alternate _ => exact h.of_eq rfl rfl rfl rfl
  | clock n => exact h
  | _ => exact h.of_eq rfl rfl rfl rfl

theorem Effects.stopsHold {s t : State} (e : Effects s t) (h : s.StopsHold) : t.StopsHold := by
  induction e with
  | refl => exact h
  | tail _ e ih => exact e.stopsHold ih

theorem clearLatch_stops {s : State} (h : s.StopsHold) : (clearLatch s).StopsHold :=
  ⟨h.1, h.2.1, fun hs => h.2.2 (.inr (hs.resolve_left Bool.false_ne_true))⟩

/-! ### The release of HOLDOFF and the reset values -/

theorem judgeLamp_out (l : Lamp) (s : State) : (judgeLamp l s).drive.out = s.drive.out := rfl

/-- A field that neither the lamps nor the forces on the outputs touch is as before the release. -/
theorem releaseHoldoff_keeps {β : Type} (g : State → β) (hl : ∀ l s, g (judgeLamp l s) = g s)
    (ho : ∀ s o, g (liftHoldoff s o) = g s) (s : State) :
    g (releaseHoldoff s) = g (s.onPins (fun p => { p with holdoff := false, holdoffLow := none })) := by
  rw [releaseHoldoff]
  rw [foldl_keeps g (f := fun s l => judgeLamp l s) fun s l => hl l s, foldl_keeps g (f := liftHoldoff) ho]

theorem releaseHoldoff_pins (s : State) :
    (releaseHoldoff s).pins = { s.pins with holdoff := false, holdoffLow := none } :=
  releaseHoldoff_keeps State.pins (fun _ _ => rfl) (fun _ _ => rfl) s

theorem releaseHoldoff_motion (s : State) : (releaseHoldoff s).motion = s.motion :=
  releaseHoldoff_keeps State.motion (fun _ _ => rfl) (fun _ _ => rfl) s

theorem releaseHoldoff_get (s : State) (o : DriveOut) :
    (releaseHoldoff s).drive.out.get o =
      { s.drive.out.get o with
        force := { (s.drive.out.get o).force with holdoff := false }
        lowFrom := min (s.drive.out.get o).lowFrom (halfTicksAt s.clock) }:= by
  rw [releaseHoldoff]
  dsimp only
  rw [foldl_keeps (fun s => s.drive.out.get o) (f := fun s l => judgeLamp l s) fun s l => by rw [judgeLamp_out],
    liftHoldoff_all_get]
  rfl

theorem releaseHoldoff_stops {s : State} (h : s.StopsHold) (low : s.pins.level.holdoff = false) :
    (releaseHoldoff s).StopsHold := by
  rw [State.StopsHold, releaseHoldoff_pins, releaseHoldoff_motion]
  refine ⟨fun hl => absurd (low.symm.trans hl) Bool.false_ne_true, fun hn => absurd hn Bool.false_ne_true, fun hs => ?_⟩
  obtain ⟨hr, hq⟩ := h.2.2 (.inl (hs.resolve_right Bool.false_ne_true))
  refine ⟨hr, fun o ho => ?_⟩
  rw [releaseHoldoff_get]
  exact hq o ho

theorem released_stops (level : PinLevels) (pending : List Instr) (h : level.holdoff = false) :
    (State.released level pending).StopsHold :=
  And.intro (fun hl => absurd (h.symm.trans hl) Bool.false_ne_true) <|
    And.intro (fun hn => absurd hn Bool.false_ne_true) fun hs =>
      absurd (hs.elim id id : false = true) Bool.false_ne_true

/-- R202, R20: the released block once a high HOLDOFF has acted. -/
def releasedHeld (s : State) : State :=
  if s.pins.level.holdoff then assertHoldoff (State.released s.pins.level s.pending)
  else State.released s.pins.level s.pending

/-- R202, R118: then a low ESTOP_N acts. -/
theorem resetRelease_eq (s : State) :
    resetRelease s = if s.pins.level.estopN then releasedHeld s else estopCause .pin (releasedHeld s) := rfl

theorem releasedHeld_stops (s : State) : (releasedHeld s).StopsHold := by
  unfold releasedHeld
  split
  · exact assertHoldoff_stops _
  · next h => exact released_stops _ _ (Bool.eq_false_iff.2 h)

theorem resetRelease_stops (s : State) : (resetRelease s).StopsHold := by
  rw [resetRelease_eq]
  split
  · exact releasedHeld_stops s
  · exact estopCause_stops (releasedHeld_stops s)

theorem CommandEffect.stopsHold {c : Instr} {s t : State} (e : CommandEffect c s t) (h : s.StopsHold) : t.StopsHold := by
  cases e with
  | served e =>
      cases e with
      | runs e => exact e.stopsHold h
      | clears u _ e ht => exact ht ▸ clearLatch_stops (e.stopsHold h)
  | releases n k _ low ht =>
      have hl : s.pins.level.holdoff = false := h.2.1 (by rw [low]; rfl)
      exact ht ▸ releaseHoldoff_stops (s := s.upTo k) h hl
  | resets _ ht => exact ht ▸ resetRelease_stops s

/-- A step idles, or runs the command at the front of the queue. -/
theorem step_cases {s t : State} (h : step s = .next t) :
    (s.pending = [] ∧ t = s.idle)
      ∨ ∃ c rest, s.pending = c :: rest ∧ exec c { s with pending := rest } = .next t := by
  unfold step at h
  split at h
  · next hp =>
    cases h
    exact .inl ⟨hp, rfl⟩
  · next c rest hp => exact .inr ⟨c, rest, hp, h⟩

/-- Settles O5. -/
theorem stepKeepsTheListEmptyWhileStopped : Obligations.StepKeepsTheListEmptyWhileStopped := by
  intro s t h hs
  rcases step_cases hs with ⟨-, rfl⟩ | ⟨c, rest, -, hc⟩
  · exact h
  · exact (exec_effect hc).stopsHold (s := { s with pending := rest }) h

/-! ### What ends a stop (R20, R121) -/

theorem estopCause_estop (c : EstopCause) (s : State) : (estopCause c s).motion.estop = true := by
  rw [estopCause_eq]
  split
  · assumption
  · exact (ListWork.emptyList .estop (estopForced c s)).effects.listChange.estop.trans (by rw [estopForced_motion])

theorem assertHoldoff_estop (s : State) : (assertHoldoff s).motion.estop = s.motion.estop :=
  (ListWork.emptyList .holdoff (holdoffForced s)).effects.listChange.estop.trans (by rw [holdoffForced_motion])

theorem estopCause_pins (c : EstopCause) (s : State) : (estopCause c s).pins = s.pins := by
  rw [estopCause_eq]
  split
  · rfl
  · exact (ListWork.emptyList .estop (estopForced c s)).effects.listChange.pins.trans (estopForced_pins c s)

theorem Effect.keeps_estop {s t : State} (e : Effect s t) (h : s.motion.estop = true) : t.motion.estop = true := by
  cases e with
  | list w => exact w.effects.listChange.estop.trans h
  | holdoffRises =>
      unfold holdoffHigh
      dsimp only
      split
      · exact h
      · exact (assertHoldoff_estop _).trans h
  | estop c => exact estopCause_estop c s
  | supply _ f hf =>
      rw [State.onMotion_motion, hf]
      exact h
  | leave =>
      rw [(leaveLoading_keeps s).2.1]
      exact h
  | _ => exact h

theorem Effect.keeps_holdoff {s t : State} (e : Effect s t) (h : s.pins.holdoff = true) : t.pins.holdoff = true := by
  cases e with
  | list w => exact w.effects.listChange.pins ▸ h
  | pins _ f _ holdoff _ => exact holdoff.trans h
  | holdoffRises =>
      unfold holdoffHigh
      rw [if_pos h]
      exact h
  | estop c => exact estopCause_pins c s ▸ h
  | leave =>
      rw [(leaveLoading_keeps s).1]
      exact h
  | _ => exact h

theorem Effects.keeps_estop {s t : State} (e : Effects s t) (h : s.motion.estop = true) : t.motion.estop = true := by
  induction e with
  | refl => exact h
  | tail _ e ih => exact e.keeps_estop ih

theorem Effects.keeps_holdoff {s t : State} (e : Effects s t) (h : s.pins.holdoff = true) : t.pins.holdoff = true := by
  induction e with
  | refl => exact h
  | tail _ e ih => exact e.keeps_holdoff ih

theorem releasedHeld_pins (s : State) :
    (releasedHeld s).pins = { Pins.reset s.pins.level with holdoff := s.pins.level.holdoff } := by
  unfold releasedHeld
  split
  · next h =>
    rw [assertHoldoff_pins, h]
    rfl
  · next h =>
    rw [Bool.eq_false_iff.2 h]
    rfl

theorem releasedHeld_estop (s : State) : (releasedHeld s).motion.estop = false := by
  unfold releasedHeld
  split
  · exact assertHoldoff_estop _
  · rfl

/-- R202, R20: HOLDOFF after a reset follows its pin. -/
theorem resetRelease_pins (s : State) :
    (resetRelease s).pins = { Pins.reset s.pins.level with holdoff := s.pins.level.holdoff } := by
  rw [resetRelease_eq]
  split
  · exact releasedHeld_pins s
  · exact (estopCause_pins _ _).trans (releasedHeld_pins s)

/-- R202, R118: the latch after a reset follows its pin. -/
theorem resetRelease_estop (s : State) : (resetRelease s).motion.estop = !s.pins.level.estopN := by
  rw [resetRelease_eq]
  split
  · next h =>
    rw [releasedHeld_estop, h]
    rfl
  · next h =>
    rw [estopCause_estop, Bool.eq_false_iff.2 h]
    rfl

/-- R121: a clear finds ESTOP_N high and every station's last HOLD set empty. -/
theorem clearAllowed_iff (s : State) : clearAllowed s = true ↔
    s.pins.level.estopN = true ∧ ∀ st ∈ s.crew.stations, ∀ b ∈ buttons, st.lastSet.get b = false := by
  simp [clearAllowed, PerButton.empty]

theorem latch_cleared_by {c : Instr} {s t : State} (e : CommandEffect c s t) (hs : s.motion.estop = true)
    (ht : t.motion.estop = false) :
    s.pins.level.estopN = true ∧ (Resets c ∨ ∀ st ∈ s.crew.stations, ∀ b ∈ buttons, st.lastSet.get b = false) := by
  have hset {t : State} (h : t.motion.estop = true) (ht : t.motion.estop = false) : False :=
    Bool.false_ne_true (ht.symm.trans h)
  cases e with
  | served e =>
      cases e with
      | runs e => exact (hset (e.keeps_estop hs) ht).elim
      | clears u allowed _ _ =>
          obtain ⟨hn, hb⟩ := (clearAllowed_iff s).1 allowed
          exact ⟨hn, .inr hb⟩
  | releases n k _ _ he =>
      rw [he, releaseHoldoff_motion] at ht
      exact (hset (t := s) hs ht).elim
  | resets hc he =>
      rw [he, resetRelease_estop] at ht
      exact ⟨by simpa using ht, .inl hc⟩

theorem holdoff_released_by {c : Instr} {s t : State} (e : CommandEffect c s t) (h : s.StopsHold)
    (hs : s.pins.holdoff = true) (ht : t.pins.holdoff = false) : s.pins.level.holdoff = false := by
  have hset {t : State} (h : t.pins.holdoff = true) (ht : t.pins.holdoff = false) : False :=
    Bool.false_ne_true (ht.symm.trans h)
  cases e with
  | served e =>
      cases e with
      | runs e => exact (hset (e.keeps_holdoff hs) ht).elim
      | clears u _ e he => exact (hset (t := t) (he ▸ e.keeps_holdoff hs) ht).elim
  | releases n k _ low _ => exact h.2.1 (by rw [low]; rfl)
  | resets _ he =>
      rw [he, resetRelease_pins] at ht
      exact ht

/-- Settles O15. -/
theorem stopsOutliveTheirPins : Obligations.StopsOutliveTheirPins :=
  ⟨fun _ _ _ hc hs ht => latch_cleared_by (exec_effect hc) hs ht,
    fun _ _ _ h hc hs ht => holdoff_released_by (exec_effect hc) h hs ht⟩

end Sys2Proof.Machine

namespace Sys2Proof.Machine

/-! ### Law 10: counters and queues -/

theorem appendNotice_counters {n : Notice} {s : State} (h : s.CountersBounded) : (appendNotice n s).CountersBounded := by
  obtain ⟨hgood, hbad, hnotices, hfifo, hrest⟩ := h
  have hl := (ListChange.appendNotice n s).link
  exact ⟨(congrArg Link.good hl).trans_le hgood, (congrArg Link.bad hl).trans_le hbad, appendNotice_length n s hnotices,
    (congrArg (fun l : Link => l.fifo.length) hl).trans_le hfifo, hrest⟩

/-- A change of a channel that keeps its count within Law 10. -/
theorem onChannel_counters {s : State} (c : Channel) {f : SenseChannel → SenseChannel}
    (hf : (s.sense.get c).disagree ≤ 2 → (f (s.sense.get c)).disagree ≤ 2) (h : s.CountersBounded) :
    (s.onChannel c f).CountersBounded := by
  obtain ⟨hgood, hbad, hnotices, hfifo, hlow, hhigh, harrivals, hblink, htest, hcount⟩ := h
  refine ⟨hgood, hbad, hnotices, hfifo, hlow, hhigh, harrivals, hblink, htest, fun a ha => ?_⟩
  change ((s.sense.set c (f (s.sense.get c))).get (.axis a)).disagree ≤ 2
  by_cases hc : Channel.axis a = c
  · subst hc
    rw [PerChannel.get_set_self]
    exact hf (hcount a ha)
  · rw [PerChannel.get_set_of_ne _ _ _ _ hc]
    exact hcount a ha

theorem GrantEffect.counters {s t : State} (e : GrantEffect s t) (h : s.CountersBounded) : t.CountersBounded := by
  cases e with
  | channel _ a f hf => exact onChannel_counters (.axis a) (fun h => (hf _).1.trans_le h) h
  | notice n => exact appendNotice_counters h
  | _ => exact h

theorem ListEffect.counters {s t : State} (e : ListEffect s t) (h : s.CountersBounded) : t.CountersBounded := by
  cases e with
  | grant e => exact e.counters h
  | rewrite => exact h

theorem ListWork.counters {s t : State} (w : ListWork s t) (h : s.CountersBounded) : t.CountersBounded := by
  obtain ⟨he, -⟩ := w
  induction he with
  | refl => exact h
  | tail _ e ih => exact e.counters ih

theorem assertHoldoff_counters {s : State} (h : s.CountersBounded) : (assertHoldoff s).CountersBounded := by
  have hf : (holdoffForced s).CountersBounded = s.CountersBounded :=
    holdoffForced_keeps State.CountersBounded (fun _ _ => rfl) (fun _ _ => rfl) s
  exact (ListWork.emptyList .holdoff _).counters (hf ▸ h)

theorem estopCause_counters {c : EstopCause} {s : State} (h : s.CountersBounded) : (estopCause c s).CountersBounded := by
  rw [estopCause_eq]
  split
  · exact h
  · refine (ListWork.emptyList .estop _).counters (appendNotice_counters ?_)
    rw [foldl_keeps State.CountersBounded (f := forceImmediate) fun _ _ => rfl]
    exact h

/-- R13, R14: the count that a sample leaves is at most 2 where the one it found is. -/
theorem axisSample_count {s : State} {a : Axis} (t : Trigger) (primary : Int) (alternate : Option Int)
    (h : (s.sense.get (.axis a)).disagree ≤ 2) : (axisSample s a t primary alternate).count ≤ 2 := by
  unfold axisSample
  dsimp only
  split
  · exact h
  · split
    · dsimp only
      split
      · split
        · exact Nat.zero_le _
        · omega
      · exact Nat.zero_le _
    · exact h

theorem takeSample_counters {a : Axis} {sm : Sample} {s : State}
    (hc : (s.sense.get (.axis a)).disagree ≤ 2 → sm.count ≤ 2) (h : s.CountersBounded) :
    (takeSample a sm s).CountersBounded := onChannel_counters (.axis a) hc h

theorem leaveLoading_counters {s : State} (h : s.CountersBounded) : (leaveLoading s).CountersBounded := by
  obtain ⟨hgood, hbad, hnotices, hfifo, hlow, hhigh, harrivals, hblink, htest, hcount⟩ := h
  have hc (m : Image) : ∀ a ∈ axes, ((startConversions (handOut m s)).sense.axis.get a).disagree ≤ 2 := by
    intro a ha
    change SenseChannel.disagree ((PerChannel.ofFn _).get (Channel.axis a)) ≤ 2
    rw [PerChannel.get_ofFn]
    exact hcount a ha
  rcases leaveLoading_cases s with he | ⟨m, -, -, he⟩
  · rw [he]
    exact ⟨hgood, hbad, hnotices, hfifo, hlow, hhigh, harrivals, hblink, htest, hcount⟩
  · rw [he]
    rcases startLampTest_cases (startCrew (startConversions (handOut m s))) with he | he
    · rw [he]
      exact ⟨hgood, hbad, hnotices, hfifo, hlow, hhigh, harrivals, hblink, Nat.zero_le _, hc m⟩
    · rw [he]
      exact ⟨hgood, hbad, hnotices, hfifo, hlow, hhigh, harrivals, hblink, htest, hc m⟩

theorem adoptImage_counters {m : Image} {s : State} (h : s.CountersBounded) : (adoptImage m s).CountersBounded := by
  obtain ⟨hgood, hbad, hnotices, hfifo, hlow, hhigh, harrivals, hblink, htest, -⟩ := h
  refine ⟨hgood, hbad, hnotices, hfifo, hlow, hhigh, harrivals, hblink, htest, fun a _ => ?_⟩
  change SenseChannel.disagree ((PerChannel.ofFn _).get (Channel.axis a)) ≤ 2
  rw [PerChannel.get_ofFn]
  exact Nat.zero_le _

theorem Effect.counters {s t : State} (e : Effect s t) (h : s.CountersBounded) : t.CountersBounded := by
  have ⟨hgood, hbad, hnotices, hfifo, hlow, hhigh, harrivals, hblink, htest, hcount⟩ := h
  cases e with
  | list w => exact w.counters h
  | holdoffRises =>
      unfold holdoffHigh
      dsimp only
      split
      · exact h
      · exact assertHoldoff_counters h
  | estop c => exact estopCause_counters h
  | beacon _ f hf =>
      obtain ⟨kblink, ktest⟩ := hf ⟨hblink, htest⟩
      exact ⟨hgood, hbad, hnotices, hfifo, hlow, hhigh, harrivals, kblink, ktest, hcount⟩
  | link _ f hf =>
      obtain ⟨kgood, kbad, knotices, kfifo⟩ := hf ⟨hgood, hbad, hnotices, hfifo⟩
      exact ⟨kgood, kbad, knotices, kfifo, hlow, hhigh, harrivals, hblink, htest, hcount⟩
  | sample _ a t primary alternate _ => exact takeSample_counters (axisSample_count t primary alternate) h
  | channel _ c f count _ => exact onChannel_counters c count h
  | accept _ r =>
      have ha : (s.motion.arrivals + 1) % 65536 ≤ 65535 := Nat.le_of_lt_succ (Nat.mod_lt _ (by decide))
      exact ⟨hgood, hbad, hnotices, hfifo, hlow, hhigh, ha, hblink, htest, hcount⟩
  | tag _ n hn =>
      have hr : 200 ≤ (if 255 ≤ n then 200 else n + 1) ∧ (if 255 ≤ n then 200 else n + 1) ≤ 255 := by
        split <;> omega
      exact ⟨hgood, hbad, hnotices, hfifo, hr.1, hr.2, harrivals, hblink, htest, hcount⟩
  | supply _ f hf =>
      refine ⟨hgood, hbad, hnotices, hfifo, ?_, ?_, ?_, hblink, htest, hcount⟩
      all_goals
        rw [State.onMotion_motion, hf]
        assumption
  | leave => exact leaveLoading_counters h
  | adopt m => exact adoptImage_counters h
  | _ => exact h

theorem Effects.counters {s t : State} (e : Effects s t) (h : s.CountersBounded) : t.CountersBounded := by
  induction e with
  | refl => exact h
  | tail _ e ih => exact e.counters ih

theorem released_counters (level : PinLevels) (pending : List Instr) :
    (State.released level pending).CountersBounded := by
  change State.reset.CountersBounded
  exact ⟨by decide, by decide, by decide, by decide, by decide, by decide, by decide, by decide, trivial, by decide⟩

/-- What holds of the released block, and is kept as HOLDOFF is asserted and by an emergency stop, holds after a
reset. -/
theorem resetRelease_holds {p : State → Prop} (s : State) (h : p (State.released s.pins.level s.pending))
    (ha : ∀ u, p u → p (assertHoldoff u)) (he : ∀ u, p u → p (estopCause .pin u)) : p (resetRelease s) := by
  have hheld : p (releasedHeld s) := by
    unfold releasedHeld
    split
    · exact ha _ h
    · exact h
  rw [resetRelease_eq]
  split
  · exact hheld
  · exact he _ hheld

theorem CommandEffect.counters {c : Instr} {s t : State} (e : CommandEffect c s t) (h : s.CountersBounded) :
    t.CountersBounded := by
  cases e with
  | served e =>
      cases e with
      | runs e => exact e.counters h
      | clears u _ e ht => exact ht ▸ appendNotice_counters (e.counters h)
  | releases n k _ _ ht =>
      have hk : (releaseHoldoff (s.upTo k)).CountersBounded = s.CountersBounded :=
        releaseHoldoff_keeps State.CountersBounded (fun _ _ => rfl) (fun _ _ => rfl) (s.upTo k)
      rw [ht, hk]
      exact h
  | resets _ ht =>
      exact ht ▸ resetRelease_holds s (released_counters _ _) (fun _ => assertHoldoff_counters)
        fun _ => estopCause_counters

/-- Settles O7. -/
theorem stepKeepsTheCountersBounded : Obligations.StepKeepsTheCountersBounded := by
  intro s t h hs
  rcases step_cases hs with ⟨-, rfl⟩ | ⟨c, rest, -, hc⟩
  · exact h
  · exact (exec_effect hc).counters (s := { s with pending := rest }) h

/-! ### Law 12: positions -/

/-- R17: every position lies within travel and its margin. -/
abbrev State.PositionsFit (s : State) : Prop :=
  ∀ a ∈ axes, ∀ x ∈ s.position a, (s.limits a).low - 20 ≤ x ∧ x ≤ (s.limits a).high + 20

/-- Law 12 as every step keeps it: nothing has a position through LOADING, and under a profile that orders travel every
position fits it. -/
abbrev State.PositionsHold (s : State) : Prop := s.LoadingQuiet ∧ (s.profile.TravelOrdered → s.PositionsFit)

theorem marginClamp_fits {s : State} {a : Axis} (h : s.profile.TravelOrdered) (x : Int) :
    (s.limits a).low - 20 ≤ marginClamp (s.limits a) x ∧ marginClamp (s.limits a) x ≤ (s.limits a).high + 20 := by
  have hl : (s.limits a).low < (s.limits a).high := h a (mem_axes a)
  have hm : Config.margin = 20 := rfl
  exact clampTo_range (by omega) x

/-- A change that keeps the mode, the list of an empty block, what converts, the profile and the positions keeps
Law 12. -/
theorem State.PositionsHold.of_eq {s t : State} (h : s.PositionsHold)
    (hmode : t.store.mode = .loading → s.store.mode = .loading)
    (hlist : s.store.mode = .loading → s.motion.records = [] → t.motion.records = [])
    (hstill : s.store.mode = .loading → ∀ a, (s.sense.axis.get a).Still → (t.sense.axis.get a).Still)
    (hp : t.profile = s.profile) (hx : ∀ a, t.position a = s.position a) : t.PositionsHold := by
  obtain ⟨hquiet, hfit⟩ := h
  refine ⟨fun hm => ?_, fun ho a ha x hxa => ?_⟩
  · obtain ⟨hr, ha⟩ := hquiet (hmode hm)
    refine ⟨hlist (hmode hm) hr, fun a haa => ?_⟩
    obtain ⟨hn, hs⟩ := ha a haa
    exact ⟨(hx a).trans hn, hstill (hmode hm) a hs⟩
  · rw [State.limits, hp]
    rw [hp] at ho
    exact hfit ho a ha x (hx a ▸ hxa)

/-- Law 12 reads these fields only. -/
theorem State.PositionsHold.of_fields {s t : State} (h : s.PositionsHold) (hstore : t.store = s.store)
    (hrecords : t.motion.records = s.motion.records) (hsense : t.sense = s.sense) (hprofile : t.profile = s.profile)
    (haxis : t.motion.axis = s.motion.axis) : t.PositionsHold := by
  refine h.of_eq (fun hm => hstore ▸ hm) (fun _ hr => hrecords.trans hr) (fun _ a hs => ?_) hprofile fun a => ?_
  · rw [hsense]
    exact hs
  · rw [State.position, haxis]
    rfl

theorem ListWork.positions {s t : State} (w : ListWork s t) (h : s.PositionsHold) : t.PositionsHold := by
  have hc := w.effects.listChange
  refine h.of_eq (fun hm => hc.store ▸ hm) (fun _ he => hc.empty he) (fun hm a hs => ?_) hc.profile hc.position
  rw [(w.idle (h.1 hm).1).2]
  exact hs

theorem assertHoldoff_positions {s : State} (h : s.PositionsHold) : (assertHoldoff s).PositionsHold := by
  refine (ListWork.emptyList .holdoff (holdoffForced s)).positions (h.of_fields ?_ ?_ ?_ ?_ ?_)
  · exact holdoffForced_keeps State.store (fun _ _ => rfl) (fun _ _ => rfl) s
  · rw [holdoffForced_motion]
  · exact holdoffForced_keeps State.sense (fun _ _ => rfl) (fun _ _ => rfl) s
  · exact holdoffForced_keeps State.profile (fun _ _ => rfl) (fun _ _ => rfl) s
  · rw [holdoffForced_motion]

theorem estopCause_positions {c : EstopCause} {s : State} (h : s.PositionsHold) : (estopCause c s).PositionsHold := by
  rw [estopCause_eq]
  split
  · exact h
  · refine (ListWork.emptyList .estop (estopForced c s)).positions (h.of_fields ?_ ?_ ?_ ?_ ?_)
    · exact estopForced_keeps State.store (fun _ _ => rfl) (fun _ _ => rfl) c s
    · rw [estopForced_motion]
    · exact estopForced_keeps State.sense (fun _ _ => rfl) (fun _ _ => rfl) c s
    · exact estopForced_keeps State.profile (fun _ _ => rfl) (fun _ _ => rfl) c s
    · rw [estopForced_motion]

theorem takeSample_position (a : Axis) (sm : Sample) (s : State) (b : Axis) :
    (takeSample a sm s).position b = if b = a then sm.value else s.position b := by
  simp only [takeSample, State.position, State.onAxis_motion, State.onChannel_motion, PerAxis.get_set]
  split <;> rfl

/-- R11, R12: the value of a sample lies within travel and its margin. -/
theorem axisSample_fits {s : State} {a : Axis} {t : Trigger} {primary : Int} {alternate : Option Int}
    (h : s.profile.TravelOrdered) {x : Int} (hx : x ∈ (axisSample s a t primary alternate).value) :
    (s.limits a).low - 20 ≤ x ∧ x ≤ (s.limits a).high + 20 := by
  unfold axisSample at hx
  dsimp only at hx
  split at hx
  · cases hx
  · split at hx
    · cases hx
      exact marginClamp_fits h _
    · cases hx
      exact marginClamp_fits h _

theorem takeSample_positions {s : State} {a : Axis} (t : Trigger) (primary : Int) (alternate : Option Int)
    (hc : (s.sense.axis.get a).conversion.isSome = true) (h : s.PositionsHold) :
    (takeSample a (axisSample s a t primary alternate) s).PositionsHold := by
  obtain ⟨hquiet, hfit⟩ := h
  refine ⟨fun hm => ?_, fun ho b hb x hx => ?_⟩
  · have hn : (s.sense.axis.get a).conversion = none := ((hquiet hm).2 a (mem_axes a)).2.1
    rw [hn] at hc
    exact absurd hc Bool.false_ne_true
  · rw [takeSample_position] at hx
    split at hx
    · next hba =>
      subst hba
      exact axisSample_fits (s := s) ho hx
    · exact hfit ho b hb x hx

theorem leaveLoading_positions {s : State} (h : s.PositionsHold) : (leaveLoading s).PositionsHold := by
  rcases leaveLoading_cases s with he | ⟨m, hm, -, he⟩
  · rw [he]
    exact h
  · obtain ⟨-, hn⟩ := h.1 hm
    have hp : (leaveLoading s).PositionsFit := by
      intro a ha x hx
      have hxs : x ∈ s.position a := by rwa [State.position, (leaveLoading_keeps s).2.1] at hx
      rw [(hn a ha).1] at hxs
      cases hxs
    refine ⟨fun hmode => ?_, fun _ => hp⟩
    rw [he] at hmode
    rcases startLampTest_cases (startCrew (startConversions (handOut m s))) with hs | hs
    · rw [hs] at hmode
      cases hmode
    · rw [hs] at hmode
      cases hmode

theorem adoptImage_position (m : Image) (s : State) (a : Axis) :
    (adoptImage m s).position a = (s.position a).map (marginClamp ((adoptImage m s).limits a)) := by
  change AxisRecord.position ((PerAxis.ofFn _).get a) = _
  rw [PerAxis.get_ofFn]
  rfl

theorem adoptImage_positions {m : Image} {s : State} (h : s.PositionsHold) : (adoptImage m s).PositionsHold := by
  refine ⟨fun hm => ?_, fun ho a _ x hx => ?_⟩
  · obtain ⟨hr, hn⟩ := h.1 hm
    refine ⟨hr, fun a ha => ?_⟩
    obtain ⟨hx, hs⟩ := hn a ha
    refine ⟨by rw [adoptImage_position, hx]; rfl, ?_⟩
    change SenseChannel.Still ((PerChannel.ofFn _).get (Channel.axis a))
    rw [PerChannel.get_ofFn]
    exact hs
  · rw [adoptImage_position] at hx
    obtain ⟨y, -, rfl⟩ := Option.mem_map.1 hx
    exact marginClamp_fits ho y

theorem Effect.positions {s t : State} (e : Effect s t) (h : s.PositionsHold) : t.PositionsHold := by
  cases e with
  | list w => exact w.positions h
  | holdoffRises =>
      unfold holdoffHigh
      dsimp only
      split
      · exact h
      · exact assertHoldoff_positions h
  | estop c => exact estopCause_positions h
  | store _ f hf => exact h.of_eq hf (fun _ h => h) (fun _ _ h => h) rfl fun _ => rfl
  | fault _ a f =>
      refine h.of_eq id (fun _ h => h) (fun _ _ h => h) rfl fun b => ?_
      simp only [State.position, State.onAxis_motion, PerAxis.get_set]
      split
      · next hb => rw [hb]
      · rfl
  | sample _ a t primary alternate hc => exact takeSample_positions t primary alternate hc h
  | channel _ c f _ still =>
      refine h.of_eq id (fun _ h => h) (fun _ a hs => ?_) rfl fun _ => rfl
      change ((s.sense.set c (f (s.sense.get c))).get (.axis a)).Still
      by_cases hc : Channel.axis a = c
      · subst hc
        rw [PerChannel.get_set_self]
        exact still hs
      · rw [PerChannel.get_set_of_ne _ _ _ _ hc]
        exact hs
  | accept _ r mode =>
      refine h.of_eq id (fun hm => ?_) (fun _ _ h => h) rfl fun _ => rfl
      rw [mode] at hm
      cases hm
  | supply _ f hf =>
      refine h.of_eq id (fun _ hr => ?_) (fun _ _ h => h) rfl fun _ => ?_
      · rw [State.onMotion_motion, hf]
        exact hr
      · rw [State.position, State.onMotion_motion, hf]
        rfl
  | leave => exact leaveLoading_positions h
  | adopt m => exact adoptImage_positions h
  | _ => exact h

theorem Effects.positions {s t : State} (e : Effects s t) (h : s.PositionsHold) : t.PositionsHold := by
  induction e with
  | refl => exact h
  | tail _ e ih => exact e.positions ih

theorem released_positions (level : PinLevels) (pending : List Instr) :
    (State.released level pending).PositionsHold := by
  have hq : State.reset.LoadingQuiet := by decide
  refine And.intro hq fun _ a ha x hx => ?_
  have hn : (State.released level pending).position a = none := (hq rfl).2 a ha |>.1
  rw [hn] at hx
  cases hx

theorem CommandEffect.positions {c : Instr} {s t : State} (e : CommandEffect c s t) (h : s.PositionsHold) :
    t.PositionsHold := by
  cases e with
  | served e =>
      cases e with
      | runs e => exact e.positions h
      | clears u _ e ht =>
          have hu : u.PositionsHold := e.positions h
          exact ht ▸ hu
  | releases n k _ _ ht =>
      have hm : (releaseHoldoff (s.upTo k)).motion = s.motion := releaseHoldoff_motion (s.upTo k)
      rw [ht]
      exact h.of_fields (releaseHoldoff_keeps State.store (fun _ _ => rfl) (fun _ _ => rfl) (s.upTo k)) (by rw [hm])
        (releaseHoldoff_keeps State.sense (fun _ _ => rfl) (fun _ _ => rfl) (s.upTo k))
        (releaseHoldoff_keeps State.profile (fun _ _ => rfl) (fun _ _ => rfl) (s.upTo k)) (by rw [hm])
  | resets _ ht =>
      exact ht ▸ resetRelease_holds s (released_positions _ _) (fun _ => assertHoldoff_positions)
        fun _ => estopCause_positions

/-- Settles O12. -/
theorem stepKeepsPositionsWithinTravel : Obligations.StepKeepsPositionsWithinTravel := by
  intro s t ⟨hquiet, hfit⟩ hs ho
  have ht : t.PositionsHold := by
    rcases step_cases hs with ⟨-, rfl⟩ | ⟨c, rest, -, hc⟩
    · exact ⟨hquiet, fun _ => hfit⟩
    · exact (exec_effect hc).positions (s := { s with pending := rest }) ⟨hquiet, fun _ => hfit⟩
  exact ⟨ht.1, ht.2 ho⟩

end Sys2Proof.Machine

namespace Sys2Proof.Machine

/-! ### Stops of everything (R58, R117, R126) -/

/-- R82: a stop of every record, and the attempts it owes, leave no record that is not STOPPING. -/
theorem settle_stopEvery_stopping {res : Result} {s : State} (h : res ≠ .limited) (hn : s.tags.Nodup) :
    ∀ r ∈ (settle (stopEvery res s)).motion.records, r.state = .stopping := by
  have hstop : ∀ r ∈ (stopEvery res s).motion.records, r.state = .stopping := stopEvery_stopping h hn
  have hw : (stopEvery res s).NoneWaits := fun r hr => by
    rw [hstop r hr]
    decide
  rw [settle_of_noneWaits hw]
  exact hstop

theorem stopAll_listChange (res : Result) (s : State) : ListChange s (settle (stopEvery res s)) :=
  (ListChange.stopEvery res s).trans (.settle _)

/-- A notice that finds room stands next in the queue, before what the list gives after it. -/
theorem ListChange.notice_next {n : Notice} {s t : State} (h : ListChange (Machine.appendNotice n s) t)
    (hq : s.link.notices.length < 16) : (s.link.notices ++ [n]) <+: t.link.notices := by
  have hn := h.notices
  rwa [appendNotice_notices, if_pos hq] at hn

/-- R58: what the change to vehicle-moving leaves. -/
theorem vehicleStarts_spec {s : State} (hn : s.tags.Nodup) :
    (∀ r ∈ (vehicleStarts s).motion.records, r.state = .stopping) ∧ (vehicleStarts s).pins = s.pins
      ∧ (s.link.notices.length < 16 → (s.link.notices ++ [.vehicleMoving]) <+: (vehicleStarts s).link.notices)
      ∧ (vehicleStarts s).store = s.store ∧ (vehicleStarts s).motion.axis = s.motion.axis
      ∧ (vehicleStarts s).clock = s.clock := by
  have hc : ListChange (appendNotice .vehicleMoving s) (vehicleStarts s) := stopAll_listChange .vehicle _
  exact ⟨settle_stopEvery_stopping (by decide) hn, hc.pins, hc.notice_next, hc.store, hc.axis, hc.clock⟩

/-- R19: an edge that holds the condition true already is only remembered. -/
theorem holdMoving_moving {s : State} (h : s.vehicleMoving = true) :
    holdMoving s = s.onPins (fun p => { p with movingEdge := some s.clock }) := if_pos h

theorem holdMoving_starts {s : State} (h : s.vehicleMoving = false) :
    holdMoving s = vehicleStarts (s.onPins (fun p => { p with movingEdge := some s.clock })) :=
  if_neg (Bool.eq_false_iff.1 h)

theorem execVehicleMoving_starts {s : State} (h : s.vehicleMoving = false) :
    exec .vehicleMoving s = .next (holdMoving s) := by
  change (if s.vehicleMoving then _ else _) = _
  rw [if_neg (Bool.eq_false_iff.1 h)]

/-- R126: a low run that has lasted its time cuts the supply at its end. -/
theorem exec_supplyCut {s : State} (hs : s.motion.supply = .normal) :
    ∃ u, exec .supplyCut s = .next (cutSupply u) ∧ u.motion = s.motion ∧ u.sense = s.sense ∧ u.link = s.link
      ∧ u.store = s.store := by
  change ∃ u, execSupplyCut s = _ ∧ _
  unfold execSupplyCut
  rw [hs]
  cases s.motion.lowRun with
  | none => exact ⟨s, rfl, rfl, rfl, rfl, rfl⟩
  | some t => exact ⟨s.upTo (t + Config.lowRunLimit), rfl, rfl, rfl, rfl, rfl⟩

/-- Settles O25. -/
theorem everyRecordIsStopped : Obligations.EveryRecordIsStopped := by
  intro s hn
  refine ⟨fun hv => ⟨_, execVehicleMoving_starts hv, ?_⟩, fun hs => ?_, fun tag ⟨hr, hf⟩ => ?_⟩
  · rw [holdMoving_starts hv]
    obtain ⟨hstop, hpins, hnotice, hstore, haxis, -⟩ :=
      vehicleStarts_spec (s := s.onPins (fun p => { p with movingEdge := some s.clock })) hn
    exact ⟨hstop, hpins, hnotice, hstore, haxis⟩
  · have hcut (u : State) (hu : u.motion = s.motion) (hv : u.volts = s.volts) (hl : u.link = s.link)
        (hst : u.store = s.store) : (∀ r ∈ (cutSupply u).motion.records, r.state = .stopping)
          ∧ (cutSupply u).motion.supply = .cut ∧ (cutSupply u).motion.lowRun = none
          ∧ (cutSupply u).motion.recoveryRun = none
          ∧ (s.link.notices.length < 16 → (s.link.notices ++ [.supply .cut s.volts]) <+: (cutSupply u).link.notices)
          ∧ (cutSupply u).store = s.store ∧ (cutSupply u).motion.axis = s.motion.axis := by
      have hc := cutSupply_listChange u
      refine ⟨cutSupply_stopping (by rw [State.tags, hu]; exact hn), hc.supply, hc.lowRun, hc.recoveryRun, ?_,
        hc.store.trans hst, hc.axis.trans (by rw [← hu]; rfl)⟩
      rw [← hl, ← hv]
      exact hc.notice_next
    obtain ⟨u, he, hm, hsense, hl, hst⟩ := exec_supplyCut hs
    exact ⟨_, he, hcut u hm (congrArg (fun x => x.battery.value) hsense) hl hst⟩
  · have he : exec (.stopAll tag) s = .next (doStopAll tag (countGood s)) := by
      change Host.Outcome.next (goodFrame (doStopAll tag) s) = _
      rw [goodFrame_heard _ hr hf]
    have hc := stopAll_listChange .stopped (answer 0x09 tag .ok (countGood s))
    refine ⟨_, he, settle_stopEvery_stopping (by decide) hn, ?_, hc.estop, hc.store, hc.axis⟩
    exact congrArg Link.fifo hc.link

/-! ### Triggers (R5 to R8, R144) -/

theorem beginConversion_free {c : Channel} {s : State} (t : Trigger) (h : (s.sense.get c).conversion = none) :
    (beginConversion c t s).sense.get c =
      { s.sense.get c with
        conversion := some { trigger := t, began := s.clock, mode := channelMode s c, primary := none } } := by
  rw [beginConversion, State.onChannel_sense, PerChannel.get_set_self]
  simp only [h]

theorem beginConversion_busy {c : Channel} {s : State} {cv : Conversion} (t : Trigger)
    (h : (s.sense.get c).conversion = some cv) : (beginConversion c t s).sense.get c = s.sense.get c := by
  rw [beginConversion, State.onChannel_sense, PerChannel.get_set_self]
  simp only [h]

theorem onChannel_sense_of_ne {c c' : Channel} (s : State) (f : SenseChannel → SenseChannel) (h : c' ≠ c) :
    (s.onChannel c f).sense.get c' = s.sense.get c' := by
  rw [State.onChannel_sense, PerChannel.get_set_of_ne _ _ _ _ h]

/-- R6: the state in which a free-running timer that began at t has reloaded. -/
def reloaded (c : Channel) (t : Nat) (s : State) : State :=
  (s.upTo (t + Config.conversionPeriod)).onChannel c
    (fun ch => { ch with timer := some (s.upTo (t + Config.conversionPeriod)).clock })

theorem reloaded_get (c : Channel) (t : Nat) (s : State) :
    (reloaded c t s).sense.get c = { s.sense.get c with timer := some (reloaded c t s).clock } := by
  rw [reloaded, State.onChannel_sense, PerChannel.get_set_self]
  rfl

theorem reloaded_get_of_ne {c c' : Channel} (t : Nat) (s : State) (h : c' ≠ c) :
    (reloaded c t s).sense.get c' = s.sense.get c' := onChannel_sense_of_ne _ _ h

theorem exec_freeRunTimerExpiry {s : State} {c : Channel} {t : Nat} (h : (s.sense.get c).timer = some t) :
    exec (.freeRunTimerExpiry c) s = .next (beginConversion c .freeRunning (reloaded c t s)) := by
  change execFreeRunTimerExpiry c s = _
  rw [execFreeRunTimerExpiry, h]
  rfl

/-- R144: the state that a control-interval event of an axis finds at its time. -/
def controlled (a : Axis) (s : State) : State :=
  (s.upTo (nextControl a (s.drive.control.get a) s.clock)).onDrive (fun d =>
    { d with control := d.control.set a (some (nextControl a (s.drive.control.get a) s.clock)) })

theorem controlled_control (a : Axis) (s : State) :
    (controlled a s).drive.control.get a = some (nextControl a (s.drive.control.get a) s.clock) := by
  rw [controlled, State.onDrive_drive, PerAxis.get_set_self]

theorem exec_controlIntervalEvent (a : Axis) (s : State) :
    exec (.controlIntervalEvent a) s = .next (triggerSynchronised a (controlled a s)) := rfl

theorem triggerSynchronised_free {a : Axis} {s : State} (hs : (s.sense.get (.axis a)).sync = true)
    (hc : (s.sense.get (.axis a)).conversion = none) :
    triggerSynchronised a s =
      (beginConversion (.axis a) (if (s.sense.get (.axis a)).snapshotDue then .snapshot else .synchronised) s).onChannel
        (.axis a) (fun ch => { ch with snapshotDue := false }) := by
  unfold triggerSynchronised
  exact if_pos ⟨hs, by rw [hc]; rfl⟩

theorem triggerSynchronised_rests {a : Axis} {s : State}
    (h : (s.sense.get (.axis a)).sync = false ∨ (s.sense.get (.axis a)).conversion.isSome = true) :
    triggerSynchronised a s = s := by
  unfold triggerSynchronised
  refine if_neg fun ⟨hs, hc⟩ => ?_
  rcases h with h | h
  · exact Bool.false_ne_true (h.symm.trans hs)
  · rw [Option.isNone_iff_eq_none.1 hc] at h
    exact Bool.false_ne_true h

/-- R144: the events of an axis lie at its offset from the multiples of 10 ms, each the first after the last one that
is not before the clock. -/
theorem nextControl_first (a : Axis) (last : Option Nat) (now : Nat) :
    nextControl a last now % 10000 = (if isHydraulic a then 2500 else 25)
      ∧ now ≤ nextControl a last now ∧ (∀ p ∈ last, p < nextControl a last now)
      ∧ ∀ u, u % 10000 = (if isHydraulic a then 2500 else 25) → now ≤ u → (∀ p ∈ last, p < u) →
        nextControl a last now ≤ u := by
  have hoff : controlOffset a = if isHydraulic a then 2500 else 25 := rfl
  have hperiod : Config.conversionPeriod = 10000 := rfl
  unfold nextControl
  rw [hoff, hperiod]
  cases last with
  | none =>
      simp only [Option.mem_def, reduceCtorEq, false_implies, implies_true, true_and, true_implies]
      split
      · refine ⟨by omega, by omega, fun u hu hn => by omega⟩
      · refine ⟨by omega, by omega, fun u hu hn => by omega⟩
  | some p =>
      simp only [Option.mem_def, Option.some.injEq, forall_eq']
      split
      · refine ⟨by omega, by omega, by omega, fun u hu hn hp => by omega⟩
      · refine ⟨by omega, by omega, by omega, fun u hu hn hp => by omega⟩

theorem dualTrack_isSome_of {s : State} {c : Channel} (h : c = .axis .lift ∨ c = .axis .tilt) :
    ∃ d, dualTrack s.profile.calibration c = some d := by
  rcases h with rfl | rfl
  · exact ⟨_, rfl⟩
  · exact ⟨_, rfl⟩

/-- R12: the primary code of a dual-track channel waits for the alternate. -/
theorem exec_dualTrackPrimaryComplete {s : State} {c : Channel} {cv : Conversion} (code : RawCode)
    (hd : c = .axis .lift ∨ c = .axis .tilt) (hc : (s.sense.get c).conversion = some cv) (hp : cv.primary = none) :
    exec (.dualTrackPrimaryComplete c code) s =
      .next ((s.upTo (cv.began + Config.conversionTime)).onChannel c (fun ch =>
        { ch with
          conversion := some { cv with mode := channelMode s c, primary := some (codeValue cv.mode code) } })) := by
  obtain ⟨d, hd⟩ := dualTrack_isSome_of hd
  change execDualTrackPrimaryComplete c code s = _
  rw [execDualTrackPrimaryComplete, hd, hc]
  simp only [hp]

/-- Settles O26. -/
theorem triggersBeginConversions : Obligations.TriggersBeginConversions := by
  refine ⟨fun s c t ht hc => ?_, fun s c t cv ht hc => ?_, fun s a hs hc => ?_, fun s a h => ?_,
    fun s c code cv hd hc hp => ?_, nextControl_first⟩
  · refine ⟨_, exec_freeRunTimerExpiry ht, rfl, ?_, fun c' hc' => ?_, rfl, rfl, rfl⟩
    · rw [beginConversion_free _ (by rw [reloaded_get]; exact hc), reloaded_get]
      rfl
    · exact (onChannel_sense_of_ne _ _ hc').trans (reloaded_get_of_ne t s hc')
  · refine ⟨_, exec_freeRunTimerExpiry ht, rfl, ?_, fun c' hc' => ?_, rfl, rfl, rfl⟩
    · rw [beginConversion_busy (cv := cv) _ (by rw [reloaded_get]; exact hc), reloaded_get]
      rfl
    · exact (onChannel_sense_of_ne _ _ hc').trans (reloaded_get_of_ne t s hc')
  · have he := triggerSynchronised_free (a := a) (s := controlled a s) hs hc
    refine ⟨_, exec_controlIntervalEvent a s, ?_⟩
    rw [he]
    refine ⟨controlled_control a s, ?_, rfl, rfl, rfl⟩
    rw [State.onChannel_sense, PerChannel.get_set_self, beginConversion_free (s := controlled a s) _ hc]
    rfl
  · refine ⟨_, exec_controlIntervalEvent a s, ?_⟩
    rw [triggerSynchronised_rests (s := controlled a s) h]
    exact ⟨rfl, rfl, controlled_control a s⟩
  · refine ⟨_, exec_dualTrackPrimaryComplete code hd hc hp, rfl, ?_, rfl⟩
    rw [State.onChannel_sense, PerChannel.get_set_self]
    rfl

/-! ### Loading (R193, R195) -/

/-- R195: while the strap sample or the load is to come, LOADING goes on. -/
theorem leaveLoading_waits {s : State} (h : s.store.loadEnded = false ∨ s.pins.strapTaken = false) :
    leaveLoading s = s := by
  unfold leaveLoading
  split
  · next hl hs _ =>
    rcases h with h | h
    · exact absurd (h.symm.trans hl) Bool.false_ne_true
    · exact absurd (h.symm.trans hs) Bool.false_ne_true
  · rfl

/-- R195: with both, LOADING is left with the image in force. -/
theorem leaveLoading_leaves {s : State} {m : Image} (hmode : s.store.mode = .loading) (hl : s.store.loadEnded = true)
    (hs : s.pins.strapTaken = true) (hm : s.store.inForce = some m) :
    leaveLoading s = startLampTest (startCrew (startConversions (handOut m s))) := by
  unfold leaveLoading
  rw [hmode, hl, hs, hm]

theorem startLampTest_leftLoading (m : Image) (s : State) (hm : s.store.inForce = some m) :
    LeftLoading m s (startLampTest (startCrew (startConversions (handOut m s)))) := by
  have hconv (c : Channel) : (startConversions (handOut m s)).sense.get c = { s.sense.get c with
      timer := some s.clock
      conversion := some
        { trigger := .freeRunning, began := s.clock, mode := (m.profile.calibration.channel.get c).mode
          primary := none } } := PerChannel.get_ofFn _ c
  unfold startLampTest
  have hp : (startCrew (startConversions (handOut m s))).profile = m.profile := rfl
  rw [hp]
  split
  · next ht =>
    refine ⟨rfl, hm, rfl, (if_pos ht).symm, (if_pos ht).symm, fun c => ?_, rfl, rfl, rfl, rfl, rfl, rfl⟩
    exact ⟨congrArg SenseChannel.timer (hconv c), congrArg SenseChannel.conversion (hconv c)⟩
  · next ht =>
    refine ⟨rfl, hm, rfl, (if_neg ht).symm, (if_neg ht).symm, fun c => ?_, rfl, rfl, rfl, rfl, rfl, rfl⟩
    exact ⟨congrArg SenseChannel.timer (hconv c), congrArg SenseChannel.conversion (hconv c)⟩

/-- R193: an end of the load before the strap sample only puts the image in force. -/
theorem endLoad_waits {s : State} (m : Image) (source : Source) (h : s.pins.strapTaken = false) :
    endLoad m source s = s.onStore (fun st => { st with loadEnded := true, inForce := some m, source := source }) :=
  leaveLoading_waits (.inr h)

/-- R195: an end of the load after it leaves LOADING. -/
theorem endLoad_leaves {s : State} (m : Image) (source : Source) (hmode : s.store.mode = .loading)
    (h : s.pins.strapTaken = true) : LeftLoading m s (endLoad m source s) ∧ (endLoad m source s).store.source = source := by
  have he := leaveLoading_leaves (s := s.onStore (fun st =>
    { st with loadEnded := true, inForce := some m, source := source })) (m := m) hmode rfl h rfl
  rw [endLoad, he]
  refine ⟨startLampTest_leftLoading m _ rfl, ?_⟩
  unfold startLampTest
  split <;> rfl

theorem State.loadRuns_of {s : State} (hmode : s.store.mode = .loading) (hl : s.store.loadEnded = false) :
    s.loadRuns = true := by
  rw [State.loadRuns, hmode, hl]
  rfl

theorem exec_profileLoadEnd {s : State} (bytes : List Byte) (h : s.loadRuns = true) :
    exec (.profileLoadEnd bytes) s = .next (judgeLoad bytes s) := by
  change (if s.loadRuns then _ else _) = _
  rw [if_pos h]

theorem exec_loadReadTimeout {s : State} (h : s.loadRuns = true) :
    exec .loadReadTimeout s = .next (endLoad limpImage .limp (s.upTo 50000)) := by
  change (if s.loadRuns then _ else _) = _
  rw [if_pos h]
  rfl

theorem exec_strapSample {s : State} (h : s.pins.strapTaken = false) :
    exec .strapSample s = .next (takeStrap (s.upTo 20000)) := by
  change (if s.pins.strapTaken then _ else _) = _
  rw [if_neg (Bool.eq_false_iff.1 h)]
  rfl

theorem judgeLoad_passes {s : State} {bytes : List Byte} {m : Image} (hc : s.clock ≤ 50000)
    (hm : judgeImage (imageOf bytes) = some m) : judgeLoad bytes s = endLoad m .flash s := by
  rw [judgeLoad, if_neg (c := Config.loadReadLimit < s.clock) (Nat.not_lt.2 hc), hm]

theorem judgeLoad_limp {s : State} {bytes : List Byte} (h : 50000 < s.clock ∨ judgeImage (imageOf bytes) = none) :
    judgeLoad bytes s = endLoad limpImage .limp s := by
  rw [judgeLoad]
  split
  · rfl
  · next hc => rw [h.resolve_left hc]; rfl

/-- Settles O20. -/
theorem loadingEndsWithBoth : Obligations.LoadingEndsWithBoth := by
  refine ⟨fun s bytes hmode hl hs => ?_, fun s m hmode hl hm hs => ?_, fun s hmode hl hs => ?_⟩
  · have hr := State.loadRuns_of hmode hl
    refine ⟨fun m hc hm => ?_, fun h => ?_, ?_, ?_⟩
    · rw [exec_profileLoadEnd bytes hr, judgeLoad_passes hc hm, endLoad_waits _ _ hs]
      rfl
    · rw [exec_profileLoadEnd bytes hr, judgeLoad_limp h, endLoad_waits _ _ hs]
      rfl
    · rw [exec_loadReadTimeout hr, endLoad_waits _ _ (s := s.upTo 50000) hs]
      rfl
    · rw [exec_strapSample hs, takeStrap]
      exact congrArg Host.Outcome.next (leaveLoading_waits (.inl hl))
  · let u := ((s.upTo 20000).onStore (fun st =>
      { st with service := s.pins.level.strap && !s.pins.strapChanged })).onPins (fun p => { p with strapTaken := true })
    have he : takeStrap (s.upTo 20000) = startLampTest (startCrew (startConversions (handOut m u))) :=
      leaveLoading_leaves (s := u) hmode hl rfl hm
    refine ⟨_, exec_strapSample hs, ?_⟩
    rw [he]
    refine ⟨startLampTest_leftLoading m u hm, ?_, ?_⟩
    · unfold startLampTest
      split <;> rfl
    · unfold startLampTest
      split <;> rfl
  · have hr := State.loadRuns_of hmode hl
    refine ⟨⟨_, exec_loadReadTimeout hr, endLoad_leaves (s := s.upTo 50000) _ _ hmode hs⟩, fun bytes h => ?_,
      fun bytes m hc hm => ?_⟩
    · refine ⟨_, exec_profileLoadEnd bytes hr, ?_⟩
      rw [judgeLoad_limp h]
      exact endLoad_leaves _ _ hmode hs
    · refine ⟨_, exec_profileLoadEnd bytes hr, ?_⟩
      rw [judgeLoad_passes hc hm]
      exact endLoad_leaves _ _ hmode hs

end Sys2Proof.Machine

namespace Sys2Proof.Machine

/-! ### HOLDOFF asserted (R20, R122) -/

/-- The notices of t are those of s and RECORD_ENDs with this result. -/
abbrev EndsNoticed (res : Result) (s t : State) : Prop :=
  ∀ n ∈ t.link.notices, n ∈ s.link.notices ∨
    ∃ tag kind subject claimed positions, n = .recordEnd tag kind subject res claimed positions

theorem EndsNoticed.trans {res : Result} {s t u : State} (h : EndsNoticed res s t) (k : EndsNoticed res t u) :
    EndsNoticed res s u := fun n hn => (k n hn).elim (h n) .inr

theorem EndsNoticed.of_link {res : Result} {s t : State} (h : t.link = s.link) : EndsNoticed res s t := fun _ hn =>
  .inl (h ▸ hn)

theorem immediateStop_link (r : Record) (s : State) : (immediateStop r s).link = s.link :=
  foldl_keeps State.link (f := forceImmediate) (fun _ _ => rfl) (outputsOf r.axis) s

theorem endRecord_endsNoticed (tag : Nat) (res : Result) (s : State) : EndsNoticed res s (endRecord tag res s) := by
  cases h : s.find tag with
  | none => exact .of_link (by rw [endRecord_none res h])
  | some r =>
      intro n hn
      rw [endRecord_link res h, appendNotice_notices] at hn
      split at hn
      · rcases List.mem_append.1 hn with hn | hn
        · exact .inl hn
        · exact .inr ⟨_, _, _, _, _, List.mem_singleton.1 hn⟩
      · exact .inl hn

theorem cutRecord_endsNoticed (res : Result) (s : State) (tag : Nat) : EndsNoticed res s (cutRecord res s tag) := by
  unfold cutRecord
  split
  · exact .of_link rfl
  · refine EndsNoticed.trans (.of_link ?_) (endRecord_endsNoticed tag res _)
    split
    · exact immediateStop_link _ s
    · rfl

theorem foldl_cutRecord_endsNoticed (res : Result) : ∀ (l : List Nat) (s : State),
    EndsNoticed res s (l.foldl (cutRecord res) s)
  | [], _ => .of_link rfl
  | x :: l, s => (cutRecord_endsNoticed res s x).trans (foldl_cutRecord_endsNoticed res l _)

theorem emptyList_endsNoticed (res : Result) (s : State) : EndsNoticed res s (emptyList res s) := by
  have he : (s.asOneEvent (fun s => s.tags.foldl (cutRecord res) s)).motion.records = [] := foldl_cutRecord_records res s
  rw [emptyList, settle_of_empty he]
  exact foldl_cutRecord_endsNoticed res s.tags s

/-- What a change makes true of its own entry, and keeps true of every other, holds of every entry after a fold. -/
theorem foldl_makes {α : Type} {q : α → State → Prop} {f : State → α → State} (hf : ∀ s x, q x (f s x))
    (hk : ∀ s x y, q y s → q y (f s x)) (l : List α) (s : State) : ∀ y ∈ l, q y (l.foldl f s) := by
  have hkeep (y : α) : ∀ (l : List α) (s : State), q y s → q y (l.foldl f s) := fun l => by
    induction l with
    | nil => exact fun _ h => h
    | cons x l ih => exact fun s h => ih _ (hk s x y h)
  induction l generalizing s with
  | nil => exact fun _ h => absurd h List.not_mem_nil
  | cons x l ih =>
      intro y hy
      rcases List.mem_cons.1 hy with rfl | hy
      · exact hkeep y l _ (hf s y)
      · exact ih (f s x) y hy

/-- R122, R154: a lamp that HOLDOFF has turned off. -/
def State.DarkAtHoldoff (s : State) (l : Lamp) : Prop :=
  (s.drive.lamp.get l).duty = 0 ∧ (s.beacon.channel.get l).lit = false
    ∧ (s.beacon.channel.get l).level = some .holdoff

theorem darkenLamp_dark (s : State) (l : Lamp) : (darkenLamp s l).DarkAtHoldoff l := by
  refine ⟨?_, ?_, ?_⟩
  · rw [darkenLamp, driveLamp_get, if_pos rfl]
    rfl
  · rw [darkenLamp, driveLamp_beacon, State.onLamp_beacon]
    simp only [PerLamp.get_set_self]
  · rw [darkenLamp, driveLamp_beacon, State.onLamp_beacon]
    simp only [PerLamp.get_set_self]

theorem darkenLamp_keepsDark (s : State) (l l' : Lamp) (h : s.DarkAtHoldoff l') : (darkenLamp s l).DarkAtHoldoff l' := by
  by_cases hl : l' = l
  · subst hl
    exact darkenLamp_dark s l'
  · obtain ⟨hd, hlit, hlevel⟩ := h
    have hb : (darkenLamp s l).beacon.channel.get l' = s.beacon.channel.get l' := by
      rw [darkenLamp, driveLamp_beacon, State.onLamp_beacon]
      exact PerLamp.get_set_of_ne _ _ _ _ hl
    refine ⟨?_, by rw [hb]; exact hlit, by rw [hb]; exact hlevel⟩
    rw [darkenLamp, driveLamp_get, if_neg hl]
    exact hd

theorem holdoffForced_dark (s : State) : ∀ l ∈ lamps, (holdoffForced s).DarkAtHoldoff l := by
  rw [holdoffForced]
  exact foldl_makes (q := fun l s => s.DarkAtHoldoff l) darkenLamp_dark darkenLamp_keepsDark lamps _

/-- The list's own changes leave the lamps as they are. -/
theorem ListChange.dark {s t : State} (h : ListChange s t) {l : Lamp} (hd : s.DarkAtHoldoff l) : t.DarkAtHoldoff l := by
  rw [State.DarkAtHoldoff, h.drive, h.beacon]
  exact hd

theorem assertHoldoff_dark (s : State) : ∀ l ∈ lamps, (assertHoldoff s).DarkAtHoldoff l := fun l hl =>
  (ListWork.emptyList .holdoff (holdoffForced s)).effects.listChange.dark (holdoffForced_dark s l hl)

/-- R141: every output is held off. -/
theorem assertHoldoff_held (s : State) (o : DriveOut) : ((assertHoldoff s).drive.out.get o).force.holdoff = true := by
  have h : ((holdoffForced s).drive.out.get o).force.holdoff = true := by rw [holdoffForced_get]
  exact emptyList_out (p := fun r => r.force.holdoff = true) (fun _ _ _ h => h) (fun _ h => h) .holdoff h

theorem assertHoldoff_endsNoticed (s : State) : EndsNoticed .holdoff s (assertHoldoff s) :=
  EndsNoticed.trans (.of_link (holdoffForced_keeps State.link (fun _ _ => rfl) (fun _ _ => rfl) s))
    (emptyList_endsNoticed .holdoff (holdoffForced s))

theorem holdoffHigh_asserts {s : State} (h : s.pins.holdoff = false) :
    holdoffHigh s =
      assertHoldoff (s.onPins (fun p => { p with level := { p.level with holdoff := true }, holdoffLow := none })) :=
  if_neg (Bool.eq_false_iff.1 h)

/-- Settles O24. -/
theorem holdoffEmptiesTheList : Obligations.HoldoffEmptiesTheList := by
  intro s h c hc
  have he : exec c s = .next (holdoffHigh s) := by
    rcases hc with rfl | rfl
    · rfl
    · rfl
  refine ⟨_, he, ?_⟩
  rw [holdoffHigh_asserts h]
  generalize hu : s.onPins (fun p => { p with level := { p.level with holdoff := true }, holdoffLow := none }) = u
  have hw := (ListWork.emptyList .holdoff (holdoffForced u)).effects.listChange
  have hm : (holdoffForced u).motion = u.motion := holdoffForced_motion u
  subst hu
  refine ⟨assertHoldoff_pins _, emptyList_records _ _, emptyList_quiet _ (holdoffForced_quiet _),
    fun o _ => assertHoldoff_held _ o, assertHoldoff_dark _, assertHoldoff_endsNoticed _, assertHoldoff_estop _,
    hw.axis.trans (congrArg Motion.axis hm), hw.supply.trans (congrArg Motion.supply hm), ?_, ?_, ?_⟩
  · exact hw.store.trans (holdoffForced_keeps State.store (fun _ _ => rfl) (fun _ _ => rfl) _)
  · exact hw.profile.trans (holdoffForced_keeps State.profile (fun _ _ => rfl) (fun _ _ => rfl) _)
  · exact hw.clock.trans (holdoffForced_keeps State.clock (fun _ _ => rfl) (fun _ _ => rfl) _)

/-! ### Reset (R202, R188) -/

/-- With no record there is none to end. -/
theorem emptyList_of_empty {res : Result} {s : State} (h : s.motion.records = []) :
    emptyList res s = s.onMotion (fun m => { m with attemptsDue := 0 }) := by
  have ht : s.tags = [] := by rw [State.tags, h]; rfl
  rw [emptyList, State.asOneEvent, ht]
  exact settle_of_empty h

theorem emptyList_link_of_empty {res : Result} {s : State} (h : s.motion.records = []) :
    (emptyList res s).link = s.link := by rw [emptyList_of_empty h, State.onMotion_link]

theorem emptyList_store (res : Result) (s : State) : (emptyList res s).store = s.store :=
  (ListWork.emptyList res s).effects.listChange.store

theorem assertHoldoff_store (s : State) : (assertHoldoff s).store = s.store :=
  (emptyList_store .holdoff _).trans (holdoffForced_keeps State.store (fun _ _ => rfl) (fun _ _ => rfl) s)

theorem estopCause_store (c : EstopCause) (s : State) : (estopCause c s).store = s.store := by
  rw [estopCause_eq]
  split
  · rfl
  · exact (emptyList_store .estop _).trans (estopForced_keeps State.store (fun _ _ => rfl) (fun _ _ => rfl) c s)

/-- R202, R20: the released block once a high HOLDOFF has acted, field by field. -/
theorem releasedHeld_spec (s : State) : (releasedHeld s).link = Link.reset ∧ (releasedHeld s).store = Store.reset
    ∧ (releasedHeld s).motion.records = [] ∧ (releasedHeld s).DriveQuiet
    ∧ ∀ o ∈ driveOuts, ((releasedHeld s).drive.out.get o).force.holdoff = s.pins.level.holdoff := by
  have hout (o : DriveOut) : (State.released s.pins.level s.pending).drive.out.get o = DriveRecord.reset :=
    PerDrive.get_ofFn _ o
  unfold releasedHeld
  split
  · next h =>
    have hr : (holdoffForced (State.released s.pins.level s.pending)).motion.records = [] := by
      rw [holdoffForced_motion]
      rfl
    refine ⟨?_, assertHoldoff_store _, emptyList_records _ _, emptyList_quiet _ (holdoffForced_quiet _), fun o _ => ?_⟩
    · rw [assertHoldoff_eq, emptyList_link_of_empty hr]
      exact holdoffForced_keeps State.link (fun _ _ => rfl) (fun _ _ => rfl) (State.released s.pins.level s.pending)
    · rw [assertHoldoff_held, h]
  · next h =>
    refine ⟨rfl, rfl, rfl, fun o _ => ?_, fun o _ => ?_⟩
    · rw [hout]
      exact ⟨rfl, rfl, rfl, rfl, rfl⟩
    · rw [hout, Bool.eq_false_iff.2 h]
      rfl

/-- R118: an emergency stop of an empty list, whose notice finds room. -/
theorem estopCause_of_empty {c : EstopCause} {s : State} (he : s.motion.estop = false) (hr : s.motion.records = []) :
    estopCause c s = (estopForced c s).onMotion (fun m => { m with attemptsDue := 0 }) := by
  rw [estopCause_eq, if_neg (Bool.eq_false_iff.1 he), emptyList_of_empty]
  rw [estopForced_motion]
  exact hr

theorem estopForced_notices (c : EstopCause) (s : State) :
    (estopForced c s).link.notices =
      if s.link.notices.length < 16 then s.link.notices ++ [.estop c] else s.link.notices := by
  rw [estopForced, appendNotice_notices,
    foldl_keeps (fun s => s.link.notices) (f := forceImmediate) (fun _ _ => rfl) driveOuts]
  rfl

/-- R139: an IMMEDIATE force leaves the HOLDOFF force as it is. -/
theorem estopForced_holdoff (c : EstopCause) (s : State) (o : DriveOut) :
    ((estopForced c s).drive.out.get o).force.holdoff = (s.drive.out.get o).force.holdoff := by
  rw [estopForced, appendNotice_drive, forceImmediate_all_get]
  rfl

theorem resetRelease_spec (s : State) :
    (resetRelease s).link.notices = (if s.pins.level.estopN then [] else [.estop .pin])
      ∧ (∀ o ∈ driveOuts, ((resetRelease s).drive.out.get o).force.holdoff = s.pins.level.holdoff)
      ∧ (resetRelease s).DriveQuiet ∧ (resetRelease s).motion.records = [] ∧ (resetRelease s).store = Store.reset := by
  obtain ⟨hlink, hstore, hr, hq, hheld⟩ := releasedHeld_spec s
  rw [resetRelease_eq]
  split
  · exact ⟨by rw [hlink]; rfl, hheld, hq, hr, hstore⟩
  · rw [estopCause_of_empty (releasedHeld_estop s) hr]
    refine ⟨?_, fun o ho => ?_, ?_, ?_, ?_⟩
    · rw [State.onMotion_link, estopForced_notices, hlink]
      rfl
    · rw [State.onMotion_drive, estopForced_holdoff]
      exact hheld o ho
    · rw [State.DriveQuiet, State.onMotion_drive]
      exact estopForced_quiet .pin (releasedHeld s)
    · rw [State.onMotion_motion, estopForced_motion]
      exact hr
    · rw [State.onMotion_store, estopForced_keeps State.store (fun _ _ => rfl) (fun _ _ => rfl)]
      exact hstore

/-- R188: the restart's own row, while one reply is left. -/
theorem exec_restartTakesEffect {s : State} {r : Reply} (hr : s.link.restarting = true) (hf : s.link.fifo = [r]) :
    exec .restartTakesEffect s = .next (resetRelease s) := by
  change execRestartTakesEffect s = _
  rw [execRestartTakesEffect, hf]
  exact congrArg Host.Outcome.next (if_pos hr)

/-- R188: the restart with the last reply. -/
theorem exec_replySent_restarts {s : State} {r : Reply} (hr : s.link.restarting = true) (hf : s.link.fifo = [r]) :
    exec .replySent s = .next (resetRelease s) := by
  change execReplySent s = _
  rw [execReplySent, hf]
  exact congrArg Host.Outcome.next (if_pos hr)

/-- Settles O19. -/
theorem resetReleasesTheBlock : Obligations.ResetReleasesTheBlock := by
  intro s
  refine ⟨?_, fun hn hh => ?_, fun x y rest hf => ?_⟩
  · obtain ⟨hnotices, hheld, hq, hr, hstore⟩ := resetRelease_spec s
    have hp := resetRelease_pins s
    refine ⟨resetRelease s, rfl, resetRelease_estop s, hnotices, by rw [hp], hheld, hq, hr, hstore, by rw [hp]; rfl,
      fun hrs r hf => ⟨exec_restartTakesEffect hrs hf, exec_replySent_restarts hrs hf⟩⟩
  · change Host.Outcome.next (resetRelease s) = _
    rw [resetRelease_eq, if_pos hn, releasedHeld, if_neg (Bool.eq_false_iff.1 hh)]
    rfl
  · constructor
    · change execRestartTakesEffect s = _
      rw [execRestartTakesEffect, hf]
    · change execReplySent s = _
      rw [execReplySent, hf]
      rfl

end Sys2Proof.Machine

namespace Sys2Proof.Machine

/-! ### Pins (R18 to R21) -/

theorem stripEvent_of_none {a : Axis} {s : State} (h : s.mover a = none) : stripEvent a s = s := by
  rw [stripEvent, h]

/-- R18: an input that becomes active moves nothing, but for SPEED and a strip on a door in motion. -/
theorem inputActive_rests {i : Input} {s : State} (hi : i ≠ .speed) (hk : i = .edgeK → s.mover .kdoor = none)
    (hr : i = .edgeR → s.mover .rdoor = none) : inputActive i s = s := by
  cases i with
  | edgeK => exact stripEvent_of_none (hk rfl)
  | edgeR => exact stripEvent_of_none (hr rfl)
  | speed => exact absurd rfl hi
  | _ => rfl

/-- R18: the state in which an input's stable timer that began at t has ended, before its consumers act. -/
def debounced (i : Input) (t : Nat) (s : State) : State :=
  { s with
    clock := max s.clock (t + 20000)
    pins := { s.pins with filter := s.pins.filter.set i { active := s.pins.level.input.get i, since := none } } }

theorem exec_debounce {s : State} {i : Input} {t : Nat} (ht : (s.pins.filter.get i).since = some t)
    (hl : (s.pins.filter.get i).active ≠ s.pins.level.input.get i) :
    exec (.debounceStateChange i) s =
      .next (if s.pins.level.input.get i then inputActive i (debounced i t s) else debounced i t s) := by
  change execDebounceStateChange i s = _
  unfold execDebounceStateChange
  dsimp only
  rw [ht]
  exact if_neg hl

/-- R18: the state in which a debounced input has taken a new level of its pin, before a raw edge is judged. -/
def levelTaken (i : Input) (l : Bool) (s : State) : State :=
  { s with
    pins := { s.pins with
      level := { s.pins.level with input := s.pins.level.input.set i l }
      filter := s.pins.filter.set i { active := (s.pins.filter.get i).active, since := some s.clock } } }

theorem exec_inputPin {s : State} {i : Input} {l : Bool} (h : s.pins.level.input.get i ≠ l) :
    exec (.discretePinChange (.input i) l) s =
      .next (if i = .speed ∧ l = true then rawSpeedEdge (levelTaken i l s) else levelTaken i l s) := by
  change Host.Outcome.next (inputPin i l s) = _
  rw [inputPin, if_neg h]
  rfl

/-- R19: a raw edge with none in the 500 ms before it is only remembered. -/
theorem rawSpeedEdge_far {s : State} (h : ∀ t ∈ s.pins.rawEdge, t + 500000 ≤ s.clock) :
    rawSpeedEdge s = s.onPins (fun p => { p with rawEdge := some s.clock }) := by
  unfold rawSpeedEdge
  cases hr : s.pins.rawEdge with
  | none => rfl
  | some t =>
      have hw : ¬s.clock < t + Config.vehicleWindow := Nat.not_lt.2 (h t hr)
      simp only [hw, decide_false, Bool.false_eq_true, if_false]

/-- R19: a second raw edge within 500 ms holds the condition. -/
theorem rawSpeedEdge_near {s : State} {t : Nat} (hr : s.pins.rawEdge = some t) (h : s.clock < t + 500000) :
    rawSpeedEdge s = holdMoving (s.onPins (fun p => { p with rawEdge := some s.clock })) := by
  unfold rawSpeedEdge
  have hw : s.clock < t + Config.vehicleWindow := h
  simp only [hr, hw, decide_true, if_true]

/-- R19: a raw rising edge of SPEED is taken and remembered. -/
def rawEdgeTaken (s : State) : State := (levelTaken .speed true s).onPins (fun p => { p with rawEdge := some s.clock })

/-- R58, R19: the condition is made true where it was false. -/
theorem holdMoving_spec {s : State} (hv : s.vehicleMoving = false) (hn : s.tags.Nodup) :
    (holdMoving s).pins = { s.pins with movingEdge := some s.clock } ∧ (holdMoving s).clock = s.clock
      ∧ (∀ r ∈ (holdMoving s).motion.records, r.state = .stopping)
      ∧ (s.link.notices.length < 16 → (s.link.notices ++ [.vehicleMoving]) <+: (holdMoving s).link.notices)
      ∧ (holdMoving s).store = s.store ∧ (holdMoving s).motion.axis = s.motion.axis := by
  rw [holdMoving_starts hv]
  obtain ⟨hstop, hpins, hnotice, hstore, haxis, hclock⟩ :=
    vehicleStarts_spec (s := s.onPins (fun p => { p with movingEdge := some s.clock })) hn
  exact ⟨hpins, hclock, hstop, hnotice, hstore, haxis⟩

/-- Settles O21. -/
theorem pinChangesAreTaken : Obligations.PinChangesAreTaken := by
  intro s
  refine ⟨fun i t ht hl hrest => ?_, fun i l hl hi => ?_, fun hl => ⟨fun hfar => ?_, fun t hr hnear => ?_⟩,
    fun t ht ha hl => ?_, rfl, fun hl hh => ?_, fun l hs => ?_⟩
  · rw [exec_debounce ht hl]
    split
    · next hactive =>
      obtain ⟨hi, hk, hr⟩ := hrest hactive
      rw [inputActive_rests (s := debounced i t s) hi hk hr]
      rfl
    · rfl
  · rw [exec_inputPin hl, if_neg]
    · rfl
    · rintro ⟨hs, hlt⟩
      exact hi.elim (fun h => h hs) fun h => Bool.false_ne_true (h.symm.trans hlt)
  · rw [exec_inputPin (i := .speed) (by rw [PerInput.get, hl]; decide), if_pos ⟨rfl, rfl⟩,
      rawSpeedEdge_far (s := levelTaken .speed true s) hfar]
    rfl
  · have he : exec (.discretePinChange (.input .speed) true) s =
        .next (holdMoving (rawEdgeTaken s)) := by
      rw [exec_inputPin (i := .speed) (by rw [PerInput.get, hl]; decide), if_pos ⟨rfl, rfl⟩,
        rawSpeedEdge_near (s := levelTaken .speed true s) hr hnear]
      rfl
    refine ⟨fun hv => ?_, fun hv hn => ⟨_, he, holdMoving_spec (s := rawEdgeTaken s) hv hn⟩⟩
    rw [he, holdMoving_moving (s := rawEdgeTaken s) hv]
    rfl
  · have he : exec (.debounceStateChange .speed) s = .next (holdMoving (debounced .speed t s)) := by
      rw [exec_debounce (i := .speed) ht (by rw [PerInput.get, PerInput.get, ha, hl]; decide)]
      exact congrArg Host.Outcome.next (if_pos hl)
    have hp : (debounced .speed t s).pins =
        { s.pins with filter := s.pins.filter.set .speed { active := true, since := none } } := by
      rw [← hl]
      rfl
    refine ⟨fun hv => ?_, fun hv hn => ?_⟩
    · rw [he, holdMoving_moving (s := debounced .speed t s) hv, State.onPins, hp]
      rfl
    · refine ⟨_, he, ?_⟩
      have h := holdMoving_spec (s := debounced .speed t s) hv hn
      rw [hp] at h
      exact h
  · change Host.Outcome.next (holdoffPinLow s) = _
    have hlow : (if s.pins.level.holdoff && s.pins.holdoff then some s.clock else s.pins.holdoffLow) = some s.clock := by
      rw [hl, hh]
      rfl
    rw [holdoffPinLow, State.onPins, hlow]
  · change Host.Outcome.next (strapPin l s) = _
    have hc : (s.pins.strapChanged || (!s.pins.strapTaken && s.pins.level.strap != l)) =
        (s.pins.strapChanged || s.pins.level.strap != l) := by
      rw [hs]
      rfl
    rw [strapPin, State.onPins, hc]

end Sys2Proof.Machine

namespace Sys2Proof.Machine

/-! ### Lamps as they are judged (R150 to R154) -/

theorem judgeLamp_channel (l l' : Lamp) (s : State) :
    (judgeLamp l' s).beacon.channel.get l =
      if l = l' then
        { s.beacon.channel.get l with level := levelOf s l, lit := levelLit s l (levelOf s l) }
      else s.beacon.channel.get l := by
  rw [judgeLamp]
  simp only [driveLamp_beacon, State.onLamp_beacon, PerLamp.get_set]
  split
  · next h => rw [h]
  · rfl

theorem judgeLamp_lamp (l l' : Lamp) (s : State) :
    (judgeLamp l' s).drive.lamp.get l =
      if l = l' then LampRecord.drive s.drive.lampBase s.clock (lampDuty s l (levelOf s l)) (s.drive.lamp.get l)
      else s.drive.lamp.get l := by
  rw [judgeLamp]
  simp only [driveLamp_get, State.onLamp_drive, State.onLamp_clock]
  split
  · next h => rw [h]
  · rfl

/-- What a judgement of a lamp leaves of every channel but its level and lit phase. -/
theorem judgeLamp_keeps (l l' : Lamp) (s : State) :
    let b := s.beacon.channel.get l
    let b' := (judgeLamp l' s).beacon.channel.get l
    b'.override = b.override ∧ b'.stretch = b.stretch ∧ b'.pulse = b.pulse ∧ b'.shown = b.shown ∧ b'.fault = b.fault := by
  dsimp only
  rw [judgeLamp_channel]
  split
  · exact ⟨rfl, rfl, rfl, rfl, rfl⟩
  · exact ⟨rfl, rfl, rfl, rfl, rfl⟩

theorem judgeLamp_lampFaulted (l l' : Lamp) (s : State) : (judgeLamp l' s).lampFaulted l = s.lampFaulted l := by
  obtain ⟨-, -, -, -, hf⟩ := judgeLamp_keeps l l' s
  rw [State.lampFaulted, hf]
  rfl

theorem judgeLamp_conditionHolds (c : Condition) (l : Lamp) (s : State) :
    conditionHolds (judgeLamp l s) c = conditionHolds s c := by
  cases c with
  | anyFault =>
      have hl : (judgeLamp l s).lampFaulted = s.lampFaulted := funext fun x => judgeLamp_lampFaulted x l s
      have ha : (judgeLamp l s).faulted = s.faulted := rfl
      rw [conditionHolds, conditionHolds, State.anyFault, State.anyFault, hl, ha]
  | _ => rfl

theorem judgeLamp_levelOf (l l' : Lamp) (s : State) : levelOf (judgeLamp l' s) l = levelOf s l := by
  obtain ⟨ho, -⟩ := judgeLamp_keeps l l' s
  unfold levelOf levelBelow
  rw [ho]
  rfl

theorem judgeLamp_configuredLit (l l' : Lamp) (s : State) : configuredLit (judgeLamp l' s) l = configuredLit s l := by
  obtain ⟨-, hs, -⟩ := judgeLamp_keeps l l' s
  have hc : beaconConfig (judgeLamp l' s) l = beaconConfig s l := rfl
  have hb : (judgeLamp l' s).beacon.blink = s.beacon.blink := rfl
  have hp : (judgeLamp l' s).profile = s.profile := rfl
  simp only [configuredLit, stretchCondition, judgeLamp_conditionHolds, hs, hc, hb, hp]

theorem judgeLamp_levelLit (l l' : Lamp) (s : State) (level : Option Level) :
    levelLit (judgeLamp l' s) l level = levelLit s l level := by
  obtain ⟨ho, -, hp, -⟩ := judgeLamp_keeps l l' s
  cases level with
  | none => rfl
  | some level =>
      cases level with
      | override =>
          change overrideLit (judgeLamp l' s) _ = overrideLit s _
          unfold overrideLit
          rw [ho, hp]
          rfl
      | configuration => exact judgeLamp_configuredLit l l' s
      | _ => rfl

theorem judgeLamp_lampDuty (l l' : Lamp) (s : State) (level : Option Level) :
    lampDuty (judgeLamp l' s) l level = lampDuty s l level := by
  have hf : ((judgeLamp l' s).drive.lamp.get l).shortForce = (s.drive.lamp.get l).shortForce := by
    rw [judgeLamp_lamp]
    split <;> rfl
  unfold lampDuty
  rw [hf, judgeLamp_levelLit]
  rfl

/-- R154: a channel's level, lit phase and duty are those that the state gives it. -/
def State.JudgedAsStands (s : State) (l : Lamp) : Prop :=
  (s.beacon.channel.get l).level = levelOf s l ∧ (s.beacon.channel.get l).lit = levelLit s l (levelOf s l)
    ∧ (s.drive.lamp.get l).duty = lampDuty s l (levelOf s l)

theorem judgeLamp_judged (s : State) (l : Lamp) : (judgeLamp l s).JudgedAsStands l := by
  rw [State.JudgedAsStands, judgeLamp_levelOf, judgeLamp_levelLit, judgeLamp_lampDuty, judgeLamp_channel,
    judgeLamp_lamp, if_pos rfl, if_pos rfl]
  exact ⟨rfl, rfl, rfl⟩

theorem judgeLamp_keepsJudged (s : State) (l' l : Lamp) (h : s.JudgedAsStands l) : (judgeLamp l' s).JudgedAsStands l := by
  by_cases hl : l = l'
  · subst hl
    exact judgeLamp_judged s l
  · rw [State.JudgedAsStands, judgeLamp_levelOf, judgeLamp_levelLit, judgeLamp_lampDuty, judgeLamp_channel,
      judgeLamp_lamp, if_neg hl, if_neg hl]
    exact h

/-- R151 to R153: the configured lit phase by its pattern. -/
theorem configuredLit_cases (s : State) (l : Lamp) :
    let k := s.profile.beacons.channel.get l
    let blink := blinkLit s.profile.beacons.rate s.beacon.blink
    let primary := conditionHolds s k.primary
    let secondary := conditionHolds s k.secondary
    let window : Bool := decide (0 < (s.beacon.channel.get l).stretch)
    (k.combine = false → k.pattern = .steady → configuredLit s l = primary)
      ∧ (k.combine = false → k.pattern = .blink → configuredLit s l = (primary && blink))
      ∧ (k.combine = false → k.pattern = .stretch → configuredLit s l = (primary || window))
      ∧ (k.combine = true → k.pattern = .steady → configuredLit s l = primary)
      ∧ (k.combine = true → k.pattern = .blink → configuredLit s l = (primary && (!secondary || blink)))
      ∧ (k.combine = true → k.pattern = .stretch → configuredLit s l = (primary || secondary || window)) := by
  dsimp only
  refine ⟨?_, ?_, ?_, ?_, ?_, ?_⟩
  all_goals
    intro hc hp
    simp [configuredLit, stretchCondition, beaconConfig, hc, hp, Bool.or_assoc]

/-! R154: the levels, from the highest down. -/

section Levels

variable {s : State} {l : Lamp}

theorem levelOf_holdoff (h : s.pins.holdoff = true) : levelOf s l = some .holdoff := if_pos h

theorem levelOf_below (h : s.pins.holdoff = false) : levelOf s l = levelBelow s l := if_neg (Bool.eq_false_iff.1 h)

theorem levelBelow_estop (h : s.motion.estop = true) : levelBelow s l = some .estop := if_pos h

theorem levelBelow_unjudged (he : s.motion.estop = false) (h : ¬(s.store.mode ≠ .loading ∧ s.beacon.judged = true)) :
    levelBelow s l = none := by
  rw [levelBelow, if_neg (Bool.eq_false_iff.1 he), if_pos]
  by_cases hm : s.store.mode = .loading
  · exact .inl hm
  · exact .inr (Bool.eq_false_iff.2 fun hj => h ⟨hm, hj⟩)

variable (he : s.motion.estop = false) (hj : s.store.mode ≠ .loading ∧ s.beacon.judged = true)
include he hj

/-- Past the levels of ESTOP and of a block that is not judged yet. -/
theorem levelBelow_judged : levelBelow s l =
    if inPrewarn s l then some .prewarn
    else if l = .b2 ∧ s.doorOpen .rdoor = true then some .road
    else if l = .b0 ∧ s.vehicleMoving = true ∧ (!s.stowed) = true then some .vehicle
    else if (s.beacon.channel.get l).override.isSome then some .override
    else if s.store.mode = .run then some .configuration
    else if lampTestRunning s then some .lampTest
    else none := by
  rw [levelBelow, if_neg (Bool.eq_false_iff.1 he), if_neg]
  rintro (h | h)
  · exact hj.1 h
  · exact Bool.false_ne_true (h.symm.trans hj.2)

theorem levelBelow_prewarn (h : inPrewarn s l = true) : levelBelow s l = some .prewarn := by
  rw [levelBelow_judged he hj, if_pos h]

variable (hp : inPrewarn s l = false)
include hp

theorem levelBelow_road (hl : l = .b2) (h : s.doorOpen .rdoor = true) : levelBelow s l = some .road := by
  rw [levelBelow_judged he hj, if_neg (Bool.eq_false_iff.1 hp), if_pos ⟨hl, h⟩]

theorem levelBelow_vehicle (hl : l = .b0) (hv : s.vehicleMoving = true) (hs : s.stowed = false) :
    levelBelow s l = some .vehicle := by
  rw [levelBelow_judged he hj, if_neg (Bool.eq_false_iff.1 hp), if_neg, if_pos ⟨hl, hv, by rw [hs]; rfl⟩]
  rintro ⟨h, -⟩
  exact absurd (hl.symm.trans h) (by decide)

variable (hr : l = .b2 → s.doorOpen .rdoor = false) (hv : l = .b0 → s.vehicleMoving = false ∨ s.stowed = true)
include hr hv

/-- Past the levels of the warnings. -/
theorem levelBelow_unwarned : levelBelow s l =
    if (s.beacon.channel.get l).override.isSome then some .override
    else if s.store.mode = .run then some .configuration
    else if lampTestRunning s then some .lampTest
    else none := by
  rw [levelBelow_judged he hj, if_neg (Bool.eq_false_iff.1 hp), if_neg, if_neg]
  · rintro ⟨hl, hm, hs⟩
    rcases hv hl with h | h
    · exact Bool.false_ne_true (h.symm.trans hm)
    · rw [h] at hs
      exact Bool.false_ne_true hs
  · rintro ⟨hl, hd⟩
    exact Bool.false_ne_true ((hr hl).symm.trans hd)

theorem levelBelow_override {o : Override} (h : (s.beacon.channel.get l).override = some o) :
    levelBelow s l = some .override := by
  rw [levelBelow_unwarned he hj hp hr hv, h]
  rfl

theorem levelBelow_configuration (h : (s.beacon.channel.get l).override = none) (hm : s.store.mode = .run) :
    levelBelow s l = some .configuration := by
  rw [levelBelow_unwarned he hj hp hr hv, h, if_neg (by decide), if_pos hm]

theorem levelBelow_lampTest {n : Nat} (h : (s.beacon.channel.get l).override = none) (hm : s.store.mode = .lampTest)
    (ht : s.beacon.test = .running n) : levelBelow s l = some .lampTest := by
  have hrun : lampTestRunning s = true := by rw [lampTestRunning, ht]
  rw [levelBelow_unwarned he hj hp hr hv, h, if_neg (by decide), if_neg (by rw [hm]; decide), if_pos hrun]

end Levels

/-- R150, R159: the duty that a channel's level and lit phase give its output. -/
theorem lampDuty_eq {s : State} {l : Lamp} : lampDuty s l (levelOf s l) =
    if levelLit s l (levelOf s l) = false ∨ (s.drive.lamp.get l).shortForce = true then 0
    else if (levelOf s l = some .override ∨ levelOf s l = some .configuration) ∧ s.input .night = true
      ∧ s.profile.beacons.dim = true then 250
    else 1000 := by
  unfold lampDuty
  by_cases hf : (s.drive.lamp.get l).shortForce = true
  · rw [hf, Bool.true_or, if_pos rfl, if_pos (.inr rfl)]
  · have hf' := Bool.eq_false_iff.2 hf
    by_cases hh : s.pins.holdoff = true
    · have hlit : levelLit s l (levelOf s l) = false := by
        rw [levelOf_holdoff hh]
        rfl
      rw [hh, hlit, Bool.or_true, if_pos rfl, if_pos (.inl rfl)]
    · rw [Bool.eq_false_iff.2 hh, hf', if_neg (by decide)]
      cases levelLit s l (levelOf s l) with
      | false => rw [if_neg (by decide), if_pos (.inl rfl)]
      | true =>
          rw [if_pos rfl, if_neg (by decide)]
          rfl

/-- R158: the lit phase of an override by its pattern. -/
theorem overrideLit_eq {s : State} {b : Beacon} {o : Override} (h : b.override = some o) :
    (o.pattern = .on → overrideLit s b = true) ∧ (o.pattern = .off → overrideLit s b = false)
      ∧ (o.pattern = .blink → overrideLit s b = blinkLit s.profile.beacons.rate s.beacon.blink)
      ∧ (o.pattern = .stretch → overrideLit s b = decide (0 < b.pulse)) := by
  refine ⟨?_, ?_, ?_, ?_⟩
  all_goals
    intro hp
    simp [overrideLit, h, hp]

/-- R154: a channel that is judged as the state stands shows what the rules of R150 to R160 give. -/
theorem State.JudgedAsStands.shows {s : State} {l : Lamp} (h : s.JudgedAsStands l) : s.LampShows l := by
  obtain ⟨hlevel, hlit, hduty⟩ := h
  have shown {level : Option Level} {lit : Bool} (hl : levelOf s l = level) (hlv : levelLit s l level = lit) :
      (s.beacon.channel.get l).level = level ∧ (s.beacon.channel.get l).lit = lit := by
    rw [hlevel, hlit, hl, hlv]
    exact ⟨rfl, rfl⟩
  refine ⟨fun hh => shown (levelOf_holdoff hh) rfl,
    fun hh he => shown ((levelOf_below hh).trans (levelBelow_estop he)) rfl,
    fun ⟨hh, he⟩ hj => shown ((levelOf_below hh).trans (levelBelow_unjudged he hj)) rfl,
    fun ⟨hh, he⟩ hj hp => shown ((levelOf_below hh).trans (levelBelow_prewarn he hj hp)) rfl,
    fun ⟨⟨hh, he⟩, hj, hp⟩ hl hd => shown ((levelOf_below hh).trans (levelBelow_road he hj hp hl hd)) rfl,
    fun ⟨⟨hh, he⟩, hj, hp⟩ hl hv hs => shown ((levelOf_below hh).trans (levelBelow_vehicle he hj hp hl hv hs)) rfl,
    fun o ⟨⟨⟨hh, he⟩, hj, hp⟩, hr, hv⟩ ho => ?_, fun ⟨⟨⟨hh, he⟩, hj, hp⟩, hr, hv⟩ ho hm => ?_,
    fun n ⟨⟨⟨hh, he⟩, hj, hp⟩, hr, hv⟩ ho hm ht => ?_, ?_⟩
  · obtain ⟨hl, ht⟩ := shown ((levelOf_below hh).trans (levelBelow_override he hj hp hr hv ho)) rfl
    rw [ht]
    exact ⟨hl, overrideLit_eq ho⟩
  · obtain ⟨hl, ht⟩ := shown ((levelOf_below hh).trans (levelBelow_configuration he hj hp hr hv ho hm)) rfl
    rw [ht]
    exact ⟨hl, configuredLit_cases s l⟩
  · refine shown ((levelOf_below hh).trans (levelBelow_lampTest he hj hp hr hv ho hm ht)) ?_
    change (match s.beacon.test with
      | .running n => testLit (n - 1)
      | .notRun => false
      | .over => false) = _
    rw [ht]
    rfl
  · rw [hlevel, hlit, hduty]
    exact lampDuty_eq

/-! ### Conduction of a lamp (R145, R150) -/

/-- R150: a duty lights the lamp in a window about the middle of the period. -/
theorem lampOnAt_iff (d h : Nat) : lampOnAt d h = true ↔ 4000 - d * 4 ≤ h ∧ h < 4000 + d * 4 := by
  have hc : lampCompare d = d * 4 := by
    unfold lampCompare
    omega
  rw [lampOnAt, centred, hc, Bool.and_eq_true, decide_eq_true_eq, decide_eq_true_eq]
  omega

/-- An output that is on in this window of each period of 8000 is on within n half ticks from phase a exactly when the
next start of the window, or a itself inside it, comes before they end. -/
theorem exists_in_window {c a n : Nat} (hc : 0 < c) (ha : a < 8000) :
    (∃ h, h < n ∧ 4000 - c ≤ (a + h) % 8000 ∧ (a + h) % 8000 < 4000 + c) ↔
      (if a < 4000 + c then max a (4000 - c) else 8000 + (4000 - c)) < a + n := by
  constructor
  · rintro ⟨h, hn, h1, h2⟩
    split
    · omega
    · omega
  · split
    · next hl => exact fun hm => ⟨max a (4000 - c) - a, by omega, by omega, by omega⟩
    · next hl => exact fun hm => ⟨8000 + (4000 - c) - a, by omega, by omega, by omega⟩

/-- R145: the mark of conduction is kept exactly as OnBy says. -/
theorem lampConductedBy_iff (r : LampRecord) (base t : Nat) : r.conductedBy base t = true ↔ r.OnBy base t := by
  have hphase (h : Nat) : (halfTicksAt (r.drivenFrom - base) + h) % 8000 =
      (halfTicksAt ((r.drivenFrom - base) % 1000) + h) % 8000 := by
    unfold halfTicksAt Config.halfTicks
    omega
  have hcompare : lampCompare r.duty = r.duty * 4 := by
    unfold lampCompare
    omega
  have ha : halfTicksAt ((r.drivenFrom - base) % 1000) < 8000 := by
    unfold halfTicksAt Config.halfTicks
    omega
  have hperiod : Config.lampPeriod = 1000 := rfl
  unfold LampRecord.conductedBy LampRecord.OnBy
  dsimp only
  rw [hperiod]
  simp only [hphase, lampOnAt_iff, Bool.or_eq_true, Bool.and_eq_true, bne_iff_ne, hcompare, onWithin,
    decide_eq_true_eq]
  generalize halfTicksAt ((r.drivenFrom - base) % 1000) = a at ha
  generalize halfTicksAt (t - r.drivenFrom) = n
  refine or_congr_right ?_
  by_cases hd : r.duty = 0
  · rw [hd]
    refine ⟨fun h => absurd rfl h.1, ?_⟩
    rintro ⟨h, -, h1, h2⟩
    omega
  · rw [exists_in_window (c := r.duty * 4) (by omega) ha]
    exact ⟨fun h => h.2, fun h => ⟨hd, h⟩⟩

/-! ### What lets go (R19, R20, R125) -/

/-- R123, R154: after a release every lamp is judged as the state stands. -/
theorem releaseHoldoff_judged (s : State) : ∀ l ∈ lamps, (releaseHoldoff s).JudgedAsStands l := by
  rw [releaseHoldoff]
  exact foldl_makes (q := fun l s => s.JudgedAsStands l) (f := fun s l => judgeLamp l s) judgeLamp_judged
    judgeLamp_keepsJudged lamps _

/-- What judgements of every lamp leave of each channel but its level and lit phase. -/
theorem foldl_judgeLamp_keeps {β : Type} (g : Beacon → β) (l : Lamp)
    (hg : ∀ (b : Beacon) level lit, g { b with level := level, lit := lit } = g b) (ls : List Lamp) (s : State) :
    g ((ls.foldl (fun s l => judgeLamp l s) s).beacon.channel.get l) = g (s.beacon.channel.get l) :=
  foldl_keeps (fun s => g (s.beacon.channel.get l)) (f := fun s l => judgeLamp l s) (fun s l' => by
    rw [judgeLamp_channel]
    split
    · exact hg _ _ _
    · rfl) ls s

theorem releaseHoldoff_channel (l : Lamp) (s : State) :
    let b := s.beacon.channel.get l
    let b' := (releaseHoldoff s).beacon.channel.get l
    b'.override = b.override ∧ b'.stretch = b.stretch ∧ b'.pulse = b.pulse ∧ b'.shown = b.shown ∧ b'.fault = b.fault := by
  have hg {β : Type} (g : Beacon → β) (hg : ∀ (b : Beacon) level lit, g { b with level := level, lit := lit } = g b) :
      g ((releaseHoldoff s).beacon.channel.get l) = g (s.beacon.channel.get l) := by
    rw [releaseHoldoff]
    refine (foldl_judgeLamp_keeps g l hg lamps _).trans ?_
    rw [foldl_keeps State.beacon (f := liftHoldoff) fun _ _ => rfl]
    rfl
  exact ⟨hg _ fun _ _ _ => rfl, hg _ fun _ _ _ => rfl, hg _ fun _ _ _ => rfl, hg _ fun _ _ _ => rfl,
    hg _ fun _ _ _ => rfl⟩

/-- R145, R150: of lamps that are judged one after another, each takes its duty once. -/
theorem foldl_judgeLamp_lamp (l : Lamp) : ∀ (ls : List Lamp) (s : State), ls.Nodup → l ∈ ls →
    ∃ d, (ls.foldl (fun s l => judgeLamp l s) s).drive.lamp.get l =
      LampRecord.drive s.drive.lampBase s.clock d (s.drive.lamp.get l)
  | [], _, _, h => absurd h List.not_mem_nil
  | x :: ls, s, hn, h => by
      obtain ⟨hx, hn⟩ := List.nodup_cons.1 hn
      rw [List.foldl_cons]
      by_cases hl : l = x
      · subst hl
        have hrest : ∀ (ls : List Lamp) (u : State), l ∉ ls →
            (ls.foldl (fun s l => judgeLamp l s) u).drive.lamp.get l = u.drive.lamp.get l := fun ls => by
          induction ls with
          | nil => exact fun _ _ => rfl
          | cons y ls ih =>
              intro u hy
              obtain ⟨hy, hls⟩ := not_or.1 (fun h => hy (List.mem_cons.2 h))
              rw [List.foldl_cons, ih _ hls, judgeLamp_lamp, if_neg hy]
        exact ⟨_, by rw [hrest ls _ hx, judgeLamp_lamp, if_pos rfl]⟩
      · obtain ⟨d, hd⟩ := foldl_judgeLamp_lamp l ls (judgeLamp x s) hn ((List.mem_cons.1 h).resolve_left hl)
        exact ⟨d, by rw [hd, judgeLamp_lamp, if_neg hl]; rfl⟩

theorem lamps_nodup : lamps.Nodup := by decide

theorem releaseHoldoff_lamp (l : Lamp) (s : State) : ∃ d, (releaseHoldoff s).drive.lamp.get l =
    LampRecord.drive s.drive.lampBase s.clock d (s.drive.lamp.get l) := by
  rw [releaseHoldoff]
  obtain ⟨d, hd⟩ := foldl_judgeLamp_lamp l lamps _ lamps_nodup (mem_lamps l)
  refine ⟨d, hd.trans ?_⟩
  have hk {β : Type} (g : State → β) (hg : ∀ s o, g (liftHoldoff s o) = g s) := foldl_keeps g hg driveOuts
    (s.onPins (fun p => { p with holdoff := false, holdoffLow := none }))
  rw [hk (fun s => s.drive.lampBase) fun _ _ => rfl, hk State.clock fun _ _ => rfl,
    hk (fun s => s.drive.lamp.get l) fun _ _ => rfl]
  rfl

theorem exec_holdoffReleased {s : State} {t : Nat} (hh : s.pins.holdoff = true) (ht : s.pins.holdoffLow = some t) :
    exec .holdoffReleased s = .next (releaseHoldoff (s.upTo (t + 20000))) := by
  change execHoldoffReleased s = _
  unfold execHoldoffReleased
  rw [ht]
  exact if_pos hh

theorem restoreSupply_eq {s : State} (h : s.link.notices.length < 16) :
    restoreSupply s =
      { s with
        motion := { s.motion with supply := .normal, lowRun := none, recoveryRun := none }
        link := { s.link with notices := s.link.notices ++ [.supply .normal s.volts] } } := by
  have hl : ((s.onMotion (fun m => { m with supply := .normal, lowRun := none, recoveryRun := none })).link.notices).length
      < Config.noticeCapacity := h
  rw [restoreSupply]
  dsimp only
  rw [appendNotice, State.onLink, if_pos hl]
  rfl

/-- What a release of HOLDOFF leaves alone. -/
theorem releaseHoldoff_rests (s : State) :
    (releaseHoldoff s).pins = { s.pins with holdoff := false, holdoffLow := none } ∧ (releaseHoldoff s).clock = s.clock
      ∧ (releaseHoldoff s).beacon.blink = s.beacon.blink ∧ (releaseHoldoff s).beacon.test = s.beacon.test
      ∧ (releaseHoldoff s).beacon.judged = s.beacon.judged ∧ (releaseHoldoff s).beacon.prewarn = s.beacon.prewarn
      ∧ (releaseHoldoff s).motion = s.motion ∧ (releaseHoldoff s).link = s.link ∧ (releaseHoldoff s).store = s.store
      ∧ (releaseHoldoff s).crew = s.crew ∧ (releaseHoldoff s).sense = s.sense := by
  have hk {β : Type} (g : State → β) (hl : ∀ l s, g (judgeLamp l s) = g s) (ho : ∀ s o, g (liftHoldoff s o) = g s)
      (hp : g (s.onPins (fun p => { p with holdoff := false, holdoffLow := none })) = g s) :
      g (releaseHoldoff s) = g s := (releaseHoldoff_keeps g hl ho s).trans hp
  exact ⟨releaseHoldoff_pins s, hk State.clock (fun _ _ => rfl) (fun _ _ => rfl) rfl,
    hk (fun s => s.beacon.blink) (fun _ _ => rfl) (fun _ _ => rfl) rfl,
    hk (fun s => s.beacon.test) (fun _ _ => rfl) (fun _ _ => rfl) rfl,
    hk (fun s => s.beacon.judged) (fun _ _ => rfl) (fun _ _ => rfl) rfl,
    hk (fun s => s.beacon.prewarn) (fun _ _ => rfl) (fun _ _ => rfl) rfl, releaseHoldoff_motion s,
    hk State.link (fun _ _ => rfl) (fun _ _ => rfl) rfl, hk State.store (fun _ _ => rfl) (fun _ _ => rfl) rfl,
    hk State.crew (fun _ _ => rfl) (fun _ _ => rfl) rfl, hk State.sense (fun _ _ => rfl) (fun _ _ => rfl) rfl⟩

/-- Settles O22. -/
theorem conditionsLetGo : Obligations.ConditionsLetGo := by
  refine ⟨fun s t hh ht => ?_, fun s t ht => ?_, fun s t hs ht hq => ?_⟩
  · obtain ⟨hpins, hclock, hblink, htest, hjudged, hprewarn, hmotion, hlink, hstore, hcrew, hsense⟩ :=
      releaseHoldoff_rests (s.upTo (t + 20000))
    refine ⟨_, exec_holdoffReleased hh ht, hpins, hclock, fun o _ => ?_, fun l hl =>
      ⟨(releaseHoldoff_judged _ l hl).shows, releaseHoldoff_channel l (s.upTo (t + 20000)), ?_⟩, hblink, htest, hjudged,
      hprewarn, hmotion, hlink, hstore, hcrew, hsense⟩
    · rw [releaseHoldoff_get, hclock]
      rfl
    · obtain ⟨d, hd⟩ := releaseHoldoff_lamp l (s.upTo (t + 20000))
      rw [hd, hclock]
      exact ⟨rfl, lampConductedBy_iff _ _ _⟩
  · change execVehicleMovingExpiry s = _
    rw [execVehicleMovingExpiry, ht]
    rfl
  · have he : exec .supplyRecover s = .next (restoreSupply (s.upTo (t + 1000000))) := by
      change execSupplyRecover s = _
      rw [execSupplyRecover, hs, ht]
      rfl
    rw [he, restoreSupply_eq (s := s.upTo (t + 1000000)) hq]
    rfl

end Sys2Proof.Machine

namespace Sys2Proof.Machine

/-! ### What grants, ends and steps keep -/

/-- R136, R137, R140: claims, releases, stagings and IMMEDIATE forces keep this of an output's record. -/
structure KeptByGrants (p : DriveRecord → Prop) : Prop where
  claim : ∀ (tag : Nat) (r : DriveRecord), p r → p { r with claim := some tag, force := { r.force with immediate := false } }
  release : KeptByRelease p
  force : KeptByForce p
  stage : ∀ (tag duty : Nat) (hit : Bool) (r : DriveRecord), p r → r.takes tag = true →
    p { r with staged := duty, hitMark := hit, updatePending := true }

theorem GrantEffect.out {p : DriveRecord → Prop} (hp : KeptByGrants p) {s t : State} (e : GrantEffect s t)
    (o : DriveOut) (h : p (s.drive.out.get o)) : p (t.drive.out.get o) := by
  cases e with
  | claim tag _ o' => exact onOut_holds o' (hp.claim tag _) h
  | release _ o' => exact onOut_holds o' (hp.release _) h
  | force _ o' => exact onOut_holds o' (hp.force _ _ _) h
  | stage tag duty hit _ o' =>
      refine onOut_holds o' (fun h => ?_) h
      split
      · next ht => exact hp.stage tag duty hit _ h ht
      · exact h
  | _ => exact h

/-- No record of the list claims the axis. -/
abbrev State.Unclaimed (s : State) (a : Axis) : Prop := ∀ r ∈ s.motion.records, r.claims a = false

theorem GrantEffect.unclaimed {s t : State} (e : GrantEffect s t) {a : Axis} (h : s.Unclaimed a) : t.Unclaimed a := by
  cases e with
  | records _ f _ hc =>
      intro r hr
      obtain ⟨y, hy, rfl⟩ := List.mem_map.1 hr
      obtain ⟨x, hx, he⟩ := hc y hy
      rw [he]
      exact h x hx
  | remove _ tag => exact fun r hr => h r (List.mem_of_mem_filter hr)
  | _ => exact h

/-- The disagreement count and the sensor verdict of a channel (R14, R16). -/
def SenseChannel.verdict (c : SenseChannel) : Nat × Bool := (c.disagree, c.clearable)

theorem GrantEffect.verdict {s t : State} (e : GrantEffect s t) (c : Channel) :
    (t.sense.get c).verdict = (s.sense.get c).verdict := by
  cases e with
  | channel _ a f hf =>
      rw [State.onChannel_sense]
      by_cases hc : c = .axis a
      · subst hc
        rw [PerChannel.get_set_self]
        exact Prod.ext (hf _).1 (hf _).2
      · rw [PerChannel.get_set_of_ne _ _ _ _ hc]
  | _ => rfl

namespace GrantEffects

theorem keeps {P : State → Prop} (hP : ∀ {s t : State}, GrantEffect s t → P s → P t) {s t : State}
    (e : GrantEffects s t) (h : P s) : P t := by
  induction e with
  | refl => exact h
  | tail _ e ih => exact hP e ih

theorem out_holds {p : DriveRecord → Prop} (hp : KeptByGrants p) {s t : State} (e : GrantEffects s t) (o : DriveOut)
    (h : p (s.drive.out.get o)) : p (t.drive.out.get o) :=
  e.keeps (P := fun s => p (s.drive.out.get o)) (fun e => e.out hp o) h

theorem unclaimed {s t : State} (e : GrantEffects s t) {a : Axis} (h : s.Unclaimed a) : t.Unclaimed a :=
  e.keeps (P := fun s => s.Unclaimed a) (fun e => e.unclaimed) h

theorem verdict {s t : State} (e : GrantEffects s t) (c : Channel) :
    (t.sense.get c).verdict = (s.sense.get c).verdict :=
  e.keeps (P := fun u => (u.sense.get c).verdict = (s.sense.get c).verdict) (fun e h => (e.verdict c).trans h) rfl

end GrantEffects

/-! ### Axis faults (R127 to R129) -/

/-- R128, R129: an output off under a FAULT HOLD. -/
abbrev DriveRecord.HeldByFault (r : DriveRecord) : Prop := r.Quiet ∧ r.force.faultHold = true

/-- R137: nothing is staged under a FAULT HOLD. -/
theorem heldByFault_kept : KeptByGrants DriveRecord.HeldByFault where
  claim _ _ h := h
  release _ h := h
  force _ _ _ h := ⟨⟨rfl, rfl, rfl, rfl, rfl⟩, h.2⟩
  stage tag _ _ r h ht := by
    have hf : r.force.any = true := by simp [Force.any, h.2]
    simp [DriveRecord.takes, hf] at ht

theorem latchFault_motion (k : FaultKind) (pos : Option Int) (s : State) (a : Axis) :
    (latchFault k pos s a).motion =
      { s.motion with axis := s.motion.axis.set a { s.motion.axis.get a with
          fault := some { kind := k, position := pos, tag := (s.claimant a).map Record.tag } } } := rfl

/-- The faults of some axes latch one after another, each with the tag that claims its axis. -/
theorem foldl_latchFault_axis (k : FaultKind) (pos : Axis → Option Int) (b : Axis) : ∀ (l : List Axis) (s : State),
    (l.foldl (fun s a => latchFault k (pos a) s a) s).motion.axis.get b =
      if b ∈ l then
        { s.motion.axis.get b with
          fault := some { kind := k, position := pos b, tag := (s.claimant b).map Record.tag } }
      else s.motion.axis.get b
  | [], s => by simp
  | a :: l, s => by
      have hc : (latchFault k (pos a) s a).claimant b = s.claimant b := rfl
      rw [List.foldl_cons, foldl_latchFault_axis k pos b l, hc, latchFault_motion]
      dsimp only
      rw [PerAxis.get_set]
      by_cases hba : b = a
      · subst hba
        simp
      · simp [hba]

/-- The other fields of the motion part, and every part that a latch does not name, stand. -/
theorem foldl_latchFault_keeps {β : Type} (g : State → β) (hg : ∀ k pos s a, g (latchFault k pos s a) = g s)
    (k : FaultKind) (pos : Axis → Option Int) (l : List Axis) (s : State) :
    g (l.foldl (fun s a => latchFault k (pos a) s a) s) = g s :=
  foldl_keeps g (f := fun s a => latchFault k (pos a) s a) (fun s a => hg k (pos a) s a) l s

theorem heldForFault_keeps {β : Type} (g : State → β) (hg : ∀ k pos s a, g (latchFault k pos s a) = g s)
    (hf : ∀ s o, g (forceFault s o) = g s) (l : List Axis) (k : FaultKind) (pos : Axis → Option Int) (s : State) :
    g (heldForFault l k pos s) = g s := by
  rw [heldForFault, foldl_keeps g (f := forceFault) hf]
  exact foldl_latchFault_keeps g hg k pos l s

theorem heldForFault_axis (l : List Axis) (k : FaultKind) (pos : Axis → Option Int) (s : State) (b : Axis) :
    (heldForFault l k pos s).motion.axis.get b =
      if b ∈ l then
        { s.motion.axis.get b with
          fault := some { kind := k, position := pos b, tag := (s.claimant b).map Record.tag } }
      else s.motion.axis.get b := by
  rw [heldForFault, foldl_keeps (fun s => s.motion.axis.get b) (f := forceFault) fun _ _ => rfl]
  exact foldl_latchFault_axis k pos b l s

theorem heldForFault_records (l : List Axis) (k : FaultKind) (pos : Axis → Option Int) (s : State) :
    (heldForFault l k pos s).motion.records = s.motion.records :=
  heldForFault_keeps (fun s => s.motion.records) (fun _ _ _ _ => rfl) (fun _ _ => rfl) l k pos s

theorem heldForFault_bank (l : List Axis) (k : FaultKind) (pos : Axis → Option Int) (s : State) :
    (heldForFault l k pos s).motion.bank = s.motion.bank :=
  heldForFault_keeps (fun s => s.motion.bank) (fun _ _ _ _ => rfl) (fun _ _ => rfl) l k pos s

/-- A FAULT HOLD holds its output, and keeps what a hold keeps of every other. -/
theorem foldl_forceFault_holds (l : List DriveOut) (s : State) :
    ∀ o ∈ l, ((l.foldl forceFault s).drive.out.get o).HeldByFault := by
  refine foldl_makes (q := fun o s => (s.drive.out.get o).HeldByFault) (f := forceFault) (fun s o => ?_)
    (fun s o' o h => onOut_holds o' (fun h => ⟨⟨rfl, rfl, rfl, rfl, rfl⟩, rfl⟩) h) l s
  rw [forceFault, onOut_get, if_pos rfl]
  exact ⟨⟨rfl, rfl, rfl, rfl, rfl⟩, rfl⟩

theorem heldForFault_out {l : List Axis} (k : FaultKind) (pos : Axis → Option Int) (s : State) {a : Axis} (ha : a ∈ l)
    {o : DriveOut} (ho : o ∈ outputsOf a) : ((heldForFault l k pos s).drive.out.get o).HeldByFault :=
  foldl_forceFault_holds _ _ o (List.mem_flatMap.2 ⟨a, ha, ho⟩)

/-- What a FAULT HOLD keeps of an output's record, a hold for faults keeps of every output. -/
theorem heldForFault_out_holds {p : DriveRecord → Prop}
    (hp : ∀ (s : State) (o : DriveOut) (r : DriveRecord), p r →
      p { s.turnedOff o r with force := { r.force with faultHold := true } })
    (l : List Axis) (k : FaultKind) (pos : Axis → Option Int) {s : State} {o : DriveOut} (h : p (s.drive.out.get o)) :
    p ((heldForFault l k pos s).drive.out.get o) := by
  refine foldl_out_holds (f := forceFault) (fun s o' => onOut_holds o' (hp s o' _)) _ _ ?_
  rw [foldl_latchFault_keeps State.drive fun _ _ _ _ => rfl]
  exact h

theorem State.find_filter {s : State} {tag : Nat} (h : s.find tag = none) :
    s.motion.records.filter (fun r => r.tag ≠ tag) = s.motion.records := by
  refine List.filter_eq_self.2 fun r hr => ?_
  have hn := List.find?_eq_none.1 h r hr
  simpa using hn

/-- An immediate stop changes only records of its own tag. -/
theorem immediateStop_filter (r : Record) (s : State) :
    (immediateStop r s).motion.records.filter (fun x => x.tag ≠ r.tag) =
      s.motion.records.filter (fun x => x.tag ≠ r.tag) := by
  have hm : ((outputsOf r.axis).foldl forceImmediate s).motion = s.motion :=
    foldl_keeps State.motion (f := forceImmediate) (fun _ _ => rfl) _ s
  rw [immediateStop, State.onRecord, State.onMotion_motion, hm]
  dsimp only
  rw [List.filter_map]
  have hp : (fun x : Record => decide (x.tag ≠ r.tag)) ∘ (fun x => if x.tag = r.tag then { x with dPrev := 0 } else x)
      = fun x => decide (x.tag ≠ r.tag) := by
    funext x
    by_cases hx : x.tag = r.tag <;> simp [hx]
  rw [hp]
  refine (List.map_congr_left fun x hx => ?_).trans (List.map_id _)
  have hne := of_decide_eq_true (List.mem_filter.1 hx).2
  exact if_neg hne

/-- A cut takes the records of its tag out of the list, and leaves the others as they were. -/
theorem cutRecord_records (res : Result) (s : State) (tag : Nat) :
    (cutRecord res s tag).motion.records = s.motion.records.filter (fun r => r.tag ≠ tag) := by
  cases h : s.find tag with
  | none =>
      rw [cutRecord, h, State.find_filter h]
  | some r =>
      have htag := find_tag h
      rw [cutRecord, h]
      dsimp only
      split
      · have hr : ∃ x, (immediateStop r s).find tag = some x := by
          have hm : (immediateStop r s).find tag =
              (((outputsOf r.axis).foldl forceImmediate s).find tag).map
                (fun x => if x.tag = r.tag then { x with dPrev := 0 } else x) :=
            find_onRecord _ tag fun _ h => h
          have hs : ((outputsOf r.axis).foldl forceImmediate s).find tag = s.find tag := by
            rw [State.find, foldl_keeps State.motion (f := forceImmediate) fun _ _ => rfl]
            rfl
          rw [hm, hs, h]
          exact ⟨_, rfl⟩
        obtain ⟨x, hx⟩ := hr
        rw [endRecord_motion res hx]
        subst htag
        exact immediateStop_filter r s
      · rw [endRecord_motion res h]

/-- Cuts leave exactly the records whose tags they do not name. -/
theorem foldl_cutRecord_filter (res : Result) : ∀ (l : List Nat) (s : State),
    (l.foldl (cutRecord res) s).motion.records = s.motion.records.filter (fun r => r.tag ∉ l)
  | [], s => by simp
  | t :: l, s => by
      rw [List.foldl_cons, foldl_cutRecord_filter res l, cutRecord_records, List.filter_filter]
      refine List.filter_congr fun r _ => ?_
      simp [Bool.and_comm]

theorem GrantEffects.foldl_cutRecord (res : Result) (l : List Nat) (s : State) :
    GrantEffects s (l.foldl (Machine.cutRecord res) s) := GrantEffects.foldl (GrantEffects.cutRecord res) l s

/-- R129: from the hold on, a finding makes only changes of ends. -/
theorem raiseFaults_grants (l : List Axis) (k : FaultKind) (pos : Axis → Option Int) (s : State) :
    GrantEffects (heldForFault (freshAxes l s) k pos s) (raiseFaults l k pos s) := by
  rw [raiseFaults_eq]
  exact .asOneEvent (.foldl_cutRecord .fault _ _)

theorem raised_grants (l : List Axis) (k : FaultKind) (pos : Axis → Option Int) (s : State) :
    GrantEffects (heldForFault (freshAxes l s) k pos s) (settle (raiseFaults l k pos s)) :=
  (raiseFaults_grants l k pos s).trans (GrantEffects.settle _)

/-- R129: a finding leaves no record that claims an axis which it latched. -/
theorem raiseFaults_unclaimed {l : List Axis} {k : FaultKind} {pos : Axis → Option Int} {s : State} {a : Axis}
    (ha : a ∈ freshAxes l s) : (raiseFaults l k pos s).Unclaimed a := by
  rw [raiseFaults_eq]
  intro r hr
  have hr' : r ∈ (((faultVictims (freshAxes l s) (heldForFault (freshAxes l s) k pos s)).foldl (cutRecord .fault)
      (heldForFault (freshAxes l s) k pos s)).motion.records) := hr
  rw [foldl_cutRecord_filter, List.mem_filter] at hr'
  obtain ⟨hm, hv⟩ := hr'
  refine Bool.eq_false_iff.2 fun hc => of_decide_eq_true hv (List.mem_map.2 ⟨r, List.mem_filter.2 ⟨hm, ?_⟩, rfl⟩)
  exact Bool.or_eq_true_iff.2 (.inl (List.any_eq_true.2 ⟨a, ha, hc⟩))

theorem mem_freshAxes {l : List Axis} {s : State} {a : Axis} : a ∈ freshAxes l s ↔ a ∈ l ∧ s.faulted a = false := by
  simp [freshAxes]

/-- R127 to R129: what a finding leaves of an axis that it latches. -/
theorem raised_latched {l : List Axis} (k : FaultKind) (pos : Axis → Option Int) {s : State} {a : Axis} (ha : a ∈ l)
    (hf : s.faulted a = false) : Latched a k (pos a) s (settle (raiseFaults l k pos s)) := by
  have hfresh : a ∈ freshAxes l s := mem_freshAxes.2 ⟨ha, hf⟩
  have he := raised_grants l k pos s
  refine ⟨?_, (GrantEffects.settle _).unclaimed (raiseFaults_unclaimed hfresh), fun o ho =>
    he.out_holds heldByFault_kept o (heldForFault_out k pos s hfresh ho)⟩
  rw [he.listChange.axis, heldForFault_axis, if_pos hfresh]

/-- R128: a finding leaves the records of the other axes. -/
theorem raised_keptAxes (l : List Axis) (k : FaultKind) (pos : Axis → Option Int) (s : State) :
    KeptAxes l s (settle (raiseFaults l k pos s)) := by
  intro b _ hb
  rw [(raised_grants l k pos s).listChange.axis, heldForFault_axis, if_neg fun h => hb (mem_freshAxes.1 h).1]

/-- R128, R130: an axis that is faulted already keeps its record. -/
theorem raised_faulted {l : List Axis} (k : FaultKind) (pos : Axis → Option Int) {s : State} {a : Axis}
    (hf : s.faulted a = true) : (settle (raiseFaults l k pos s)).motion.axis.get a = s.motion.axis.get a := by
  rw [(raised_grants l k pos s).listChange.axis, heldForFault_axis, if_neg]
  exact fun h => Bool.false_ne_true ((mem_freshAxes.1 h).2.symm.trans hf)

theorem raised_kept (l : List Axis) (k : FaultKind) (pos : Axis → Option Int) (s : State) :
    Kept s (settle (raiseFaults l k pos s)) := by
  obtain ⟨hpins, hstore, hprofile, hestop, hsupply, hbudget, hbeacon, hlamp⟩ := (raised_grants l k pos s).listChange.kept
  have hk {β : Type} (g : State → β) (hg : ∀ k pos s a, g (latchFault k pos s a) = g s)
      (hf : ∀ s o, g (forceFault s o) = g s) := heldForFault_keeps g hg hf (freshAxes l s) k pos s
  exact ⟨hpins.trans (hk State.pins (fun _ _ _ _ => rfl) fun _ _ => rfl),
    hstore.trans (hk State.store (fun _ _ _ _ => rfl) fun _ _ => rfl),
    hprofile.trans (hk State.profile (fun _ _ _ _ => rfl) fun _ _ => rfl),
    hestop.trans (hk (fun s => s.motion.estop) (fun _ _ _ _ => rfl) fun _ _ => rfl),
    hsupply.trans (hk (fun s => s.motion.supply) (fun _ _ _ _ => rfl) fun _ _ => rfl),
    hbudget.trans (hk (fun s => s.motion.budget) (fun _ _ _ _ => rfl) fun _ _ => rfl),
    hbeacon.trans (hk (fun s => s.beacon.channel) (fun _ _ _ _ => rfl) fun _ _ => rfl),
    hlamp.trans (hk (fun s => s.drive.lamp) (fun _ _ _ _ => rfl) fun _ _ => rfl)⟩

theorem raised_clock (l : List Axis) (k : FaultKind) (pos : Axis → Option Int) (s : State) :
    (settle (raiseFaults l k pos s)).clock = s.clock :=
  (raised_grants l k pos s).listChange.clock.trans
    (heldForFault_keeps State.clock (fun _ _ _ _ => rfl) (fun _ _ => rfl) (freshAxes l s) k pos s)

theorem raised_verdict (l : List Axis) (k : FaultKind) (pos : Axis → Option Int) (s : State) (c : Channel) :
    ((settle (raiseFaults l k pos s)).sense.get c).verdict = (s.sense.get c).verdict :=
  ((raised_grants l k pos s).verdict c).trans
    (heldForFault_keeps (fun s => (s.sense.get c).verdict) (fun _ _ _ _ => rfl) (fun _ _ => rfl) (freshAxes l s) k pos s)

/-- R128: the AXIS_FAULT notice of a single axis stands next in the queue, where it has room. -/
theorem raised_notice (k : FaultKind) (pos : Axis → Option Int) {s : State} {a : Axis} (hf : s.faulted a = false)
    (hq : s.link.notices.length < 16) :
    (s.link.notices ++ [.axisFault a k]) <+: (settle (raiseFaults [a] k pos s)).link.notices := by
  have hfresh : freshAxes [a] s = [a] := List.filter_eq_self.2 (by simp [hf])
  have hn := (raised_grants [a] k pos s).listChange.notices
  rw [hfresh, heldForFault, foldl_keeps State.link (f := forceFault) fun _ _ => rfl] at hn
  have hl : ([a].foldl (fun s a => latchFault k (pos a) s a) s).link.notices = s.link.notices ++ [.axisFault a k] := by
    rw [List.foldl_cons, List.foldl_nil, latchFault, appendNotice_notices]
    exact if_pos hq
  rwa [hl] at hn

/-- R130: a finding that finds every axis faulted latches nothing. -/
theorem raised_none {l : List Axis} (k : FaultKind) (pos : Axis → Option Int) {s : State}
    (hf : ∀ a ∈ l, s.faulted a = true) (hd : s.motion.attemptsDue = 0) : settle (raiseFaults l k pos s) = s := by
  have hfresh : freshAxes l s = [] := List.filter_eq_nil_iff.2 fun a ha => by simp [hf a ha]
  have hv : faultVictims [] s = [] := by simp [faultVictims]
  have hr : raiseFaults l k pos s = s := by
    rw [raiseFaults_eq, hfresh]
    change s.asOneEvent (fun t => (faultVictims [] t).foldl (cutRecord .fault) t) = s
    rw [State.asOneEvent, hv]
    have hm : min s.motion.attemptsDue (s.motion.attemptsDue + 1) = s.motion.attemptsDue := Nat.min_eq_left (Nat.le_succ _)
    rw [List.foldl_nil, State.onMotion, hm]
  rw [hr, settle_of_settled hd]

end Sys2Proof.Machine

namespace Sys2Proof.Machine

/-! ### Findings on axes and drive outputs (R86, R14, R127, R147, R148) -/

/-- R86: STALL is raised at the clock's time or later, over the state otherwise as it stands. -/
theorem exec_stall {s : State} {a : Axis} {r : Record} (hm : s.mover a = some r) (hst : r.state = .moving) :
    ∃ now, exec (.stall a) s = .next (settle (raiseFaults [a] .stall s.position { s with clock := now })) := by
  change ∃ now, execStall a s = _
  rw [execStall, hm]
  dsimp only
  rw [if_pos hst]
  cases r.stall with
  | some w => exact ⟨max s.clock (w.since + Config.stallLimit), rfl⟩
  | none => exact ⟨s.clock, rfl⟩

/-- R147, R139: an OPEN count of 0 stands, also under a force. -/
theorem openCount_kept : KeptByGrants fun r => r.openCount = 0 where
  claim _ _ h := h
  release _ h := h
  force _ _ _ _ := rfl
  stage _ _ _ _ h _ := h

/-- R148: forces, claims, releases and stagings leave the ECHO count and the latest echo. -/
theorem echo_kept (n : Nat) (m : Bool) : KeptByGrants fun r => r.echoCount = n ∧ r.echoMatch = m where
  claim _ _ h := h
  release _ h := h
  force _ _ _ h := h
  stage _ _ _ _ h _ := h

theorem raised_out_holds {p : DriveRecord → Prop} (hp : KeptByGrants p)
    (hh : ∀ (s : State) (o : DriveOut) (r : DriveRecord), p r →
      p { s.turnedOff o r with force := { r.force with faultHold := true } })
    (l : List Axis) (k : FaultKind) (pos : Axis → Option Int) {s : State} {o : DriveOut} (h : p (s.drive.out.get o)) :
    p ((settle (raiseFaults l k pos s)).drive.out.get o) :=
  (raised_grants l k pos s).out_holds hp o (heldForFault_out_holds hh _ k pos h)

/-- R127, R128: a finding on a drive output whose own record has changed. -/
theorem driveFinding_spec (o : DriveOut) (k : FaultKind) (s : State) (f : DriveRecord → DriveRecord) :
    KeptAxes (axesOf o) s (driveFinding o k (s.onOut o f)) ∧ Kept s (driveFinding o k (s.onOut o f))
      ∧ ∀ a ∈ axesOf o, s.faulted a = false → Latched a k (s.position a) s (driveFinding o k (s.onOut o f)) :=
  ⟨raised_keptAxes (axesOf o) k s.position (s.onOut o f), raised_kept (axesOf o) k s.position (s.onOut o f),
    fun _ ha hf => raised_latched (s := s.onOut o f) k s.position ha hf⟩

theorem kept_trans {s t u : State} (h : Kept s t) (h' : Kept t u) : Kept s u := by
  obtain ⟨hpins, hstore, hprofile, hestop, hsupply, hbudget, hbeacon, hlamp⟩ := h
  rwa [Kept, hpins, hstore, hprofile, hestop, hsupply, hbudget, hbeacon, hlamp] at h'

/-- R130: a finding on a drive output each of whose axes is faulted. -/
theorem driveFinding_none {o : DriveOut} (k : FaultKind) {s : State} (f : DriveRecord → DriveRecord)
    (hd : s.motion.attemptsDue = 0) (hall : ∀ a ∈ axesOf o, s.faulted a = true) :
    driveFinding o k (s.onOut o f) = s.onOut o f :=
  raised_none (s := s.onOut o f) k s.position hall hd

/-- R127 to R129: what a finding on one axis with no fault does, told over an earlier state with the same records, faults
and link. -/
theorem raised_one (k : FaultKind) (pos : Axis → Option Int) {s s1 : State} {a : Axis}
    (hr : s1.motion.records = s.motion.records) (hs : s1.faulted a = s.faulted a) (hax : KeptAxes [a] s s1)
    (hl : s1.link = s.link) (hk : Kept s s1) (hf : s.faulted a = false) :
    let t := settle (raiseFaults [a] k pos s1)
    Latched a k (pos a) s t ∧ KeptAxes [a] s t ∧ Kept s t
      ∧ (s.link.notices.length < 16 → (s.link.notices ++ [.axisFault a k]) <+: t.link.notices) := by
  have hf1 : s1.faulted a = false := hs.trans hf
  have hlat := raised_latched k pos (List.mem_singleton_self a) hf1
  have hn := raised_notice k pos hf1
  have hc : s1.claimant a = s.claimant a := by rw [State.claimant, State.claimant, hr]
  rw [Latched, hc] at hlat
  rw [hl] at hn
  exact ⟨hlat, fun b hb hba => (raised_keptAxes [a] k pos s1 b hb hba).trans (hax b hb hba),
    kept_trans hk (raised_kept [a] k pos s1), hn⟩

/-- R14: a third disagreement, raised by its own row. -/
theorem disagreed_spec (a : Axis) {s : State} (hf : s.faulted a = false) :
    let t := execSensorDisagree.disagreed a s
    Latched a .sensorDisagree none s t ∧ (t.sense.get (.axis a)).disagree = 0 ∧ KeptAxes [a] s t ∧ Kept s t
      ∧ (s.link.notices.length < 16 → (s.link.notices ++ [.axisFault a .sensorDisagree]) <+: t.link.notices) := by
  obtain ⟨hl, hax, hk, hn⟩ := raised_one .sensorDisagree (fun _ => none) (s := s)
    (s1 := s.onChannel (.axis a) (fun ch => { ch with disagree := 0, clearable := false })) rfl rfl (fun _ _ _ => rfl) rfl
    ⟨rfl, rfl, rfl, rfl, rfl, rfl, rfl, rfl⟩ hf
  refine ⟨hl, ?_, hax, hk, hn⟩
  refine (congrArg Prod.fst (raised_verdict [a] .sensorDisagree (fun _ => none) _ (.axis a))).trans ?_
  change (SenseChannel.disagree _) = 0
  rw [State.onChannel_sense, PerChannel.get_set_self]

/-! ### Findings on lamp outputs (R60, R61, R161) -/

/-- R161: the state in which a lamp finding has latched, with an OPEN or ECHO count set back by `f`. -/
theorem lampFinding_spec (l : Lamp) (k : LampFault) {s : State} (f : LampRecord → LampRecord)
    (hf : s.lampFaulted l = false) (hq : s.link.notices.length < 16) :
    let t := lampFinding l k (s.onLampOut l f)
    (t.beacon.channel.get l).fault = some k ∧ t.link.notices = s.link.notices ++ [.beaconFault l k]
      ∧ t.drive.lamp.get l = f (s.drive.lamp.get l)
      ∧ t.motion.records = s.motion.records.map (fun r =>
          if l = .b2 ∧ r.state = .prewarn ∧ r.axis = .rdoor then { r with road := false } else r)
      ∧ t.motion.axis = s.motion.axis ∧ t.drive.out = s.drive.out := by
  have ht : (s.onLampOut l f).lampFaulted l = false := hf
  intro t
  have hr : t = appendNotice (.beaconFault l k)
      (if l = .b2 then loseRoadMarks ((s.onLampOut l f).onLamp l (fun b => { b with fault := some k }))
       else (s.onLampOut l f).onLamp l (fun b => { b with fault := some k })) := by
    change lampFinding l k (s.onLampOut l f) = _
    rw [lampFinding, ht]
    rfl
  rw [hr, appendNotice_notices]
  by_cases hb : l = .b2
  · subst hb
    refine ⟨rfl, if_pos hq, rfl, ?_, rfl, rfl⟩
    exact List.map_congr_left fun r _ => by simp
  · simp only [if_neg hb]
    refine ⟨?_, if_pos hq, ?_, ?_, rfl, rfl⟩
    · exact congrArg Beacon.fault (PerLamp.get_set_self ..)
    · exact PerLamp.get_set_self ..
    · exact ((List.map_congr_left fun r _ => by simp [hb]).trans (List.map_id _)).symm

theorem lampFinding_faulted {l : Lamp} (k : LampFault) {s : State} (h : s.lampFaulted l = true) : lampFinding l k s = s :=
  if_pos h

/-- Settles O29. -/
theorem findingsLatchOnTheirAxes : Obligations.FindingsLatchOnTheirAxes := by
  refine ⟨fun s a r hm hst hf => ?_, fun s a ha hf => ?_, fun s o => ⟨?_, ?_, fun hd hall => ⟨?_, ?_⟩⟩,
    fun s l => ⟨fun hf hq => ⟨?_, ?_⟩, fun hf => ⟨?_, ?_⟩⟩⟩
  · obtain ⟨now, hx⟩ := exec_stall hm hst
    exact ⟨_, hx, raised_one .stall s.position (s1 := { s with clock := now }) rfl rfl (fun _ _ _ => rfl) rfl
      ⟨rfl, rfl, rfl, rfl, rfl, rfl, rfl, rfl⟩ hf⟩
  · have hx : exec (.sensorDisagree (.axis a)) s = .next (execSensorDisagree.disagreed a s) := by
      obtain rfl | rfl := ha <;> rfl
    exact ⟨_, hx, disagreed_spec a hf⟩
  · obtain ⟨hax, hk, hl⟩ := driveFinding_spec o .loadOpen s (fun r => { r with openCount := 0 })
    refine ⟨_, rfl, ?_, hax, hk, hl⟩
    refine raised_out_holds openCount_kept (fun _ _ _ _ => rfl) _ _ _ ?_
    rw [onOut_get, if_pos rfl]
  · obtain ⟨hax, hk, hl⟩ := driveFinding_spec o .echo s (fun r => { r with echoMatch := false, echoCount := 0 })
    have hz := raised_out_holds (s := s.onOut o (fun r => { r with echoMatch := false, echoCount := 0 })) (o := o)
      (echo_kept 0 false) (fun _ _ _ h => h) (axesOf o) .echo s.position (by rw [onOut_get, if_pos rfl]; exact ⟨rfl, rfl⟩)
    exact ⟨_, rfl, hz.1, hz.2, hax, hk, hl⟩
  · exact congrArg Host.Outcome.next (driveFinding_none .loadOpen _ hd hall)
  · exact congrArg Host.Outcome.next (driveFinding_none .echo _ hd hall)
  · exact ⟨lampFinding l .open (s.onLampOut l (fun r => { r with openCount := 0 })), rfl, lampFinding_spec l .open _ hf hq⟩
  · exact ⟨lampFinding l .echo (s.onLampOut l (fun r => { r with echoMatch := false, echoCount := 0 })), rfl, lampFinding_spec l .echo _ hf hq⟩
  · exact congrArg Host.Outcome.next
      (lampFinding_faulted (s := s.onLampOut l (fun r => { r with openCount := 0 })) .open hf)
  · exact congrArg Host.Outcome.next
      (lampFinding_faulted (s := s.onLampOut l (fun r => { r with echoMatch := false, echoCount := 0 })) .echo hf)

end Sys2Proof.Machine

namespace Sys2Proof.Machine

/-! ### Samples of the axis channels (R9 to R17) -/

theorem marginClamp_eq (s : State) (a : Axis) (u : Int) : marginClamp (s.limits a) u = s.withinMargin a u := rfl

theorem inRange_iff (k : ChannelCal) (c : Int) : k.inRange c = true ↔ k.clo ≤ c ∧ c ≤ k.chi := by
  simp [ChannelCal.inRange]

/-- R9: the code c that gives the value of the sample which this conversion of an axis channel completes. -/
abbrev State.Codes (s : State) (a : Axis) (cv : Conversion) (code : RawCode) (c : Int) : Prop :=
  dualTrack s.profile.calibration (.axis a) = none ∧ codeValue cv.mode code = c
    ∨ (dualTrack s.profile.calibration (.axis a)).isSome = true ∧ cv.primary = some c

/-- R5: the code that a conversion gives for the alternate track, where the channel has one. -/
def State.alternateCode (s : State) (a : Axis) (cv : Conversion) (code : RawCode) : Option Int :=
  (dualTrack s.profile.calibration (.axis a)).map fun _ => codeValue cv.mode code

/-- R10 to R14: the sample that completes a conversion with the code c. -/
def State.sampleOf (s : State) (a : Axis) (cv : Conversion) (code : RawCode) (c : Int) : Sample :=
  axisSample s a cv.trigger c (s.alternateCode a cv code)

/-- R5, R9: a completed conversion delivers its sample 25 µs, or on a dual-track channel 50 µs, after its start or
later. -/
theorem exec_axisSample {s : State} {a : Axis} {cv : Conversion} {code : RawCode} {c : Int}
    (hc : (s.sense.get (.axis a)).conversion = some cv) (hv : s.Codes a cv code c) :
    exec (.conversionComplete (.axis a) code) s =
      .next (deliverAxis a (s.sampleOf a cv code c)
        (s.upTo (cv.began + if (dualTrack s.profile.calibration (.axis a)).isSome then 50 else 25))) := by
  obtain ⟨hd, rfl⟩ | ⟨hd, hp⟩ := hv
  · rw [exec_conversionComplete_of_single code hd hc, State.sampleOf, State.alternateCode, hd]
    rfl
  · obtain ⟨x, hx⟩ := Option.isSome_iff_exists.1 hd
    change execConversionComplete (.axis a) code s = _
    rw [execConversionComplete, hc]
    dsimp only
    rw [State.sampleOf, State.alternateCode, hx, hp]
    rfl

theorem sampleOf_trigger (s : State) (a : Axis) (cv : Conversion) (code : RawCode) (c : Int) :
    (s.sampleOf a cv code c).trigger = cv.trigger := by
  unfold State.sampleOf axisSample
  dsimp only
  split
  · rfl
  · split <;> rfl

theorem sampleOf_primary (s : State) (a : Axis) (cv : Conversion) (code : RawCode) (c : Int) :
    (s.sampleOf a cv code c).primary = c := by
  unfold State.sampleOf axisSample
  dsimp only
  split
  · rfl
  · split <;> rfl

theorem sampleOf_alternate (s : State) (a : Axis) (cv : Conversion) (code : RawCode) (c : Int) :
    (s.sampleOf a cv code c).alternate = s.alternateCode a cv code := by
  unfold State.sampleOf axisSample
  dsimp only
  split
  · rfl
  · split <;> rfl

/-- R10: what a sample whose code fails the range check gives. -/
theorem sampleOf_bad {s : State} {a : Axis} {c : Int} (cv : Conversion) (code : RawCode)
    (h : (s.profile.calibration.channel.get (.axis a)).inRange c = false) :
    (s.sampleOf a cv code c).range = true ∧ (s.sampleOf a cv code c).value = none
      ∧ (s.sampleOf a cv code c).count = (s.sense.get (.axis a)).disagree := by
  unfold State.sampleOf axisSample
  simp [h]

/-- R13: whether the alternate code of a sample in range disagrees with its value u. -/
def State.alternateDisagrees (s : State) (a : Axis) (cv : Conversion) (code : RawCode) (u : Int) : Bool :=
  (dualTrack s.profile.calibration (.axis a)).any fun x =>
    disagrees (s.profile.calibration.channel.get (.axis a)) (s.limits a) x.1 x.2 u (codeValue cv.mode code)

theorem alternateDisagrees_iff (s : State) (a : Axis) (cv : Conversion) (code : RawCode) (u : Int) :
    s.alternateDisagrees a cv code u = false ↔
      ∀ alt tol, dualTrack s.profile.calibration (.axis a) = some (alt, tol) →
        disagrees (s.profile.calibration.channel.get (.axis a)) (s.limits a) alt tol u (codeValue cv.mode code) = false := by
  unfold State.alternateDisagrees
  cases dualTrack s.profile.calibration (.axis a) with
  | none => simp
  | some x =>
      obtain ⟨alt, tol⟩ := x
      simp

/-- R11, R13: what a sample in range gives. -/
theorem sampleOf_good {s : State} {a : Axis} {c : Int} (cv : Conversion) (code : RawCode)
    (h : (s.profile.calibration.channel.get (.axis a)).inRange c = true) :
    let u := (s.profile.calibration.channel.get (.axis a)).points.scale c
    let v := s.withinMargin a u
    let n := (s.sense.get (.axis a)).disagree
    let d := s.alternateDisagrees a cv code v
    (s.sampleOf a cv code c).range = false ∧ (s.sampleOf a cv code c).value = some v
      ∧ (s.sampleOf a cv code c).beyond = (v != u) ∧ (s.sampleOf a cv code c).disagreeing = d
      ∧ (s.sampleOf a cv code c).latched = (d && decide (2 ≤ n))
      ∧ (s.sampleOf a cv code c).count =
        if (dualTrack s.profile.calibration (.axis a)).isSome then (if d then (if 2 ≤ n then 0 else n + 1) else 0) else n := by
  unfold State.sampleOf axisSample State.alternateDisagrees State.alternateCode
  simp only [h, marginClamp_eq]
  cases dualTrack s.profile.calibration (.axis a) with
  | none => simp
  | some x =>
      simp
      rfl

/-- R9: what the rest of a delivery leaves of a sample that has been taken. -/
structure SampleKept (a : Axis) (s t : State) : Prop where
  clock : t.clock = s.clock
  position : t.position a = s.position a
  rawCode : (t.motion.axis.get a).rawCode = (s.motion.axis.get a).rawCode
  others : KeptAxes [a] s t
  verdict : (t.sense.get (.axis a)).verdict = (s.sense.get (.axis a)).verdict
  kept : Kept s t

theorem axis_of_mover {s : State} {a : Axis} {r : Record} (h : s.mover a = some r) : r.axis = a := by
  have hp := List.find?_some h
  exact of_decide_eq_true (Bool.and_eq_true_iff.1 hp).1

namespace SampleKept

theorem refl (a : Axis) (s : State) : SampleKept a s s :=
  ⟨rfl, rfl, rfl, fun _ _ _ => rfl, rfl, rfl, rfl, rfl, rfl, rfl, rfl, rfl, rfl⟩

theorem trans {a : Axis} {s t u : State} (h : SampleKept a s t) (k : SampleKept a t u) : SampleKept a s u where
  clock := k.clock.trans h.clock
  position := k.position.trans h.position
  rawCode := k.rawCode.trans h.rawCode
  others b hb hba := (k.others b hb hba).trans (h.others b hb hba)
  verdict := k.verdict.trans h.verdict
  kept := kept_trans h.kept k.kept

/-- A change of the motion list keeps a sample. -/
theorem of_list (a : Axis) {s t : State} (h : ListEffects s t) : SampleKept a s t where
  clock := h.listChange.clock
  position := h.listChange.position a
  rawCode := by rw [h.listChange.axis]
  others _ _ _ := by rw [h.listChange.axis]
  verdict := by
    induction h with
    | refl => rfl
    | tail _ e ih =>
        refine Eq.trans ?_ ih
        cases e with
        | grant h => exact h.verdict _
        | rewrite => rfl
  kept := h.listChange.kept

theorem settled {a : Axis} {s t : State} (h : SampleKept a s t) : SampleKept a s (settle t) :=
  h.trans (of_list a (.settle t))

/-- R128: a finding keeps the position and the raw code of its axis. -/
theorem raised (a : Axis) (k : FaultKind) (pos : Axis → Option Int) (s : State) :
    SampleKept a s (settle (raiseFaults [a] k pos s)) := by
  have hax : ∃ f, (settle (raiseFaults [a] k pos s)).motion.axis.get a = { s.motion.axis.get a with fault := f } := by
    rw [(raised_grants [a] k pos s).listChange.axis, heldForFault_axis]
    split
    · exact ⟨_, rfl⟩
    · exact ⟨(s.motion.axis.get a).fault, rfl⟩
  obtain ⟨f, hax⟩ := hax
  exact ⟨raised_clock [a] k pos s, (congrArg AxisRecord.position hax).trans rfl,
    (congrArg AxisRecord.rawCode hax).trans rfl,
    raised_keptAxes [a] k pos s, raised_verdict [a] k pos s _, raised_kept [a] k pos s⟩

theorem movingUpdate (r : Record) (s : State) : SampleKept r.axis s (Machine.settle (movingUpdate r s)) := by
  unfold Machine.movingUpdate
  split
  · exact settled (refl _ s)
  · next p _ =>
      split
      · exact settled (of_list _ (.stopAtUpdate r .interlock s))
      split
      · exact settled (of_list _ (.arrive r s))
      split
      · exact settled (of_list _ (.stopAtUpdate r .limited s))
      split
      · exact raised r.axis .stall s.position s
      · exact settled (of_list _ ((ListEffects.record s r.tag).trans (ListEffects.driveRecord r p _)))

/-- R9 stage 3: the control update of an axis keeps the sample that it follows. -/
theorem controlUpdate (a : Axis) (s : State) : SampleKept a s (Machine.settle (controlUpdate a s)) := by
  unfold Machine.controlUpdate
  split
  · exact settled (refl _ s)
  · next r hm =>
      have hr : r.axis = a := axis_of_mover hm
      subst hr
      cases r.state with
      | moving => exact movingUpdate r s
      | stopping => exact settled (of_list _ (.rampDown r s))
      | starting => exact settled (refl _ s)
      | waiting => exact settled (refl _ s)
      | prewarn => exact settled (refl _ s)
      | paused => exact settled (refl _ s)

/-- R9: what follows the taking of a sample keeps it. -/
theorem delivered (a : Axis) (sm : Sample) (s : State) : SampleKept a (takeSample a sm s) (deliverAxis a sm s) := by
  unfold deliverAxis
  dsimp only
  split
  · next k pos _ => exact raised a k (fun _ => pos) _
  · cases sm.trigger with
    | freeRunning => exact refl a _
    | synchronised => exact controlUpdate a _
    | snapshot => exact of_list a (.goodSnapshot a _)

end SampleKept

/-! ### The taking of a sample (R9 stage 1) -/

section Taken

variable (a : Axis) (sm : Sample) (s : State)

theorem takeSample_axis : (takeSample a sm s).motion.axis.get a =
    { s.motion.axis.get a with position := sm.value, rawCode := some sm.primary } := PerAxis.get_set_self ..

theorem takeSample_keptAxes : KeptAxes [a] s (takeSample a sm s) := fun _ _ hb =>
  PerAxis.get_set_of_ne _ _ _ _ fun h => hb (List.mem_singleton.2 h)

theorem takeSample_kept : Kept s (takeSample a sm s) := ⟨rfl, rfl, rfl, rfl, rfl, rfl, rfl, rfl⟩

theorem takeSample_faulted : (takeSample a sm s).faulted a = s.faulted a := by
  rw [State.faulted, takeSample_axis]
  rfl

theorem takeSample_channel : (takeSample a sm s).sense.get (.axis a) =
    { s.sense.get (.axis a) with
      code := some sm.primary, alternate := sm.alternate.or (s.sense.get (.axis a)).alternate
      value := sm.value.or (s.sense.get (.axis a)).value, valid := sm.value.isSome, disagree := sm.count
      conversion := none, clearable := !sm.range && !sm.disagreeing && !sm.beyond } := by
  rw [takeSample, State.onAxis_sense, State.onChannel_sense, PerChannel.get_set_self]

theorem takeSample_motion : (takeSample a sm s).motion =
    { s.motion with
      axis := s.motion.axis.set a { s.motion.axis.get a with position := sm.value, rawCode := some sm.primary } } := rfl

/-- R15: a sample that raises a fault does nothing else. -/
theorem deliverAxis_raises {k : FaultKind} {pos : Option Int}
    (h : sampleFault (takeSample a sm s) a sm = some (k, pos)) :
    deliverAxis a sm s = settle (raiseFaults [a] k (fun _ => pos) (takeSample a sm s)) := by
  rw [deliverAxis, h]

/-- R6: a free-running sample that raises no fault is only taken. -/
theorem deliverAxis_freeRunning (h : sampleFault (takeSample a sm s) a sm = none) (ht : sm.trigger = .freeRunning) :
    deliverAxis a sm s = takeSample a sm s := by
  rw [deliverAxis, h, ht]

/-- R8: a snapshot that raises no fault is a good one. -/
theorem deliverAxis_snapshot (h : sampleFault (takeSample a sm s) a sm = none) (ht : sm.trigger = .snapshot) :
    deliverAxis a sm s = goodSnapshot a (takeSample a sm s) := by
  rw [deliverAxis, h, ht]

/-- R15: a fault that the sample raises latches on its axis, if that has none. -/
theorem deliverAxis_faults {k : FaultKind} {pos : Option Int} (h : sampleFault (takeSample a sm s) a sm = some (k, pos))
    (hf : s.faulted a = false) :
    Latched a k pos s (deliverAxis a sm s) ∧ KeptAxes [a] s (deliverAxis a sm s) ∧ Kept s (deliverAxis a sm s)
      ∧ (s.link.notices.length < 16 → (s.link.notices ++ [.axisFault a k]) <+: (deliverAxis a sm s).link.notices) := by
  rw [deliverAxis_raises a sm s h]
  exact raised_one k (fun _ => pos) rfl (takeSample_faulted a sm s) (takeSample_keptAxes a sm s) rfl
    (takeSample_kept a sm s) hf

end Taken

section Delivered

variable {s t : State} {a : Axis} {cv : Conversion} {code : RawCode} {c : Int} {now : Nat}

/-- R9 to R11, R16: what every delivery gives, whatever triggered it. -/
theorem delivered_spec (ht : t = deliverAxis a (s.sampleOf a cv code c) (s.upTo now)) :
    let k := s.profile.calibration.channel.get (.axis a)
    let u := k.points.scale c
    t.clock = max s.clock now ∧ t.position a = (if k.inRange c = true then some (s.withinMargin a u) else none)
      ∧ (t.motion.axis.get a).rawCode = some c ∧ KeptAxes [a] s t
      ∧ ((t.sense.get (.axis a)).clearable = true ↔
        k.inRange c = true ∧ s.withinMargin a u = u ∧ s.alternateDisagrees a cv code (s.withinMargin a u) = false)
      ∧ (t.sense.get (.axis a)).disagree = (s.sampleOf a cv code c).count := by
  subst ht
  intro k u
  have hk := SampleKept.delivered a (s.sampleOf a cv code c) (s.upTo now)
  have hax := takeSample_axis a (s.sampleOf a cv code c) (s.upTo now)
  have hch := takeSample_channel a (s.sampleOf a cv code c) (s.upTo now)
  have hverdict := hk.verdict
  rw [hch] at hverdict
  refine ⟨hk.clock, ?_, ?_, fun b hb hba => ?_, ?_, congrArg Prod.fst hverdict⟩
  · rw [hk.position, State.position, hax]
    by_cases hr : k.inRange c = true
    · rw [if_pos hr]
      exact (sampleOf_good cv code hr).2.1
    · rw [if_neg hr]
      exact (sampleOf_bad cv code (Bool.eq_false_iff.2 hr)).2.1
  · rw [hk.rawCode, hax]
    exact congrArg some (sampleOf_primary s a cv code c)
  · exact (hk.others b hb hba).trans (takeSample_keptAxes a _ (s.upTo now) b hb hba)
  · have hclear : ((deliverAxis a (s.sampleOf a cv code c) (s.upTo now)).sense.get (.axis a)).clearable =
        (!(s.sampleOf a cv code c).range && !(s.sampleOf a cv code c).disagreeing && !(s.sampleOf a cv code c).beyond) :=
      congrArg Prod.snd hverdict
    rw [hclear]
    by_cases hr : k.inRange c = true
    · obtain ⟨hrange, -, hbeyond, hdis, -, -⟩ := sampleOf_good cv code hr
      rw [hrange, hbeyond, hdis]
      simp [hr, and_comm]
      rfl
    · obtain ⟨hrange, -, -⟩ := sampleOf_bad cv code (Bool.eq_false_iff.2 hr)
      simp [hrange, hr]

end Delivered

/-- R15: a fault that a sample in range raises (notes/assumptions/9.md orders them). -/
theorem sampleFault_range {s1 : State} {sm : Sample} (a : Axis) (h : sm.range = true) :
    sampleFault s1 a sm = some (.sensorRange, none) := if_pos h

theorem sampleFault_disagree {s1 : State} {sm : Sample} (a : Axis) (h : sm.range = false) (hl : sm.latched = true) :
    sampleFault s1 a sm = some (.sensorDisagree, none) := by
  rw [sampleFault, if_neg (by simp [h]), if_pos hl]

theorem sampleFault_beyond {s1 : State} {sm : Sample} {a : Axis} (h : sm.range = false) (hl : sm.latched = false)
    (hb : sm.beyond = true) (hm : (s1.mover a).isSome = true) : sampleFault s1 a sm = some (.overtravel, sm.value) := by
  simp [sampleFault, h, hl, hb, hm]

theorem sampleFault_none {s1 : State} {sm : Sample} {a : Axis} (h : sm.range = false) (hl : sm.latched = false)
    (hb : sm.beyond = false ∨ s1.mover a = none) : sampleFault s1 a sm = none := by
  obtain hb | hb := hb <;> simp [sampleFault, h, hl, hb]

/-- R13: a single-track channel has no alternate to disagree. -/
theorem alternateDisagrees_single {s : State} {a : Axis} (cv : Conversion) (code : RawCode) (u : Int)
    (h : dualTrack s.profile.calibration (.axis a) = none) : s.alternateDisagrees a cv code u = false := by
  rw [State.alternateDisagrees, h]
  rfl

/-- Settles O27. -/
theorem axisSamplesAreDelivered : Obligations.AxisSamplesAreDelivered := by
  intro s a code cv hc k
  refine ⟨?_, ?_⟩
  · intro c hv u
    let now := cv.began + if (dualTrack s.profile.calibration (.axis a)).isSome then 50 else 25
    obtain ⟨hclock, hpos, hraw, hax, hclear, -⟩ := delivered_spec (s := s) (a := a) (cv := cv) (code := code) (c := c)
      (now := now) rfl
    refine ⟨_, exec_axisSample hc hv, hclock, ?_, hraw, hax, ?_, fun hout hf => ?_⟩
    · rw [hpos]
      exact if_congr (inRange_iff _ c) rfl rfl
    · rw [hclear, inRange_iff, alternateDisagrees_iff]
      exact and_assoc
    · have hr : k.inRange c = false := Bool.eq_false_iff.2 fun h => by
        obtain ⟨hlo, hhi⟩ := (inRange_iff k c).1 h
        omega
      obtain ⟨hl, -, -, hn⟩ := deliverAxis_faults a _ (s.upTo now)
        (sampleFault_range a (sampleOf_bad cv code hr).1) hf
      exact ⟨hl, hn⟩
  · intro c u hd htr hlo hhi
    have hv : s.Codes a cv code c := .inl ⟨hd, rfl⟩
    have hx := exec_axisSample hc hv
    rw [hd] at hx
    obtain ⟨hrange, hvalue, hbeyond, hdis, hlat, hcount⟩ := sampleOf_good cv code ((inRange_iff k c).2 ⟨hlo, hhi⟩)
    rw [alternateDisagrees_single cv code _ hd] at hdis hlat
    refine ⟨fun hin => ?_, fun hout hm hf => ⟨_, hx, ?_⟩⟩
    · have hb : (s.sampleOf a cv code c).beyond = false ∨ s.mover a = none :=
        hin.imp_left fun h => by rw [hbeyond]; exact bne_eq_false_iff_eq.2 h
      have ht : deliverAxis a (s.sampleOf a cv code c) (s.upTo (cv.began + 25)) =
          takeSample a (s.sampleOf a cv code c) (s.upTo (cv.began + 25)) :=
        deliverAxis_freeRunning a _ _ (sampleFault_none hrange hlat hb) ((sampleOf_trigger ..).trans htr)
      refine ⟨_, hx.trans (congrArg _ ht), ?_, ?_, rfl, rfl⟩
      · rw [takeSample_motion, hvalue, sampleOf_primary]
        rfl
      · have hb' : (s.sampleOf a cv code c).beyond = !decide (s.withinMargin a u = u) := hbeyond
        rw [takeSample_channel, sampleOf_alternate, hvalue, sampleOf_primary, hrange, hdis, hb', hcount, hd,
          State.alternateCode, hd, Bool.not_not]
        rfl
    · obtain ⟨hl, -, -, hn⟩ := deliverAxis_faults a _ (s.upTo (cv.began + 25))
        (sampleFault_beyond hrange hlat (by rw [hbeyond]; exact bne_iff_ne.2 hout) hm) hf
      rw [hvalue] at hl
      exact ⟨hl, hn⟩

/-- R12: a figure leaves the counts of its channel. -/
theorem takeFigure_disagree (c : Channel) (code : Int) (v : Option Int) (s : State) :
    ((takeFigure c code v s).sense.get c).disagree = (s.sense.get c).disagree := by
  rw [takeFigure, State.onChannel_sense, PerChannel.get_set_self]

theorem deliverBattery_sense (v : Option Int) (s : State) : (deliverBattery v s).sense.battery = s.sense.battery := by
  cases v with
  | some v => exact (deliverBattery_keeps rfl).2.1
  | none =>
      obtain ⟨_, _, _, h⟩ := judgeSupply_listChange none s
      rw [deliverBattery, h.sense]
      rfl

/-- R14: a conversion of a channel that is not dual-track leaves its count. -/
theorem conversionComplete_single_disagree {s t : State} {c : Channel} {code : RawCode}
    (hd : dualTrack s.profile.calibration c = none) (hx : exec (.conversionComplete c code) s = .next t) :
    (t.sense.get c).disagree = (s.sense.get c).disagree := by
  cases hc : (s.sense.get c).conversion with
  | none =>
      have hs : exec (.conversionComplete c code) s = .next s := by
        change execConversionComplete c code s = _
        rw [execConversionComplete, hc]
      rw [hs] at hx
      cases hx
      rfl
  | some cv =>
      rw [exec_conversionComplete_of_single code hd hc] at hx
      cases hx
      cases c with
      | axis a =>
          have hs : s.sampleOf a cv code (codeValue cv.mode code) =
              axisSample s a cv.trigger (codeValue cv.mode code) none := by
            rw [State.sampleOf, State.alternateCode, hd]
            rfl
          obtain ⟨-, -, -, -, -, hcount⟩ := delivered_spec (s := s) (a := a) (cv := cv) (code := code)
            (c := codeValue cv.mode code) (now := cv.began + 25) rfl
          rw [hs] at hcount
          refine hcount.trans ?_
          rw [← hs]
          cases hr : (s.profile.calibration.channel.get (.axis a)).inRange (codeValue cv.mode code) with
          | false => exact (sampleOf_bad cv code hr).2.2
          | true =>
              obtain ⟨-, -, -, -, -, hn⟩ := sampleOf_good cv code hr
              rw [hd] at hn
              exact hn
      | pitch => exact takeFigure_disagree .pitch _ _ _
      | pressure =>
          have hsense {v : Option Int} {u : State} : (settle (judgeOverload v u)).sense.pressure = u.sense.pressure := by
            rw [((ListEffects.judgeOverload v u).listChange.trans (.settle _)).sense]
          exact (congrArg SenseChannel.disagree hsense).trans
            (takeFigure_disagree .pressure _ _ (s.upTo (cv.began + 25)))
      | battery =>
          exact (congrArg SenseChannel.disagree (deliverBattery_sense _ _)).trans (takeFigure_disagree .battery _ _ _)

/-- Settles O44. -/
theorem disagreementCountsFollowTheSamples : Obligations.DisagreementCountsFollowTheSamples := by
  refine ⟨by decide, ?_, fun s t c code hd hx => ?_⟩
  · intro s a code cv p alt tol k agrees n hd hc hp
    have hv : s.Codes a cv code p := .inr ⟨by rw [hd]; rfl, hp⟩
    have hx := exec_axisSample hc hv
    obtain ⟨hclock, -, -, -, -, hcount⟩ := delivered_spec (s := s) (a := a) (cv := cv) (code := code) (c := p)
      (now := cv.began + 50) rfl
    rw [hd] at hx
    have hdis : s.alternateDisagrees a cv code (s.withinMargin a (k.points.scale p)) = !agrees := by
      rw [State.alternateDisagrees, hd]
      exact (Bool.not_not _).symm
    refine ⟨_, hx, hclock, fun hr => ?_, fun hr hag => ?_, fun hr hag hn => ?_, fun hr hag hn => ?_⟩
    · exact hcount.trans (sampleOf_bad cv code hr).2.2
    all_goals
      obtain ⟨hrange, -, -, -, hlat, hgood⟩ := sampleOf_good cv code hr
      rw [hdis, hag] at hlat hgood
      rw [hd] at hgood
    · exact hcount.trans hgood
    · exact hcount.trans (hgood.trans (if_neg (Nat.not_le.2 hn)))
    · have hfault := sampleFault_disagree (s1 := takeSample a (s.sampleOf a cv code p) (s.upTo (cv.began + 50))) a
        hrange (hlat.trans (decide_eq_true hn))
      refine ⟨hcount.trans (hgood.trans (if_pos hn)), fun hf => ?_, fun hf => ?_⟩
      · obtain ⟨hl, -, -, hn⟩ := deliverAxis_faults a _ (s.upTo (cv.began + 50)) hfault hf
        exact ⟨hl, hn⟩
      · have hf1 : (takeSample a (s.sampleOf a cv code p) (s.upTo (cv.began + 50))).faulted a = true :=
          (takeSample_faulted ..).trans hf
        have ht := deliverAxis_raises a _ _ hfault
        exact (congrArg (fun t => (t.motion.axis.get a).fault) ht).trans
          ((congrArg AxisRecord.fault ((raised_faulted _ _ hf1).trans (takeSample_axis ..))).trans rfl)
  · exact conversionComplete_single_disagree hd hx

end Sys2Proof.Machine

namespace Sys2Proof.Machine

/-! ### Commits (R199 to R201) -/

theorem appendNotice_of_room (n : Notice) {s : State} (h : s.link.notices.length < 16) :
    appendNotice n s = { s with link := { s.link with notices := s.link.notices ++ [n] } } := by
  have hl : (if s.link.notices.length < Config.noticeCapacity then { s.link with notices := s.link.notices ++ [n] }
      else { s.link with lost := true }) = { s.link with notices := s.link.notices ++ [n] } := if_pos h
  rw [appendNotice, State.onLink, hl]

/-- R200: the state at the end of a commit with no lock to set. -/
theorem endCommit_of_unlocked (failed : Option CommitStage) {s : State} (hl : s.store.lockDue = false)
    (hq : s.link.notices.length < 16) :
    endCommit failed s =
      { s with
        store := { s.store with staging := s.store.inForce, commit := .idle }
        link := { s.link with notices := s.link.notices ++ [.profileDone failed] } } := by
  rw [endCommit, appendNotice_of_room _ hq]
  exact if_neg (Bool.eq_false_iff.1 hl)

/-- R201: a lock that came during a commit is set at its end. -/
theorem endCommit_of_locked (failed : Option CommitStage) {s : State} (hl : s.store.lockDue = true) :
    (endCommit failed s).store.lock = true ∧ (endCommit failed s).store.lockDue = false
      ∧ (endCommit failed s).store.commit = .idle := by
  have he : endCommit failed s = setLock ((appendNotice (.profileDone failed) s).onStore
      (fun st => { st with commit := .idle, staging := st.inForce })) := if_pos hl
  rw [he]
  exact ⟨rfl, rfl, rfl⟩

theorem stepInTime_iff (s : State) : stepInTime s = true ↔ s.clock ≤ s.store.stepSince + 500000 := decide_eq_true_iff

theorem stepInTime_late {s : State} (h : s.store.stepSince + 500000 < s.clock) : stepInTime s = false :=
  decide_eq_false (Nat.not_le.2 h)

/-- R181, R182: a heard PROFILE-COMMIT is counted and judged. -/
theorem exec_profileCommit (tag : Byte) {s : State} (h : s.Hears) :
    exec (.profileCommit tag) s = .next (doProfileCommit tag (countGood s)) :=
  congrArg Host.Outcome.next (goodFrame_heard (doProfileCommit tag) h.1 h.2)

section Judged

variable {s : State} (tag : Byte)

theorem doProfileCommit_starting (hm : s.store.mode ≠ .run) :
    doProfileCommit tag (countGood s) = s.answered ⟨0x12, tag, .starting, []⟩ := if_pos hm

theorem doProfileCommit_busy (hm : s.store.mode = .run) (hc : s.store.commit ≠ .idle) :
    doProfileCommit tag (countGood s) = s.answered ⟨0x12, tag, .profileBusy, []⟩ :=
  (if_neg (not_not_intro hm)).trans (if_pos hc)

theorem doProfileCommit_notEmpty (hm : s.store.mode = .run) (hc : s.store.commit = .idle) (hr : s.motion.records ≠ []) :
    doProfileCommit tag (countGood s) = s.answered ⟨0x12, tag, .notEmpty, []⟩ := by
  have he : (!(countGood s).motion.records.isEmpty) = true := by
    rw [Bool.not_eq_true', List.isEmpty_eq_false_iff]
    exact hr
  exact (if_neg (not_not_intro hm)).trans ((if_neg (not_not_intro hc)).trans (if_pos he))

/-- R199: on an empty list the staging copy is judged. -/
theorem doProfileCommit_judges (hm : s.store.mode = .run) (hc : s.store.commit = .idle) (hr : s.motion.records = []) :
    (∀ r k, stagingBad s = some (r, k) →
      doProfileCommit tag (countGood s) = s.answered ⟨0x12, tag, .badProfile, byte r :: be16 k⟩)
    ∧ (stagingBad s = none → doProfileCommit tag (countGood s) = startCommit (s.answered ⟨0x12, tag, .ok, []⟩)) := by
  have hm' : (countGood s).store.mode = .run := hm
  have hc' : (countGood s).store.commit = .idle := hc
  have he : ¬(!(countGood s).motion.records.isEmpty) = true := by
    rw [Bool.not_eq_true', List.isEmpty_eq_false_iff]
    exact not_not_intro hr
  refine ⟨fun r k hb => ?_, fun hb => ?_⟩
  · have hb' : stagingBad (countGood s) = some (r, k) := hb
    rw [doProfileCommit, if_neg (not_not_intro hm'), if_neg (not_not_intro hc'), if_neg he, hb']
    rfl
  · have hb' : stagingBad (countGood s) = none := hb
    rw [doProfileCommit, if_neg (not_not_intro hm'), if_neg (not_not_intro hc'), if_neg he, hb']
    rfl

end Judged

/-! ### A new profile in force (R17, R149, R167, R200) -/

theorem keptStation_of_none {s : State} {e : Station} (h : s.station e.address = none) :
    keptStation s.crew.stations e = freshStation e := by
  have hf : s.crew.stations.find? (fun st => st.address = e.address) = none := h
  rw [keptStation, hf]

theorem keptStation_of_some {s : State} {e : Station} {st : StationRecord} (h : s.station e.address = some st) :
    keptStation s.crew.stations e =
      { freshStation e with lastSet := st.lastSet, releasePending := st.releasePending, silence := st.silence } := by
  have hf : s.crew.stations.find? (fun st => st.address = e.address) = some st := h
  rw [keptStation, hf]

/-- R167: what a station of the table has of the stations before. -/
theorem keptStation_spec (s : State) (e : Station) :
    let u := keptStation s.crew.stations e
    u.address = e.address ∧ u.role = e.role ∧ u.function = e.function
      ∧ (∀ b ∈ buttons, u.tags.get b = none ∧ u.refused.get b = false)
      ∧ u.clearRefused = none ∧ u.lampsDue = false
      ∧ (∀ st, s.station e.address = some st →
        u.lastSet = st.lastSet ∧ u.releasePending = st.releasePending ∧ u.silence = st.silence)
      ∧ (s.station e.address = none →
        (∀ b ∈ buttons, u.lastSet.get b = false) ∧ u.releasePending = false ∧ u.silence = none) := by
  have hfresh : ∀ b ∈ buttons, (freshStation e).tags.get b = none ∧ (freshStation e).refused.get b = false := by
    intro b _
    cases b <;> exact ⟨rfl, rfl⟩
  cases h : s.station e.address with
  | none =>
      rw [keptStation_of_none h]
      exact ⟨rfl, rfl, rfl, hfresh, rfl, rfl, fun _ hst => (by cases hst), fun _ =>
        ⟨fun b _ => by cases b <;> rfl, rfl, rfl⟩⟩
  | some st =>
      rw [keptStation_of_some h]
      refine ⟨rfl, rfl, rfl, hfresh, rfl, rfl, fun x hst => ?_, fun hn => by cases hn⟩
      cases hst
      exact ⟨rfl, rfl, rfl⟩

/-- R200: a read-back equal to the copy, in time, brings it into force. -/
theorem verifyCommit_passes {s : State} {bytes : List Byte} (ht : s.clock ≤ s.store.stepSince + 500000)
    (hm : s.store.staging = some (imageOf bytes)) :
    verifyCommit bytes s = endCommit none (adoptImage (imageOf bytes) s) := by
  rw [verifyCommit, hm]
  exact if_pos ⟨(stepInTime_iff s).2 ht, rfl⟩

theorem verifyCommit_differs {s : State} {bytes : List Byte} {m : Image} (hm : s.store.staging = some m)
    (hne : imageOf bytes ≠ m) : verifyCommit bytes s = endCommit (some .verify) s := by
  rw [verifyCommit, hm]
  exact if_neg fun h => hne h.2

theorem verifyCommit_late {s : State} (bytes : List Byte) (ht : s.store.stepSince + 500000 < s.clock) :
    verifyCommit bytes s = endCommit (some .verify) s := by
  unfold verifyCommit
  split
  · exact if_neg fun h => Bool.false_ne_true ((stepInTime_late ht).symm.trans h.1)
  · rfl

theorem exec_commitVerifyDone {s : State} (bytes : List Byte) (hc : s.store.commit = .verify) :
    exec (.commitVerifyDone bytes) s = .next (verifyCommit bytes s) := by
  change execCommitVerifyDone bytes s = _
  rw [execCommitVerifyDone, hc]

theorem exec_commitEraseDone {s : State} (hc : s.store.commit = .erase) : exec .commitEraseDone s =
    .next (if stepInTime s = true then nextStep (.program 0) s else endCommit (some .erase) s) := by
  change execCommitEraseDone s = _
  rw [execCommitEraseDone, hc]
  exact (apply_ite Host.Outcome.next ..).symm

theorem exec_commitPageDone {s : State} {n : Nat} (hc : s.store.commit = .program n) : exec .commitPageDone s =
    .next (if stepInTime s = true then nextStep (if 16 ≤ n + 1 then .verify else .program (n + 1)) s
      else endCommit (some .program) s) := by
  change execCommitPageDone s = _
  rw [execCommitPageDone, hc]
  exact (apply_ite Host.Outcome.next ..).symm

theorem exec_commitStepTimeout {s : State} {g : CommitStage} (hg : s.store.commit.stage = some g) :
    exec .commitStepTimeout s = .next (endCommit (some g) (s.upTo (s.store.stepSince + 500000))) := by
  change execCommitStepTimeout s = _
  rw [execCommitStepTimeout, hg]
  rfl

/-- Settles O60. -/
theorem commitsGoThroughTheirStages : Obligations.CommitsGoThroughTheirStages := by
  intro s
  refine ⟨fun tag hh => ?_, fun hc ht => ?_, fun n hc ht => ?_, fun bytes hc ht hm hl hq => ?_,
    fun bytes m hc hm hne hl hq => ?_, ?_, fun g hg => ⟨fun hl hq => ?_, fun hl => ?_⟩⟩
  · rw [exec_profileCommit tag hh]
    refine ⟨fun hm => congrArg _ (doProfileCommit_starting tag hm), fun hm hc => congrArg _ (doProfileCommit_busy tag hm hc),
      fun hm hc => ⟨fun hr => congrArg _ (doProfileCommit_notEmpty tag hm hc hr), fun hr m hs => ?_⟩⟩
    obtain ⟨hbad, hgood⟩ := doProfileCommit_judges tag hm hc hr
    have hb : stagingBad s = m.firstBad := by rw [stagingBad, hs]; rfl
    refine ⟨fun r k hf => congrArg _ (hbad r k (hb.trans hf)), fun hf => congrArg _ ((hgood (hb.trans hf)).trans ?_)⟩
    have hs' : (s.answered ⟨0x12, tag, .ok, []⟩).store.staging = some m := hs
    rw [startCommit, State.onStore, hs']
    rfl
  · rw [exec_commitEraseDone hc, if_pos ((stepInTime_iff s).2 ht)]
    rfl
  · rw [exec_commitPageDone hc, if_pos ((stepInTime_iff s).2 ht)]
    by_cases hn : n < 15
    · rw [if_neg (by omega), if_pos hn]
      rfl
    · rw [if_pos (by omega), if_neg hn]
      rfl
  · refine ⟨_, (exec_commitVerifyDone bytes hc).trans (congrArg _ ((verifyCommit_passes ht hm).trans
      (endCommit_of_unlocked none hl hq))), rfl, rfl, rfl, rfl, rfl, rfl, rfl, rfl, List.length_map .., fun n e he => ?_,
      fun l _ => ?_, rfl, fun c => ?_, fun a _ => ?_⟩
    · refine ⟨keptStation s.crew.stations e, ?_, keptStation_spec s e⟩
      refine (List.getElem?_map ..).trans ?_
      exact (congrArg (Option.map _) he).trans rfl
    · exact PerLamp.get_ofFn ..
    · exact PerChannel.get_ofFn ..
    · exact PerAxis.get_ofFn ..
  · rw [exec_commitVerifyDone bytes hc, verifyCommit_differs hm hne, endCommit_of_unlocked _ hl hq]
  · intro g ht hl hq failed
    have hlate : ¬stepInTime s = true := Bool.eq_false_iff.1 (stepInTime_late ht)
    refine ⟨fun hg hc => ?_, fun n hg hc => ?_, fun bytes hg hc => ?_⟩
    · rw [exec_commitEraseDone hc, if_neg hlate, endCommit_of_unlocked _ hl hq, ← hg]
    · rw [exec_commitPageDone hc, if_neg hlate, endCommit_of_unlocked _ hl hq, ← hg]
    · rw [exec_commitVerifyDone bytes hc, verifyCommit_late bytes ht, endCommit_of_unlocked _ hl hq, ← hg]
  · rw [exec_commitStepTimeout hg]
    exact congrArg _ (endCommit_of_unlocked (s := s.upTo (s.store.stepSince + 500000)) (some g) hl hq)
  · exact ⟨_, exec_commitStepTimeout hg, endCommit_of_locked (s := s.upTo (s.store.stepSince + 500000)) (some g) hl⟩

end Sys2Proof.Machine

namespace Sys2Proof.Machine

/-! ### Stops proper and releases of one record (R94, R96, R105, R108, R109, R116) -/

/-- R45: the end of the record found under its tag. -/
theorem endRecord_ended {s : State} {r : Record} (res : Result) (hf : s.find r.tag = some r) :
    Ended r res s (endRecord r.tag res s) :=
  ⟨endRecord_find _ _ _, fun hq => by rw [endRecord_notices res hf hq]⟩

/-- R83: a driven record only begins its controlled stop. -/
theorem enterStopping_driven (r : Record) (res : Result) (pause : Bool) (s : State) (hd : r.dPrev ≠ 0) :
    enterStopping r res pause s = s.onRecord r.tag (fun _ => r.stopping res pause) := if_neg hd

/-- R39: a change of a record owes no attempt. -/
theorem settle_onRecord {s : State} (tag : Nat) (f : Record → Record) (h : s.motion.attemptsDue = 0) :
    settle (s.onRecord tag f) = s.onRecord tag f := settle_of_settled h

section Proper

variable {s : State} {r : Record}

theorem stopProper_standing (res : Result) (s : State) (h : r.state = .waiting ∨ r.state = .prewarn ∨ r.state = .paused) :
    stopProper res r s = endRecord r.tag res s := by
  obtain h | h | h := h <;> rw [stopProper, h]

theorem stopProper_driven (res : Result) (s : State) (h : r.state = .starting ∨ r.state = .moving) :
    stopProper res r s = enterStopping r res false s := by
  obtain h | h := h <;> rw [stopProper, h]

theorem stopProper_stopping (res : Result) (s : State) (h : r.state = .stopping) :
    stopProper res r s = s.onRecord r.tag (fun r => overtake r res) := by
  rw [stopProper, h]

/-- R105, R109: what a stop proper makes of a record in STOPPING. -/
theorem overtake_eq (r : Record) (res : Result) : overtake r res =
    { r with
      pendingResult := if r.seq.isSome ∧ r.pendingResult = some .limited then some res else r.pendingResult
      seq := r.seq.map (fun q => { q with pause := false }) } := by
  obtain ⟨seq, hseq⟩ : ∃ x, r.seq = x := ⟨_, rfl⟩
  unfold overtake
  cases seq with
  | none =>
      simp [hseq]
      rw [← hseq]
  | some q => simp [hseq]

/-- R116: what a STOP proper leaves of the record that it finds. -/
theorem stopProper_stopped (hf : s.find r.tag = some r) :
    s.StoppedProperly r (settle (stopProper .stopped r s)) := by
  refine ⟨fun h => ?_, fun h hd ha => ?_, fun h ha hn => ?_⟩
  · refine ListChange.ended ?_ (.settle _)
    obtain h | h | h | ⟨h, hd⟩ := h
    · exact stopProper_standing .stopped s (.inl h) ▸ endRecord_ended .stopped hf
    · exact stopProper_standing .stopped s (.inr (.inl h)) ▸ endRecord_ended .stopped hf
    · exact stopProper_standing .stopped s (.inr (.inr h)) ▸ endRecord_ended .stopped hf
    · exact stopProper_driven .stopped s h ▸ enterStopping_ends (by decide) hd hf
  · rw [stopProper_driven .stopped s h, enterStopping_driven r .stopped false s hd, settle_onRecord _ _ ha]
    exact ⟨rfl, rfl, rfl⟩
  · rw [stopProper_stopping .stopped s h, settle_onRecord _ _ ha]
    refine ⟨?_, rfl, rfl⟩
    rw [find_onRecord s r.tag fun x hx => (ListEffects.overtake_tag x .stopped).trans hx, hf, Option.map_some, if_pos rfl,
      overtake_eq]

end Proper

section Release

variable {s : State} {r : Record}

theorem holdStop_plain_standing (res : Result) (s : State) (hq : r.seq = none)
    (h : r.state = .waiting ∨ r.state = .prewarn) : holdStop res r s = endRecord r.tag res s := by
  obtain h | h := h <;> rw [holdStop, hq] <;> dsimp only <;> rw [h]

theorem holdStop_plain_driven (res : Result) (s : State) (hq : r.seq = none)
    (h : r.state = .starting ∨ r.state = .moving) : holdStop res r s = enterStopping r res false s := by
  obtain h | h := h <;> rw [holdStop, hq] <;> dsimp only <;> rw [h]

theorem holdStop_plain_stopping (res : Result) (s : State) (hq : r.seq = none) (h : r.state = .stopping) :
    holdStop res r s = s := by
  rw [holdStop, hq]
  dsimp only
  rw [h]

variable {q : SeqFields}

theorem holdStop_waiting (res : Result) (s : State) (hq : r.seq = some q) (h : r.state = .waiting) :
    holdStop res r s = if q.granted then pauseRecord r.tag s else endRecord r.tag res s := by
  rw [holdStop, hq]
  dsimp only
  rw [h]

theorem holdStop_prewarn (res : Result) (s : State) (hq : r.seq = some q) (h : r.state = .prewarn) :
    holdStop res r s = pauseRecord r.tag s := by
  rw [holdStop, hq]
  dsimp only
  rw [h]

theorem holdStop_driven (res : Result) (s : State) (hq : r.seq = some q) (h : r.state = .starting ∨ r.state = .moving) :
    holdStop res r s = enterStopping r res (!r.reversing) s := by
  obtain h | h := h <;> rw [holdStop, hq] <;> dsimp only <;> rw [h]

theorem holdStop_stopping (res : Result) (s : State) (hq : r.seq = some q) (h : r.state = .stopping) :
    holdStop res r s =
      if r.pendingResult = some .limited ∧ q.pause = false ∧ r.reversing = false then
        s.onRecord r.tag (fun r => { r with seq := some { q with pause := true } })
      else s := by
  rw [holdStop, hq]
  dsimp only
  rw [h]

/-- R110: a record as it enters PAUSED. -/
def pausedAt (now : Nat) (r : Record) : Record :=
  { r with
    state := .paused, waitReason := none, pendingResult := none, pauseSince := now
    stall := none, overload := none, currentSince := none, stripArmed := false
    seq := r.seq.map (fun q => { q with pause := false }) }

theorem pauseRecord_eq {tag : Nat} (hf : s.find tag = some r) :
    ∃ u : State, pauseRecord tag s = u.onRecord tag (pausedAt s.clock) ∧ u.motion = s.motion ∧ u.link = s.link := by
  refine ⟨if r.state = .prewarn then prewarnCancel tag (leaveMotion r s) else leaveMotion r s, ?_, ?_, ?_⟩
  · rw [pauseRecord, hf]
    rfl
  · split <;> exact leaveMotion_motion r s
  · split <;> exact leaveMotion_link r s

/-- R110: what the entry to PAUSED leaves of the SEQUENCE that it finds. -/
theorem pauseRecord_spec {tag : Nat} (hf : s.find tag = some r) (hq : r.seq = some q) :
    (∃ x, (pauseRecord tag s).find tag = some x ∧ x.state = .paused ∧ x.pauseSince = s.clock ∧ x.pendingResult = none
        ∧ x.axis = r.axis ∧ x.seq = some { q with pause := false })
      ∧ (pauseRecord tag s).motion.bank = s.motion.bank ∧ (pauseRecord tag s).link = s.link
      ∧ (pauseRecord tag s).motion.attemptsDue = s.motion.attemptsDue := by
  obtain ⟨u, hu, hm, hl⟩ := pauseRecord_eq hf
  have hfind : (u.onRecord tag (pausedAt s.clock)).find tag = some (pausedAt s.clock r) := by
    rw [find_onRecord (f := pausedAt s.clock) u tag fun _ h => h, State.find, hm]
    exact (congrArg (Option.map _) hf).trans (congrArg some (if_pos (find_tag hf)))
  have hb := congrArg Motion.bank hm
  have ha := congrArg Motion.attemptsDue hm
  rw [hu]
  exact ⟨⟨_, hfind, rfl, rfl, rfl, rfl, congrArg (Option.map _) hq⟩, hb, hl, ha⟩

/-- R106, R108: a stop to pause that finds no duty staged pauses its SEQUENCE at once. -/
theorem enterStopping_pauses (hf : s.find r.tag = some r) (hq : r.seq = some q) (hd : r.dPrev = 0) :
    let t := enterStopping r .released true s
    (∃ x, t.find r.tag = some x ∧ x.state = .paused ∧ x.pauseSince = s.clock ∧ x.pendingResult = none
        ∧ x.axis = r.axis ∧ x.seq = some { q with pause := false })
      ∧ t.motion.bank = s.motion.bank ∧ t.link = s.link ∧ t.motion.attemptsDue = s.motion.attemptsDue := by
  let r1 := r.stopping .released true
  let s1 := stageZero r.tag r.axis (s.onRecord r.tag (fun _ => r1))
  have hq1 : r1.seq = some { q with pause := true } := by
    change r.seq.map _ = _
    rw [hq]
    rfl
  have ht : enterStopping r .released true s = pauseRecord r.tag s1 := by
    refine (if_pos hd).trans ?_
    change finishStop r1 _ = _
    rw [finishStop, hq1]
    dsimp only
    rw [stopResult_stopping r true (by decide), if_neg (by decide), if_pos rfl]
    rfl
  have hf1 : s1.find r.tag = some r1 := by
    rw [State.find, stageZero_motion]
    exact (find_onRecord (tag := r.tag) (f := fun _ => r1) s r.tag fun _ _ => rfl).trans (by rw [hf]; exact congrArg some (if_pos rfl))
  obtain ⟨hx, hb, hl, ha⟩ := pauseRecord_spec hf1 hq1
  have hc : s1.clock = s.clock := (ListChange.stageZero r.tag r.axis _).clock
  have hm1 : s1.motion = (s.onRecord r.tag (fun _ => r1)).motion := stageZero_motion _ _ _
  rw [hm1] at hb ha
  rw [hc] at hx
  rw [ht]
  exact ⟨hx, hb, hl.trans (stageZero_link _ _ _), ha⟩

end Release

end Sys2Proof.Machine

namespace Sys2Proof.Machine

/-! ### The requests of a stop or a clear (R115, R121, R131, R157) -/

section Heard

variable {s : State} (h : s.Hears) (tag : Byte)

include h

theorem exec_stop (axis n : Byte) : exec (.stop tag axis n) s = .next (doStop tag axis n (countGood s)) :=
  congrArg Host.Outcome.next (goodFrame_heard (doStop tag axis n) h.1 h.2)

theorem exec_estopClear : exec (.estopClear tag) s = .next (doEstopClear tag (countGood s)) :=
  congrArg Host.Outcome.next (goodFrame_heard (doEstopClear tag) h.1 h.2)

theorem exec_faultClear (axis channel : Byte) :
    exec (.faultClear tag axis channel) s = .next (doFaultClear tag axis channel (countGood s)) :=
  congrArg Host.Outcome.next (goodFrame_heard (doFaultClear tag axis channel) h.1 h.2)

theorem exec_beaconOverride (channel pattern : Byte) (seconds : Half) : exec (.beaconOverride tag channel pattern seconds) s =
    .next (doBeaconOverride tag channel pattern seconds (countGood s)) :=
  congrArg Host.Outcome.next (goodFrame_heard (doBeaconOverride tag channel pattern seconds) h.1 h.2)

end Heard

/-- The bytes that name an axis are not FFH, which names none (R115). -/
theorem axis_byte_ne {axis : Byte} {a : Axis} (h : axisOf axis.toNat = some a) : axis ≠ 0xFF := by
  rintro rfl
  cases h

section Stop

variable (s : State) (tag : Byte)

theorem doStop_axis {axis : Byte} {a : Axis} (h : axisOf axis.toNat = some a) :
    doStop tag axis 0 s = stopAxis tag a s := by
  rw [doStop, if_neg (axis_byte_ne h), h]
  rfl

theorem doStop_tag {n : Byte} (h : n ≠ 0) : doStop tag 0xFF n s = stopTag tag n.toNat s := if_neg h

theorem stopAxis_unclaimed {a : Axis} (h : s.claimant a = none) :
    stopAxis tag a (countGood s) = s.answered ⟨0x08, tag, .ok, []⟩ := by
  have h' : (countGood s).claimant a = none := h
  rw [stopAxis, h']
  rfl

theorem stopAxis_claimed {a : Axis} {r : Record} (h : s.claimant a = some r) :
    stopAxis tag a (countGood s) =
      if mayHold s .cab a = true then settle (stopProper .stopped r (s.answered ⟨0x08, tag, .ok, []⟩))
      else s.answered ⟨0x08, tag, .notPermitted, []⟩ := by
  have h' : (countGood s).claimant a = some r := h
  have hm : mayHold (countGood s) .cab a = mayHold s .cab a := rfl
  rw [stopAxis, h']
  dsimp only
  rw [hm]
  cases mayHold s .cab a <;> rfl

theorem stopTag_unknown {n : Nat} (h : s.find n = none) :
    stopTag tag n (countGood s) = s.answered ⟨0x08, tag, .badField, []⟩ := by
  have h' : (countGood s).find n = none := h
  rw [stopTag, h']
  rfl

theorem stopTag_known {n : Nat} {r : Record} (h : s.find n = some r) :
    stopTag tag n (countGood s) =
      if mayStop s r = true then
        settle (if stopIsRelease r = true then holdStop .released r (s.answered ⟨0x08, tag, .ok, []⟩)
          else stopProper .stopped r (s.answered ⟨0x08, tag, .ok, []⟩))
      else s.answered ⟨0x08, tag, .notPermitted, []⟩ := by
  have h' : (countGood s).find n = some r := h
  have hm : mayStop (countGood s) r = mayStop s r := rfl
  rw [stopTag, h']
  dsimp only
  rw [hm]
  cases mayStop s r <;> rfl

end Stop

/-- What a change of the list after an OK reply keeps. -/
theorem answered_change {s t : State} (rp : Reply) (h : ListChange (s.answered rp) t) :
    t.motion.axis = s.motion.axis ∧ Kept s t ∧ t.link.fifo = s.link.fifo ++ [rp] := by
  refine ⟨h.axis, h.kept, ?_⟩
  rw [h.link]
  rfl

theorem stop_change (s : State) (rp : Reply) (release : Bool) (r : Record) :
    ListChange (s.answered rp) (settle (if release = true then holdStop .released r (s.answered rp)
      else stopProper .stopped r (s.answered rp))) := by
  refine ListChange.trans ?_ (.settle _)
  split
  · exact (ListEffects.holdStop .released r _).listChange
  · exact .stopProper .stopped r _


/-! ### A release by its tag (R94, R96, R108) -/

section Released

variable {s : State} {r : Record}

/-- R94, R96: what a release leaves of a held record that is no SEQUENCE. -/
theorem release_plain (hf : s.find r.tag = some r) (hq : r.seq = none) :
    let t := settle (holdStop .released r s)
    (r.state = .waiting ∨ r.state = .prewarn ∨ (r.state = .starting ∨ r.state = .moving) ∧ r.dPrev = 0 →
        Ended r .released s t)
      ∧ ((r.state = .starting ∨ r.state = .moving) → r.dPrev ≠ 0 → s.motion.attemptsDue = 0 →
        t.motion = { s.motion with
          records := s.motion.records.map (fun x =>
            if x.tag = r.tag then
              { r with
                state := .stopping, pendingResult := some .released, stall := none, overload := none
                currentSince := none }
            else x) })
      ∧ (r.state = .stopping → s.motion.attemptsDue = 0 → t.motion = s.motion) := by
  refine ⟨fun h => ?_, fun h hd ha => ?_, fun h ha => ?_⟩
  · refine ListChange.ended ?_ (.settle _)
    obtain h | h | ⟨h, hd⟩ := h
    · exact holdStop_plain_standing .released s hq (.inl h) ▸ endRecord_ended .released hf
    · exact holdStop_plain_standing .released s hq (.inr h) ▸ endRecord_ended .released hf
    · exact holdStop_plain_driven .released s hq h ▸ enterStopping_ends (by decide) hd hf
  · have hr : r.stopping .released false = { r with
        state := .stopping, pendingResult := some .released, stall := none, overload := none, currentSince := none } := by
      rw [Record.stopping, hq]
      rfl
    rw [holdStop_plain_driven .released s hq h, enterStopping_driven r .released false s hd, settle_onRecord _ _ ha, hr]
    rfl
  · rw [holdStop_plain_stopping .released s hq h, settle_of_settled ha]

variable {q : SeqFields}

/-- R108: what a release leaves of a held SEQUENCE in STOPPING: the pause mark where LIMITED is pending. -/
theorem holdStop_stopping_motion (hf : s.find r.tag = some r) (hq : r.seq = some q) (h : r.state = .stopping)
    (hn : s.tags.Nodup) :
    (holdStop .released r s).motion = { s.motion with
      records := s.motion.records.map (fun y =>
        if y.tag = r.tag then
          { r with
            seq := some { q with
              pause := q.pause || decide (r.pendingResult = some .limited ∧ r.reversing = false) } }
        else y) } := by
  have honly : ∀ y ∈ s.motion.records, y.tag = r.tag → y = r := fun y hy ht => eq_of_find hn hf hy ht
  have hmap (g : Record → Record) (x : Record) (hg : g r = x) :
      (s.motion.records.map fun y => if y.tag = r.tag then g y else y) =
        s.motion.records.map fun y => if y.tag = r.tag then x else y := by
    refine List.map_congr_left fun y hy => ?_
    split
    · next ht => rw [honly y hy ht, hg]
    · rfl
  rw [holdStop_stopping .released s hq h]
  split
  · next hc =>
      obtain ⟨hl, hp, hrev⟩ := hc
      rw [State.onRecord, State.onMotion_motion, hmap _ _ rfl, hp, decide_eq_true ⟨hl, hrev⟩]
      rfl
  · next hc =>
      have hpause : (q.pause || decide (r.pendingResult = some .limited ∧ r.reversing = false)) = q.pause := by
        cases hp : q.pause with
        | true => rfl
        | false => exact decide_eq_false fun hl => hc ⟨hl.1, hp, hl.2⟩
      have hr : { r with seq := some q } = r := by rw [← hq]
      have hid := hmap id r rfl
      rw [hpause, hr, ← hid]
      have hsame : (s.motion.records.map fun y => if y.tag = r.tag then id y else y) = s.motion.records := by
        simp
      rw [hsame]

theorem holdStop_stopping_frame (res : Result) (hq : r.seq = some q) (h : r.state = .stopping) :
    (holdStop res r s).drive = s.drive ∧ (holdStop res r s).link = s.link
      ∧ (holdStop res r s).motion.attemptsDue = s.motion.attemptsDue := by
  rw [holdStop_stopping res s hq h]
  split <;> exact ⟨rfl, rfl, rfl⟩

/-- R104, R108: what a release leaves of a held SEQUENCE that is not PAUSED. -/
theorem release_sequence (hf : s.find r.tag = some r) (hq : r.seq = some q) :
    let t := settle (holdStop .released r s)
    let now (x : Record) : Motion := { s.motion with
      records := s.motion.records.map (fun y => if y.tag = r.tag then x else y) }
    (r.state = .waiting → q.granted = false → Ended r .released s t)
      ∧ (s.motion.attemptsDue = 0 →
        (r.state = .waiting ∧ q.granted = true ∨ r.state = .prewarn
          ∨ (r.state = .starting ∨ r.state = .moving) ∧ r.dPrev = 0 ∧ r.reversing = false →
          (∃ x, t.find r.tag = some x ∧ x.state = .paused ∧ x.pauseSince = s.clock ∧ x.pendingResult = none
            ∧ x.axis = r.axis ∧ x.seq = some { q with pause := false })
          ∧ t.motion.bank = s.motion.bank ∧ t.link.notices = s.link.notices)
        ∧ ((r.state = .starting ∨ r.state = .moving) → r.dPrev ≠ 0 →
          t.motion = now { r with
            state := .stopping, pendingResult := some .released, stall := none, overload := none
            currentSince := none, seq := some { q with pause := !r.reversing } }
            ∧ t.drive = s.drive ∧ t.link.notices = s.link.notices)
        ∧ (r.state = .stopping → s.tags.Nodup →
          t.motion = now { r with
            seq := some { q with
              pause := q.pause || decide (r.pendingResult = some .limited ∧ r.reversing = false) } }
            ∧ t.drive = s.drive ∧ t.link.notices = s.link.notices)) := by
  intro t now
  refine ⟨fun h hg => ?_, fun ha => ⟨fun h => ?_, fun h hd => ?_, fun h hn => ?_⟩⟩
  · have ht : holdStop .released r s = endRecord r.tag .released s := by
      rw [holdStop_waiting .released s hq h, hg]
      rfl
    exact ListChange.ended (ht ▸ endRecord_ended .released hf) (.settle _)
  · have hpaused : ∃ u, holdStop .released r s = u ∧ (∃ x, u.find r.tag = some x ∧ x.state = .paused
        ∧ x.pauseSince = s.clock ∧ x.pendingResult = none ∧ x.axis = r.axis ∧ x.seq = some { q with pause := false })
        ∧ u.motion.bank = s.motion.bank ∧ u.link = s.link ∧ u.motion.attemptsDue = s.motion.attemptsDue := by
      obtain ⟨h, hg⟩ | h | ⟨h, hd, hrev⟩ := h
      · refine ⟨_, ?_, pauseRecord_spec hf hq⟩
        rw [holdStop_waiting .released s hq h, hg]
        rfl
      · exact ⟨_, holdStop_prewarn .released s hq h, pauseRecord_spec hf hq⟩
      · refine ⟨_, ?_, enterStopping_pauses hf hq hd⟩
        rw [holdStop_driven .released s hq h, hrev]
        rfl
    obtain ⟨u, hu, hx, hb, hl, hdue⟩ := hpaused
    have ht : t = u := by
      change settle (holdStop .released r s) = u
      rw [hu]
      exact settle_of_settled (hdue.trans ha)
    rw [ht]
    exact ⟨hx, hb, congrArg Link.notices hl⟩
  · have hr : r.stopping .released (!r.reversing) = { r with
        state := .stopping, pendingResult := some .released, stall := none, overload := none, currentSince := none
        seq := some { q with pause := !r.reversing } } := by
      rw [Record.stopping, hq]
      rfl
    have ht : t = s.onRecord r.tag (fun _ => r.stopping .released (!r.reversing)) := by
      change settle (holdStop .released r s) = _
      rw [holdStop_driven .released s hq h, enterStopping_driven r .released _ s hd, settle_onRecord _ _ ha]
    rw [ht, hr]
    exact ⟨rfl, rfl, rfl⟩
  · obtain ⟨hdrive, hlink, hdue⟩ := holdStop_stopping_frame (s := s) .released hq h
    have ht : t = holdStop .released r s := settle_of_settled (hdue.trans ha)
    rw [ht]
    exact ⟨holdStop_stopping_motion hf hq h hn, hdrive, congrArg Link.notices hlink⟩

end Released

/-! ### A clear of an axis fault (R131, R132) -/

theorem thresholdsOf_eq (o : DriveOut) : (Builtin.driveThresholds o).shortAbove = (thresholdsOf o).2 := by
  cases o <;> rfl

theorem faultClears_iff (s : State) (a : Axis) : faultClears s a = true ↔
    (s.sense.get (.axis a)).clearable = true
      ∧ ∀ o ∈ outputsOf a, (s.drive.out.get o).echoMatch = true ∧ (s.drive.out.get o).reading ≤ (thresholdsOf o).2 := by
  simp only [faultClears, outputPasses, Bool.and_eq_true, List.all_eq_true, decide_eq_true_eq, thresholdsOf_eq]

theorem liftHold_motion (s : State) (o : DriveOut) : (liftHold s o).motion = s.motion := by
  unfold liftHold
  split <;> rfl

/-- R132: the holds that are lifted are those of outputs with no FAULTED axis. -/
theorem liftHold_lifts (s : State) (o : DriveOut) (h : (axesOf o).any s.faulted = false) :
    ((liftHold s o).drive.out.get o).force.faultHold = false := by
  rw [liftHold, if_neg (Bool.eq_false_iff.1 h), onOut_get, if_pos rfl]

theorem liftHold_keeps (s : State) (o' o : DriveOut) (h : (s.drive.out.get o).force.faultHold = false) :
    ((liftHold s o').drive.out.get o).force.faultHold = false := by
  unfold liftHold
  split
  · exact h
  · exact onOut_holds (p := fun r => r.force.faultHold = false) o' (fun _ => rfl) h

theorem foldl_liftHold_lifts (l : List DriveOut) (s : State) (o : DriveOut) (ho : o ∈ l)
    (h : (axesOf o).any s.faulted = false) : ((l.foldl liftHold s).drive.out.get o).force.faultHold = false := by
  have hm (s : State) (o : DriveOut) : (liftHold s o).faulted = s.faulted := by
    funext a
    rw [State.faulted, State.faulted, liftHold_motion]
  have hl : (l.foldl liftHold s).faulted = s.faulted := foldl_keeps State.faulted (f := liftHold) hm l s
  refine foldl_makes
    (q := fun o s => (axesOf o).any s.faulted = false → (s.drive.out.get o).force.faultHold = false) (f := liftHold)
    (fun s o h => liftHold_lifts s o (hm s o ▸ h)) (fun s o' o hq h => liftHold_keeps s o' o (hq (hm s o' ▸ h))) l s o ho ?_
  rw [hl]
  exact h

theorem faultHold_lifted_kept : KeptByGrants fun r => r.force.faultHold = false where
  claim _ _ h := h
  release _ h := h
  force _ _ _ h := h
  stage _ _ _ _ h _ := h

/-- R132: what the removal of a fault leaves. -/
theorem clearFault_spec (a : Axis) (s : State) :
    let t := clearFault a s
    t.faulted a = false ∧ KeptAxes [a] s t
      ∧ (∀ o ∈ outputsOf a, (∀ b ∈ axesOf o, b ≠ a → s.faulted b = false) → (t.drive.out.get o).force.faultHold = false)
      ∧ t.link.fifo = s.link.fifo ∧ Kept s t := by
  let s0 := s.onAxis a (fun x => { x with fault := none })
  let s1 := (outputsOf a).foldl liftHold s0
  have hlift {β : Type} (g : State → β) (hg : ∀ s o f, g (s.onOut o f) = g s) : g s1 = g s0 :=
    foldl_keeps g (f := liftHold) (fun s o => by
      unfold liftHold
      split
      · rfl
      · exact hg _ _ _) (outputsOf a) s0
  have hsame (b : Axis) (hb : b ≠ a) : s0.motion.axis.get b = s.motion.axis.get b := PerAxis.get_set_of_ne _ _ _ _ hb
  have hcleared : (s0.motion.axis.get a).fault = none := by
    rw [State.onAxis_motion, PerAxis.get_set_self]
  have hgrants : GrantEffects s1 (clearFault a s) := .ite (fun _ => (GrantEffects.oweAttempt s1).trans (GrantEffects.settle _)) fun _ => .refl
  have hc := hgrants.listChange
  have haxis : (clearFault a s).motion.axis = s0.motion.axis := hc.axis.trans (hlift (fun s => s.motion.axis) fun _ _ _ => rfl)
  refine ⟨?_, fun b _ hb => ?_, fun o ho hothers => ?_, ?_, kept_trans ?_ hc.kept⟩
  · rw [State.faulted, haxis, hcleared]
    rfl
  · rw [haxis]
    exact hsame b fun h => hb (List.mem_singleton.2 h)
  · refine hgrants.out_holds faultHold_lifted_kept o (foldl_liftHold_lifts _ s0 o ho ?_)
    refine Bool.eq_false_iff.2 fun hany => ?_
    obtain ⟨b, hb, hf⟩ := List.any_eq_true.1 hany
    by_cases hba : b = a
    · subst hba
      rw [State.faulted, hcleared] at hf
      exact absurd hf Bool.false_ne_true
    · rw [State.faulted, hsame b hba] at hf
      exact Bool.false_ne_true ((hothers b hb hba).symm.trans hf)
  · rw [hc.link]
    exact hlift (fun s => s.link.fifo) fun _ _ _ => rfl
  · exact ⟨hlift State.pins fun _ _ _ => rfl, hlift State.store fun _ _ _ => rfl, hlift State.profile fun _ _ _ => rfl,
      hlift (fun s => s.motion.estop) fun _ _ _ => rfl, hlift (fun s => s.motion.supply) fun _ _ _ => rfl,
      hlift (fun s => s.motion.budget) fun _ _ _ => rfl, hlift (fun s => s.beacon.channel) fun _ _ _ => rfl,
      hlift (fun s => s.drive.lamp) fun _ _ _ => rfl⟩

section Clears

variable (s : State) (tag : Byte)

theorem doFaultClear_axis {axis : Byte} {a : Axis} (h : axisOf axis.toNat = some a) :
    doFaultClear tag axis 0xFF s = faultClearAxis tag a s := by
  rw [doFaultClear, if_neg (axis_byte_ne h), h]
  rfl

theorem doFaultClear_lamp {channel : Byte} {l : Lamp} (h : lampOf channel.toNat = some l) :
    doFaultClear tag 0xFF channel s = faultClearLamp tag l s := by
  rw [doFaultClear, if_pos rfl, h]

theorem faultClearAxis_eq (a : Axis) : faultClearAxis tag a (countGood s) =
    if s.faulted a = true then
      (if faultClears s a = true then clearFault a (s.answered ⟨0x0C, tag, .ok, []⟩)
       else s.answered ⟨0x0C, tag, .stillFaulted, []⟩)
    else s.answered ⟨0x0C, tag, .ok, []⟩ := by
  have hf : (countGood s).faulted a = s.faulted a := rfl
  have hc : faultClears (countGood s) a = faultClears s a := rfl
  rw [faultClearAxis, hf, hc]
  cases s.faulted a <;> rfl

theorem faultClearLamp_eq (l : Lamp) : faultClearLamp tag l (countGood s) =
    if s.lampFaulted l = true then
      (if lampClears s l = true then clearLampFault l (s.answered ⟨0x0C, tag, .ok, []⟩)
       else s.answered ⟨0x0C, tag, .stillFaulted, []⟩)
    else s.answered ⟨0x0C, tag, .ok, []⟩ := by
  have hf : (countGood s).lampFaulted l = s.lampFaulted l := rfl
  have hc : lampClears (countGood s) l = lampClears s l := rfl
  rw [faultClearLamp, hf, hc]
  cases s.lampFaulted l <;> rfl

theorem lampClears_iff (l : Lamp) : lampClears s l = true ↔
    (s.drive.lamp.get l).echoMatch = true ∧ (s.drive.lamp.get l).reading ≤ 60 := by
  rw [lampClears, Bool.and_eq_true, decide_eq_true_iff]
  rfl

theorem doEstopClear_eq : doEstopClear tag (countGood s) =
    if s.motion.estop = true then
      (if clearAllowed s = true then clearLatch (s.answered ⟨0x0B, tag, .ok, []⟩) else s.answered ⟨0x0B, tag, .held, []⟩)
    else s.answered ⟨0x0B, tag, .ok, []⟩ := by
  have he : (countGood s).motion.estop = s.motion.estop := rfl
  have hc : clearAllowed (countGood s) = clearAllowed s := rfl
  rw [doEstopClear, he, hc]
  cases s.motion.estop <;> rfl

theorem doBeaconOverride_eq {channel pattern : Byte} {seconds : Half} {l : Lamp} {p : Option OverridePattern}
    (hl : lampOf channel.toNat = some l) (hp : overrideOf pattern.toNat = some p) (hs : seconds.toNat ≤ 600) :
    doBeaconOverride tag channel pattern seconds (countGood s) =
      if s.store.mode = .run then
        (s.answered ⟨0x0D, tag, .ok, []⟩).onLamp l (takeOverride p seconds.toNat)
      else s.answered ⟨0x0D, tag, .starting, []⟩ := by
  rw [doBeaconOverride, hl, hp, decide_eq_true hs]
  rfl

end Clears

/-- R115, R116: a STOP that names an axis. -/
theorem stop_axis_spec {s : State} (h : s.Hears) (tag : Byte) {axis : Byte} {a : Axis}
    (ha : axisOf axis.toNat = some a) {r : Record} (hr : s.claimant a = some r) (hm : mayHold s .cab a = true)
    (hf : s.find r.tag = some r) :
    ∃ t, exec (.stop tag axis 0) s = .next t ∧ t.motion.axis = s.motion.axis ∧ Kept s t
      ∧ t.link.fifo = s.link.fifo ++ [⟨0x08, tag, .ok, []⟩] ∧ s.StoppedProperly r t := by
  have hx : exec (.stop tag axis 0) s =
      .next (settle (stopProper .stopped r (s.answered ⟨0x08, tag, .ok, []⟩))) := by
    rw [exec_stop h, doStop_axis _ tag ha, stopAxis_claimed s tag hr, if_pos hm]
  obtain ⟨hax, hk, hfifo⟩ := answered_change _ (stop_change s ⟨0x08, tag, .ok, []⟩ false r)
  exact ⟨_, hx, hax, hk, hfifo, stopProper_stopped (s := s.answered ⟨0x08, tag, .ok, []⟩) hf⟩

/-- R115: a STOP that names the tag of a record which CAB may stop. -/
theorem stop_tag_spec {s : State} (h : s.Hears) (tag : Byte) {n : Byte} {r : Record} (hn : n ≠ 0)
    (hf : s.find n.toNat = some r) (hm : mayStop s r = true) :
    ∃ t, exec (.stop tag 0xFF n) s = .next t ∧ t.motion.axis = s.motion.axis ∧ Kept s t
      ∧ t.link.fifo = s.link.fifo ++ [⟨0x08, tag, .ok, []⟩]
      ∧ t = settle (if stopIsRelease r = true then holdStop .released r (s.answered ⟨0x08, tag, .ok, []⟩)
          else stopProper .stopped r (s.answered ⟨0x08, tag, .ok, []⟩)) := by
  have hx : exec (.stop tag 0xFF n) s = .next (settle (if stopIsRelease r = true
      then holdStop .released r (s.answered ⟨0x08, tag, .ok, []⟩)
      else stopProper .stopped r (s.answered ⟨0x08, tag, .ok, []⟩))) := by
    rw [exec_stop h, doStop_tag _ tag hn, stopTag_known s tag hf, if_pos hm]
  obtain ⟨hax, hk, hfifo⟩ := answered_change _ (stop_change s ⟨0x08, tag, .ok, []⟩ (stopIsRelease r) r)
  exact ⟨_, hx, hax, hk, hfifo, rfl⟩

theorem stopIsRelease_iff (r : Record) :
    stopIsRelease r = true ↔ r.source = .cab ∧ r.held = true ∧ r.state ≠ .paused := by
  simp [stopIsRelease, and_assoc]

end Sys2Proof.Machine

namespace Sys2Proof.Machine

/-! ### The answers to stops and clears (O58) -/

theorem find_own {s : State} {n : Nat} {r : Record} (hf : s.find n = some r) : s.find r.tag = some r := by
  rw [find_tag hf]
  exact hf

theorem clearLatch_of_room {s : State} (hq : s.link.notices.length < 16) : clearLatch s =
    { s with
      motion := { s.motion with estop := false }
      link := { s.link with notices := s.link.notices ++ [.estopCleared] } } :=
  appendNotice_of_room (s := s.onMotion (fun m => { m with estop := false })) .estopCleared hq

section Answers

variable {s : State} (h : s.Hears) (tag : Byte)

include h

/-- R131, R132: a FAULT-CLEAR of an axis. -/
theorem faultClear_axis_answers {axis : Byte} {a : Axis} (ha : axisOf axis.toNat = some a) :
    (s.faulted a = false → exec (.faultClear tag axis 0xFF) s = .next (s.answered ⟨0x0C, tag, .ok, []⟩))
      ∧ (s.faulted a = true → faultClears s a = false →
        exec (.faultClear tag axis 0xFF) s = .next (s.answered ⟨0x0C, tag, .stillFaulted, []⟩))
      ∧ (s.faulted a = true → faultClears s a = true →
        ∃ t, exec (.faultClear tag axis 0xFF) s = .next t ∧ t.faulted a = false ∧ KeptAxes [a] s t
          ∧ (∀ o ∈ outputsOf a, (∀ b ∈ axesOf o, b ≠ a → s.faulted b = false) →
            (t.drive.out.get o).force.faultHold = false)
          ∧ t.link.fifo = s.link.fifo ++ [⟨0x0C, tag, .ok, []⟩] ∧ Kept s t) := by
  have hx := exec_faultClear h tag axis 0xFF
  rw [doFaultClear_axis _ tag ha, faultClearAxis_eq] at hx
  refine ⟨fun hf => ?_, fun hf hc => ?_, fun hf hc => ?_⟩
  · rwa [hf, if_neg Bool.false_ne_true] at hx
  · rwa [hf, hc, if_pos rfl, if_neg Bool.false_ne_true] at hx
  · rw [hf, hc, if_pos rfl, if_pos rfl] at hx
    exact ⟨_, hx, clearFault_spec a (s.answered ⟨0x0C, tag, .ok, []⟩)⟩

/-- R162: a FAULT-CLEAR of a lamp channel. -/
theorem faultClear_lamp_answers {channel : Byte} {l : Lamp} (hl : lampOf channel.toNat = some l) :
    (s.lampFaulted l = false → exec (.faultClear tag 0xFF channel) s = .next (s.answered ⟨0x0C, tag, .ok, []⟩))
      ∧ (s.lampFaulted l = true → (s.drive.lamp.get l).echoMatch = true → (s.drive.lamp.get l).reading ≤ 60 →
        ∃ t, exec (.faultClear tag 0xFF channel) s = .next t
          ∧ t.beacon.channel = s.beacon.channel.set l { s.beacon.channel.get l with fault := none }
          ∧ t.drive.lamp = s.drive.lamp.set l { s.drive.lamp.get l with shortForce := false }
          ∧ t.link = s.link.answered ⟨0x0C, tag, .ok, []⟩ ∧ t.motion = s.motion)
      ∧ (s.lampFaulted l = true →
        ((s.drive.lamp.get l).echoMatch = false ∨ 60 < (s.drive.lamp.get l).reading) →
          exec (.faultClear tag 0xFF channel) s = .next (s.answered ⟨0x0C, tag, .stillFaulted, []⟩)) := by
  have hx := exec_faultClear h tag 0xFF channel
  rw [doFaultClear_lamp _ tag hl, faultClearLamp_eq] at hx
  refine ⟨fun hf => ?_, fun hf he hr => ?_, fun hf hc => ?_⟩
  · rwa [hf, if_neg Bool.false_ne_true] at hx
  · rw [hf, if_pos rfl, if_pos ((lampClears_iff s l).2 ⟨he, hr⟩)] at hx
    exact ⟨_, hx, rfl, rfl, rfl, rfl⟩
  · have hn : ¬lampClears s l = true := fun hp => by
      obtain ⟨he, hr⟩ := (lampClears_iff s l).1 hp
      obtain hc | hc := hc
      · exact Bool.false_ne_true (hc.symm.trans he)
      · omega
    rwa [hf, if_pos rfl, if_neg hn] at hx

/-- R157: a BEACON-OVERRIDE with sound fields. -/
theorem beaconOverride_answers {channel pattern : Byte} {seconds : Half} {l : Lamp} {p : Option OverridePattern}
    (hl : lampOf channel.toNat = some l) (hp : overrideOf pattern.toNat = some p) (hs : seconds.toNat ≤ 600) :
    (s.store.mode ≠ .run →
        exec (.beaconOverride tag channel pattern seconds) s = .next (s.answered ⟨0x0D, tag, .starting, []⟩))
      ∧ (s.store.mode = .run →
        ∃ t, exec (.beaconOverride tag channel pattern seconds) s = .next t
          ∧ (t.beacon.channel.get l).override =
            p.map (fun p => ⟨p, if seconds = 0 then none else some (seconds.toNat * 1000)⟩)
          ∧ (∀ l' ∈ lamps, l' ≠ l → t.beacon.channel.get l' = s.beacon.channel.get l')
          ∧ t.link = s.link.answered ⟨0x0D, tag, .ok, []⟩ ∧ t.motion = s.motion ∧ t.drive = s.drive) := by
  have hx := exec_beaconOverride h tag channel pattern seconds
  rw [doBeaconOverride_eq s tag hl hp hs] at hx
  refine ⟨fun hm => ?_, fun hm => ?_⟩
  · rwa [if_neg hm] at hx
  · rw [if_pos hm] at hx
    refine ⟨_, hx, ?_, fun l' _ hne => PerLamp.get_set_of_ne _ _ _ _ hne, rfl, rfl, rfl⟩
    have hz : (seconds.toNat = 0) = (seconds = 0) := propext ⟨fun hz => BitVec.eq_of_toNat_eq hz, fun hz => by rw [hz]; rfl⟩
    refine (congrArg Beacon.override (PerLamp.get_set_self ..)).trans ?_
    rw [takeOverride]
    simp only [hz]

/-- R121: the host's ESTOP-CLEAR. -/
theorem estopClear_answers :
    (s.motion.estop = false → exec (.estopClear tag) s = .next (s.answered ⟨0x0B, tag, .ok, []⟩))
      ∧ (s.motion.estop = true → clearAllowed s = false →
        exec (.estopClear tag) s = .next (s.answered ⟨0x0B, tag, .held, []⟩))
      ∧ (s.motion.estop = true → clearAllowed s = true → s.link.notices.length < 16 →
        exec (.estopClear tag) s =
          .next { s with
            motion := { s.motion with estop := false }
            link := { s.link.answered ⟨0x0B, tag, .ok, []⟩ with
              notices := s.link.notices ++ [.estopCleared] } }) := by
  have hx := exec_estopClear h tag
  rw [doEstopClear_eq] at hx
  refine ⟨fun he => ?_, fun he hc => ?_, fun he hc hq => ?_⟩
  · rwa [he, if_neg Bool.false_ne_true] at hx
  · rwa [he, hc, if_pos rfl, if_neg Bool.false_ne_true] at hx
  · rw [he, hc, if_pos rfl, if_pos rfl, clearLatch_of_room (s := s.answered _) hq] at hx
    exact hx

end Answers

/-- Settles O58. -/
theorem stopsAndClearsAreAnswered : Obligations.StopsAndClearsAreAnswered := by
  intro s tag h
  obtain ⟨hestop, hheld, hcleared⟩ := estopClear_answers h tag
  refine ⟨fun axis a ha => ⟨fun hc => ?_, fun r hr => ⟨fun hm => ?_, fun hm hf => stop_axis_spec h tag ha hr hm hf⟩,
      faultClears_iff s a, faultClear_axis_answers h tag ha⟩,
    fun n r hn hf hm hcab hheld hq => ?_, fun n r q hn hf hm hcab hheld hq => ?_, fun n r hn hf hm hr => ?_,
    fun n r hn hf hm => ?_, fun n hn => ?_, hestop, hheld, hcleared, fun channel l hl => ?_⟩
  · rw [exec_stop h, doStop_axis _ tag ha, stopAxis_unclaimed s tag hc]
  · rw [exec_stop h, doStop_axis _ tag ha, stopAxis_claimed s tag hr, if_neg (Bool.eq_false_iff.1 hm)]
  · obtain ⟨t, hx, hax, hk, hfifo, ht⟩ := stop_tag_spec h tag hn hf hm
    refine ⟨t, hx, hax, hk, hfifo, ?_⟩
    by_cases hp : r.state = .paused
    · exact ⟨fun h => by simp [hp] at h, fun h => by simp [hp] at h, fun h => by simp [hp] at h⟩
    · rw [if_pos ((stopIsRelease_iff r).2 ⟨hcab, hheld, hp⟩)] at ht
      rw [ht]
      exact release_plain (s := s.answered ⟨0x08, tag, .ok, []⟩) (find_own hf) hq
  · intro paused now
    obtain ⟨t, hx, hax, hk, hfifo, ht⟩ := stop_tag_spec h tag hn hf hm
    refine ⟨t, hx, hax, hk, hfifo, fun hp => ?_, ?_⟩
    · have hrel : ¬stopIsRelease r = true := fun h => ((stopIsRelease_iff r).1 h).2.2 hp
      rw [if_neg hrel] at ht
      rw [ht]
      exact (stopProper_stopped (s := s.answered ⟨0x08, tag, .ok, []⟩) (find_own hf)).1 (.inr (.inr (.inl hp)))
    · by_cases hp : r.state = .paused
      · exact ⟨fun h => by simp [hp] at h, fun _ => ⟨fun h => by simp [hp] at h, fun h => by simp [hp] at h,
          fun h => by simp [hp] at h⟩⟩
      · rw [if_pos ((stopIsRelease_iff r).2 ⟨hcab, hheld, hp⟩)] at ht
        rw [ht]
        exact release_sequence (s := s.answered ⟨0x08, tag, .ok, []⟩) (find_own hf) hq
  · obtain ⟨t, hx, hax, hk, hfifo, ht⟩ := stop_tag_spec h tag hn hf hm
    have hrel : ¬stopIsRelease r = true := fun hs => by
      obtain ⟨hcab, hheld, hp⟩ := (stopIsRelease_iff r).1 hs
      obtain hr | hr | hr := hr
      · exact hr hcab
      · exact Bool.false_ne_true (hr.symm.trans hheld)
      · exact hp hr
    rw [if_neg hrel] at ht
    refine ⟨t, hx, ?_, hfifo, hax, hk⟩
    rw [ht]
    exact stopProper_stopped (s := s.answered ⟨0x08, tag, .ok, []⟩) (find_own hf)
  · rw [exec_stop h, doStop_tag _ tag hn, stopTag_known s tag hf, if_neg (Bool.eq_false_iff.1 hm)]
  · by_cases hz : n = 0
    · subst hz
      rw [exec_stop h]
      rfl
    · rw [exec_stop h, doStop_tag _ tag hz, stopTag_unknown s tag (hn.resolve_left hz)]
  · obtain ⟨hok, hclear, hstill⟩ := faultClear_lamp_answers h tag hl
    exact ⟨hok, hclear, hstill, fun pattern seconds p hp hs => beaconOverride_answers h tag hl hp hs⟩

end Sys2Proof.Machine

namespace Sys2Proof.Machine

/-! ### What the conditions of a motion read (R48 to R65, R98) -/

namespace ListChange

variable {s t : State} (h : ListChange s t)

include h

theorem limits (a : Axis) : t.limits a = s.limits a := by rw [State.limits, State.limits, h.profile]

theorem positionIs (a : Axis) (absent : Bool) (p : Int → Bool) : t.positionIs a absent p = s.positionIs a absent p := by
  rw [State.positionIs, State.positionIs, h.position]

theorem input (i : Input) : t.input i = s.input i := by rw [State.input, State.input, h.pins]

theorem lampFaulted (l : Lamp) : t.lampFaulted l = s.lampFaulted l := by
  rw [State.lampFaulted, State.lampFaulted, h.beacon]

/-- The interlocks read nothing that a change of the list changes. -/
theorem interlocks (a : Axis) (d : Dir) (source : Role) : interlocks t a d source = interlocks s a d source := by
  have hsense : t.sense.battery = s.sense.battery ∧ t.sense.pressure = s.sense.pressure := by
    rw [h.sense]
    exact ⟨rfl, rfl⟩
  unfold Machine.interlocks interlocksMoving i1 i2 i3 i4 i5 i6 i7 State.vehicleMoving State.bedBand
  simp only [h.position, h.positionIs, h.input, h.lampFaulted, h.pins, h.profile, hsense]

theorem bearing (a : Axis) (d : Dir) : bearing t a d = bearing s a d := by
  unfold Machine.bearing Envelope.active
  simp only [h.positionIs, h.profile]

theorem envelopeBlocked (a : Axis) (d : Dir) : envelopeBlocked t a d = envelopeBlocked s a d := by
  rw [Machine.envelopeBlocked, Machine.envelopeBlocked, h.position, h.bearing]

theorem envelopeClamp (a : Axis) (d : Dir) (x : Int) : envelopeClamp t a d x = envelopeClamp s a d x := by
  rw [Machine.envelopeClamp, Machine.envelopeClamp, h.bearing]

theorem withinDeadband (a : Axis) (p x : Int) : withinDeadband t a p x = withinDeadband s a p x := by
  rw [Machine.withinDeadband, Machine.withinDeadband, h.limits]

theorem stripPressed (a : Axis) : stripPressed t a = stripPressed s a := by
  cases a <;> first | rfl | exact h.input _

theorem interlocksPrewarnEnd (r : Record) : interlocksPrewarnEnd t r = interlocksPrewarnEnd s r := by
  rw [Machine.interlocksPrewarnEnd, Machine.interlocksPrewarnEnd, h.interlocks]

theorem stepsOf (n : Nat) : stepsOf t n = stepsOf s n := by rw [Machine.stepsOf, Machine.stepsOf, h.profile]

theorem formMarks (r : Record) : formMarks t r = formMarks s r := by
  rw [Machine.formMarks, Machine.formMarks, h.lampFaulted, h.limits]

/-- R98, R99: a step is formed from the record, the positions, the pitch and the profile. -/
theorem formStep (r : Record) (q : SeqFields) : formStep t r q = formStep s r q := by
  have hpitch : t.sense.pitch = s.sense.pitch := by rw [h.sense]
  have htarget (st : Step) : requestedTarget t st = requestedTarget s st := by
    unfold requestedTarget levelPitch
    rw [hpitch, h.profile]
  have hform (st : Step) : formWith t r q st = formWith s r q st := by
    funext x
    unfold formWith travelClamp stepDir lowered drawOf
    simp only [h.limits, h.position, h.envelopeClamp, h.store]
  unfold Machine.formStep
  rw [h.stepsOf]
  split
  · rfl
  · rw [htarget, hform]

end ListChange

/-! ### The entry to STARTING (R73, R8, R136) -/

/-- R73: a record as it enters STARTING. -/
def started (reversal : Bool) (x : Record) : Record :=
  { x with
    state := .starting, waitReason := none, dPrev := 0, stall := none, overload := none
    stripArmed := isDoor x.axis, currentSince := none, reversing := reversal
    pendingResult := none }

/-- R73, R136: an output of the axis as a record enters STARTING. -/
def startedOut (tag : Nat) (valve : Bool) (r : DriveRecord) : DriveRecord :=
  { r with
    claim := some tag, force := { r.force with immediate := false }
    staged := if valve then 1000 else 0, hitMark := valve, updatePending := true }

theorem valve_mem {a : Axis} {d : Dir} {o : DriveOut} (h : valveOf a d = some o) : o ∈ outputsOf a := by
  cases a <;> cases d <;> cases h <;> decide

/-- R73: the stagings of an entry to STARTING, after the claims. -/
def startStagings (r : Record) (s : State) : State :=
  let s3 := ((outputsOf r.axis).filter (fun o => some o ≠ valveOf r.axis r.dir)).foldl (stageOut r.tag 0 false) s
  match valveOf r.axis r.dir with
  | some v => stageOut r.tag 1000 true s3 v
  | none => s3

theorem startRecord_eq (r : Record) (reversal : Bool) (s : State) : startRecord r reversal s =
    synchronise r.axis (startStagings r ((outputsOf r.axis).foldl (claimOut r.tag) (s.onRecord r.tag (started reversal)))) :=
  rfl

theorem stageOut_keeps {β : Type} (g : State → β) (hg : ∀ s o f, g (s.onOut o f) = g s) (tag duty : Nat) (hit : Bool)
    (s : State) (o : DriveOut) : g (stageOut tag duty hit s o) = g s := hg s o _

theorem startStagings_keeps {β : Type} (g : State → β) (hg : ∀ s o f, g (s.onOut o f) = g s) (r : Record) (s : State) :
    g (startStagings r s) = g s := by
  have hfold (l : List DriveOut) : g (l.foldl (stageOut r.tag 0 false) s) = g s :=
    foldl_keeps g (f := stageOut r.tag 0 false) (fun s o => stageOut_keeps g hg _ _ _ s o) l s
  unfold startStagings
  split
  · exact (stageOut_keeps g hg _ _ _ _ _).trans (hfold _)
  · exact hfold _

/-- What an entry to STARTING leaves of every part but the outputs and the channel of its axis. -/
theorem startRecord_keeps {β : Type} (g : State → β) (hg : ∀ s o f, g (s.onOut o f) = g s)
    (hc : ∀ s a f, g (s.onChannel (.axis a) f) = g s) (r : Record) (reversal : Bool) (s : State) :
    g (startRecord r reversal s) = g (s.onRecord r.tag (started reversal)) := by
  rw [startRecord_eq, synchronise, hc, startStagings_keeps g hg]
  exact foldl_keeps g (f := claimOut r.tag) (fun s o => hg s o _) _ _

/-- R137: a staging on an output that its record claims, under no force. -/
theorem stageOut_taken {s : State} {o : DriveOut} {tag : Nat} (duty : Nat) (hit : Bool)
    (h : (s.drive.out.get o).takes tag = true) (o' : DriveOut) :
    (stageOut tag duty hit s o).drive.out.get o' =
      if o' = o then { s.drive.out.get o with staged := duty, hitMark := hit, updatePending := true }
      else s.drive.out.get o' := by
  rw [stageOut, onOut_get, h]
  rfl

/-- R73: the stagings on outputs that take them: 1000 with the hit mark on the directional valve, 0 on the others. -/
theorem startStagings_get {r : Record} {s : State}
    (h : ∀ o ∈ outputsOf r.axis, (s.drive.out.get o).takes r.tag = true) (o : DriveOut) :
    (startStagings r s).drive.out.get o =
      if o ∈ outputsOf r.axis then
        { s.drive.out.get o with
          staged := if valveOf r.axis r.dir = some o then 1000 else 0
          hitMark := decide (valveOf r.axis r.dir = some o), updatePending := true }
      else s.drive.out.get o := by
  have hzero (o : DriveOut) :
      (((outputsOf r.axis).filter (fun o => some o ≠ valveOf r.axis r.dir)).foldl (stageOut r.tag 0 false) s).drive.out.get o =
        if o ∈ outputsOf r.axis ∧ valveOf r.axis r.dir ≠ some o then
          { s.drive.out.get o with staged := 0, hitMark := false, updatePending := true }
        else s.drive.out.get o := by
    refine (foldl_onOut_get _ o _ s ((outputsOf_nodup r.axis).filter _)).trans ?_
    have hm : o ∈ (outputsOf r.axis).filter (fun o => some o ≠ valveOf r.axis r.dir)
        ↔ o ∈ outputsOf r.axis ∧ valveOf r.axis r.dir ≠ some o := by
      rw [List.mem_filter, decide_eq_true_iff, ne_comm]
    by_cases ho : o ∈ outputsOf r.axis ∧ valveOf r.axis r.dir ≠ some o
    · rw [if_pos (hm.2 ho), if_pos ho, h o ho.1]
      rfl
    · rw [if_neg (fun hx => ho (hm.1 hx)), if_neg ho]
  unfold startStagings
  cases hv : valveOf r.axis r.dir with
  | none =>
      rw [hv] at hzero
      dsimp only
      rw [hzero o]
      simp
  | some v =>
      have hvm := valve_mem hv
      rw [hv] at hzero
      dsimp only
      have hzv := (hzero v).trans (if_neg fun hx => hx.2 rfl)
      have htake := (congrArg (DriveRecord.takes · r.tag) hzv).trans (h v hvm)
      rw [stageOut_taken 1000 true htake o, hzv, hzero o]
      by_cases hov : o = v
      · subst hov
        rw [if_pos rfl, if_pos hvm, if_pos rfl, decide_eq_true rfl]
      · have hvo : some v ≠ some o := fun hx => hov (Option.some.inj hx).symm
        rw [if_neg hov, if_neg hvo, decide_eq_false hvo]
        by_cases ho : o ∈ outputsOf r.axis
        · rw [if_pos ho, if_pos ⟨ho, hvo⟩]
        · rw [if_neg ho, if_neg fun hx => ho hx.1]

/-- R73, R136: the outputs after an entry to STARTING, where no other force than IMMEDIATE stands on them. -/
theorem startRecord_out {r : Record} (reversal : Bool) {s : State}
    (h : ∀ o ∈ outputsOf r.axis, (s.drive.out.get o).force.faultHold = false ∧ (s.drive.out.get o).force.holdoff = false)
    (o : DriveOut) : (startRecord r reversal s).drive.out.get o =
      if o ∈ outputsOf r.axis then startedOut r.tag (decide (valveOf r.axis r.dir = some o)) (s.drive.out.get o)
      else s.drive.out.get o := by
  have hclaim := claim_get r.tag r.axis (s.onRecord r.tag (started reversal))
  have htake : ∀ o ∈ outputsOf r.axis,
      ((((outputsOf r.axis).foldl (claimOut r.tag) (s.onRecord r.tag (started reversal))).drive.out.get o).takes r.tag) = true := by
    intro o ho
    obtain ⟨hf, hh⟩ := h o ho
    rw [hclaim o, if_pos ho, DriveRecord.takes, Force.any]
    change ((some r.tag == some r.tag) && !(false || (s.drive.out.get o).force.faultHold || (s.drive.out.get o).force.holdoff)) = true
    rw [hf, hh]
    simp
  have hs := startStagings_get htake o
  rw [startRecord_eq]
  refine hs.trans ?_
  rw [hclaim o]
  by_cases ho : o ∈ outputsOf r.axis
  · rw [if_pos ho, if_pos ho, if_pos ho]
    by_cases hv : valveOf r.axis r.dir = some o <;> simp [hv, startedOut]
  · rw [if_neg ho, if_neg ho, if_neg ho]
    rfl

/-- R8: the channel of the axis waits for its snapshot. -/
theorem startRecord_channel (r : Record) (reversal : Bool) (s : State) :
    let c := (startRecord r reversal s).sense.get (.axis r.axis)
    c.sync = true ∧ c.snapshotDue = true ∧ c.timer = none := by
  rw [startRecord_eq, synchronise, State.onChannel_sense, PerChannel.get_set_self]
  exact ⟨rfl, rfl, rfl⟩

end Sys2Proof.Machine

namespace Sys2Proof.Machine

/-! ### Changes of the record under one tag -/

theorem onRecord_motion_comp (s : State) (tag : Nat) {f : Record → Record} (g : Record → Record)
    (hf : ∀ r, r.tag = tag → (f r).tag = tag) :
    ((s.onRecord tag f).onRecord tag g).motion = (s.onRecord tag (g ∘ f)).motion := by
  have hm (r : Record) : (if (if r.tag = tag then f r else r).tag = tag then g (if r.tag = tag then f r else r)
      else if r.tag = tag then f r else r) = if r.tag = tag then (g ∘ f) r else r := by
    by_cases h : r.tag = tag
    · rw [if_pos h, if_pos h, if_pos (hf r h)]
      rfl
    · rw [if_neg h, if_neg h, if_neg h]
  simp only [State.onRecord_motion, List.map_map]
  exact congrArg (fun l => { s.motion with records := l }) (List.map_congr_left fun r _ => hm r)

/-- The records of other tags stand. -/
theorem onRecord_filter_ne (s : State) (tag : Nat) {f : Record → Record} (p : Record → Bool)
    (hf : ∀ r, r.tag = tag → (f r).tag = tag) :
    (s.onRecord tag f).motion.records.filter (fun y => y.tag ≠ tag && p y) =
      s.motion.records.filter (fun y => y.tag ≠ tag && p y) := by
  rw [State.onRecord_motion]
  dsimp only
  induction s.motion.records with
  | nil => rfl
  | cons r l ih =>
      rw [List.map_cons, List.filter_cons, List.filter_cons, ih]
      by_cases h : r.tag = tag
      · have h' := hf r h
        simp [h, h']
      · rw [if_neg h]

/-- An uncharged record under a tag leaves the draws of the others. -/
theorem filter_charged_replaced (tag : Nat) {x : Record} (hx : x.charged = false) (l : List Record) :
    (l.map (fun y => if y.tag = tag then x else y)).filter Record.charged =
      l.filter (fun y => y.tag ≠ tag && y.charged) := by
  induction l with
  | nil => rfl
  | cons r l ih =>
      rw [List.map_cons, List.filter_cons, List.filter_cons, ih]
      by_cases h : r.tag = tag
      · simp [h, hx]
      · simp [h]

theorem onRecord_tags (s : State) (tag : Nat) {f : Record → Record} (hf : ∀ r, r.tag = tag → (f r).tag = tag) :
    (s.onRecord tag f).tags = s.tags := by
  rw [State.tags, State.onRecord_motion]
  refine (List.map_map ..).trans (List.map_congr_left fun r _ => ?_)
  change (if r.tag = tag then f r else r).tag = r.tag
  split
  · next h => rw [hf r h, h]
  · rfl

/-- The found record after a change under its tag. -/
theorem find_onRecord_self {s : State} {tag : Nat} {r : Record} {f : Record → Record} (h : s.find tag = some r)
    (hf : ∀ r, r.tag = tag → (f r).tag = tag) : (s.onRecord tag f).find tag = some (f r) := by
  rw [find_onRecord s tag hf, h, Option.map_some, if_pos (find_tag h)]

/-! ### One record rewritten while the others stand -/

/-- t comes from s by changes of the record under a tag, which is now x; the other records, the outputs and the link
stand. -/
structure Replaced (tag : Nat) (s t : State) (x : Record) : Prop where
  find : t.find tag = some x
  only : ∀ y ∈ t.motion.records, y.tag = tag → y = x
  others : ∀ y ∈ t.motion.records, y.tag ≠ tag → y ∈ s.motion.records
  draws : t.motion.records.filter (fun y => y.tag ≠ tag && y.charged) =
    s.motion.records.filter (fun y => y.tag ≠ tag && y.charged)
  change : ListChange s t
  drive : t.drive = s.drive
  link : t.link = s.link
  bank : t.motion.bank = s.motion.bank
  due : t.motion.attemptsDue = s.motion.attemptsDue

namespace Replaced

variable {tag : Nat} {s t : State} {x : Record}

theorem refl (hn : s.tags.Nodup) (h : s.find tag = some x) : Replaced tag s s x where
  find := h
  only _ hy ht := eq_of_find hn h hy ht
  others _ hy _ := hy
  draws := rfl
  change := .refl s
  drive := rfl
  link := rfl
  bank := rfl
  due := rfl

theorem onRecord (h : Replaced tag s t x) (f : Record → Record) (hf : ∀ r, r.tag = tag → (f r).tag = tag) :
    Replaced tag s (t.onRecord tag f) (f x) where
  find := find_onRecord_self h.find hf
  only y hy ht := by
    obtain ⟨z, hz, hzt, rfl⟩ | ⟨-, hne⟩ := mem_onRecord hy
    · rw [h.only z hz hzt]
    · exact absurd ht hne
  others y hy ht := by
    obtain ⟨z, -, hzt, rfl⟩ | ⟨hz, hne⟩ := mem_onRecord hy
    · exact absurd (hf z hzt) ht
    · exact h.others y hz hne
  draws := (onRecord_filter_ne t tag Record.charged hf).trans h.draws
  change := h.change.trans (.onRecord t tag hf)
  drive := h.drive
  link := h.link
  bank := h.bank
  due := h.due

/-- A prewarn request touches no record. -/
theorem prewarnRequest (h : Replaced tag s t x) (a : Axis) (d : Dir) (time : Nat) :
    Replaced tag s (prewarnRequest tag a d time t) x :=
  ⟨h.find, h.only, h.others, h.draws, h.change.trans (.prewarnRequest tag a d time t), h.drive, h.link, h.bank, h.due⟩

/-- R37: the draw sum while the record is uncharged. -/
theorem drawSum (h : Replaced tag s t x) (hx : x.charged = false) :
    t.drawSum = ((s.motion.records.filter (fun y => y.tag ≠ tag && y.charged)).map Record.draw).sum := by
  rw [State.drawSum, ← h.draws]
  refine congrArg (fun l => (l.map Record.draw).sum) (List.filter_congr fun y hy => ?_)
  by_cases ht : y.tag = tag
  · rw [h.only y hy ht, hx, Bool.and_false]
  · simp [ht]

/-- R39: the attempt that a change owes finds nothing to grant where no other record waits. -/
theorem settled (h : Replaced tag s t x) (hx : x.state ≠ .waiting)
    (ha : ∀ y ∈ s.motion.records, y.tag ≠ tag → y.state ≠ .waiting) :
    settle t.oweAttempt = t.onMotion (fun m => { m with attemptsDue := 0 }) := by
  have hn : t.oweAttempt.NoneWaits := fun y hy => by
    by_cases ht : y.tag = tag
    · rw [h.only y hy ht]
      exact hx
    · exact ha y (h.others y hy ht) ht
  exact settle_of_noneWaits hn

end Replaced

/-! ### Ends told over an earlier state (R45) -/

/-- What a RECORD_END tells of a record. -/
theorem recordEndNotice_congr {s w : State} {r x : Record} (res : Result) (htag : x.tag = r.tag) (hkind : x.kind = r.kind)
    (hsubject : x.subject = r.subject) (hclaims : x.claims = r.claims) (haxis : w.motion.axis = s.motion.axis) :
    recordEndNotice x res w = recordEndNotice r res s := by
  simp only [recordEndNotice, htag, hkind, hsubject, hclaims, State.position, haxis]

/-- The end of a record in a later state, with its own notice, is the end of that record. -/
theorem ended_by {s w u : State} {r x : Record} {res : Result} (hf : w.find r.tag = some x)
    (hx : recordEndNotice x res w = recordEndNotice r res s) (hl : w.link.notices = s.link.notices)
    (hc : ListChange (endRecord r.tag res w) u) : Ended r res s u := by
  refine ListChange.ended ⟨endRecord_find _ _ _, fun hq => ?_⟩ hc
  rw [endRecord_notices res hf (hl ▸ hq), hl, hx]

/-! ### Step ends (R103, R105) -/

/-- R99: a record keeps its state as its step is formed. -/
theorem formStep_state {s : State} {r r1 : Record} {q : SeqFields} (h : formStep s r q = some r1) : r1.state = r.state := by
  unfold formStep at h
  split at h
  · cases h
  · obtain ⟨_, _, rfl⟩ := Option.map_eq_some_iff.1 h
    rfl

/-- R41, R103: a step whose axis has a prewarn time enters PREWARN. -/
theorem beginMotion_prewarn {s : State} {tag : Nat} {x : Record} (hf : s.find tag = some x)
    (hw : 0 < (s.limits x.axis).prewarn) : beginMotion tag s =
      prewarnRequest tag x.axis x.dir (s.limits x.axis).prewarn
        ((s.onRecord tag (fun r => { formMarks s r with waitReason := none })).onRecord tag
          (fun r => { r with state := .prewarn })) := by
  rw [beginMotion, hf]
  exact if_pos hw

/-- R103: a step start that passes every stage. -/
theorem stepStart_begins {s : State} {fuel tag : Nat} {r x : Record} {q : SeqFields} (hf : s.find tag = some r)
    (hq : r.seq = some q) (hform : formStep s r q = some x) {w : State} (hw : s.onRecord tag (fun _ => x) = w)
    (hlocks : interlocks w x.axis x.dir x.source = true) (hfree : envelopeBlocked w x.axis x.dir = false)
    (haway : w.positionIs x.axis false (fun p => withinDeadband w x.axis p x.target) = false)
    (hdraw : w.drawSum + x.draw ≤ w.motion.budget) : stepStart (fuel + 1) tag s = beginMotion tag w := by
  subst hw
  rw [stepStart, hf]
  dsimp only
  rw [hq]
  dsimp only
  rw [hform]
  dsimp only
  rw [hlocks, hfree, haway, if_pos hdraw]
  rfl


/-- R105: a SEQUENCE record between two steps. -/
def betweenSteps (q : SeqFields) (x : Record) : Record :=
  { x with
    state := .waiting, pendingResult := none, waitReason := none, stall := none, overload := none
    currentSince := none, stripArmed := false, seq := some q }

theorem leaveMotion_still {r : Record} (s : State) (h : r.inMotion = false) : leaveMotion r s = s :=
  if_neg (Bool.eq_false_iff.1 h)

theorem subject_of_seq {r x : Record} {q q' : SeqFields} (hr : r.seq = some q) (hx : x.seq = some q')
    (hn : q'.number = q.number) : x.subject = r.subject := by
  simp only [Record.subject, hr, hx, hn]

section StepEnd

variable {s : State} {r : Record} {q : SeqFields} (hf : s.find r.tag = some r) (hq : r.seq = some q)
  (hm : r.inMotion = false)

include hf hq hm

/-- R105: a LIMITED step that is the last ends its record LIMITED. -/
theorem stepEnd_last (hlast : (stepsOf s q.number).length ≤ q.index) : stepEnd r.tag .limited s =
    endRecord r.tag .limited (s.onRecord r.tag (betweenSteps { q with limited := true })) := by
  have hadv : stepAdvance r.tag .limited s =
      endRecord r.tag .limited (s.onRecord r.tag (betweenSteps { q with limited := q.limited || true })) := by
    rw [stepAdvance, hf]
    dsimp only
    rw [hq]
    dsimp only
    rw [if_pos hlast, leaveMotion_still s hm]
    have hl : (q.limited || Result.limited == Result.limited) = true := Bool.or_true _
    rw [if_pos hl]
    rfl
  rw [Bool.or_true] at hadv
  rw [stepEnd, hadv, endRecord_find]

/-- R105: a LIMITED step with no pause mark that is not the last stands uncharged with the next step index. -/
theorem stepAdvance_next (hn : s.tags.Nodup) (hnext : q.index < (stepsOf s q.number).length) (hp : q.pause = false) :
    Replaced r.tag s (stepAdvance r.tag .limited s)
      (betweenSteps { q with limited := true, index := q.index + 1, formed := false } r) := by
  have hst : ¬(r.held = true ∧ r.state = .stopping) := fun h => by
    rw [Record.inMotion, h.2] at hm
    cases hm
  have hadv : stepAdvance r.tag .limited s =
      ((s.onRecord r.tag (betweenSteps { q with limited := q.limited || true })).onRecord r.tag (fun r' =>
        { r' with
          lastRefresh := if r.held ∧ r.state = .stopping then s.clock else r'.lastRefresh
          seq := some { q with limited := q.limited || true, index := q.index + 1, formed := false } })) := by
    rw [stepAdvance, hf]
    dsimp only
    rw [hq]
    dsimp only
    rw [if_neg (Nat.not_le.2 hnext), leaveMotion_still s hm, hp]
    rfl
  have h := ((Replaced.refl hn hf).onRecord (betweenSteps { q with limited := q.limited || true }) fun _ h => h).onRecord
    (fun r' : Record => { r' with
      lastRefresh := if r.held ∧ r.state = .stopping then s.clock else r'.lastRefresh
      seq := some { q with limited := q.limited || true, index := q.index + 1, formed := false } }) fun _ h => h
  rw [hadv]
  simp only [if_neg hst, Bool.or_true] at h ⊢
  exact h

/-- R61, R103: a formed step that passes every stage of its step start enters PREWARN. -/
theorem stepEnd_next {x : Record} (hn : s.NextStarts r q true x) (ha : s.AloneWaits r) :
    let t := settle (stepEnd r.tag .limited s)
    t.find r.tag = some { formMarks s x with state := .prewarn, waitReason := none }
      ∧ t.motion.bank = s.motion.bank ∧ t.drive.out = s.drive.out ∧ t.link = s.link := by
  obtain ⟨hnext, hp, hform, hlocks, hfree, haway, hdraw, hwarn⟩ := hn
  obtain ⟨hnodup, -, halone⟩ := ha
  let q' : SeqFields := { q with limited := true, index := q.index + 1, formed := false }
  have h2 := stepAdvance_next hf hq hm hnodup hnext hp
  have hform' : formStep s (betweenSteps q' r) q' = some x := hform
  have hxt : x.tag = r.tag := (formStep_tag hform').trans rfl
  have hxs : x.state = .waiting := (formStep_state hform').trans rfl
  have hxc : x.charged = false := by rw [Record.charged, hxs]
  let u := stepAdvance r.tag .limited s
  let w := u.onRecord r.tag (fun _ => x)
  have h3 : Replaced r.tag s w x := h2.onRecord (fun _ => x) fun _ _ => hxt
  have hw := h3.change
  have hbegin : stepStart stepFuel r.tag u = beginMotion r.tag w := by
    refine stepStart_begins h2.find rfl ((h2.change.formStep _ _).trans hform') rfl ((hw.interlocks ..).trans hlocks)
      ((hw.envelopeBlocked ..).trans hfree) ?_ ?_
    · rw [hw.positionIs, State.positionIs]
      split
      · next y hy => exact (hw.withinDeadband ..).trans (haway y hy)
      · rfl
    · rw [h3.drawSum hxc, hw.budget]
      exact hdraw
  have hbetween : between u r.tag = true := by
    rw [between, h2.find]
    rfl
  have hstep : stepEnd r.tag .limited s = (beginMotion r.tag w).oweAttempt := by
    rw [stepEnd, h2.find]
    dsimp only
    rw [if_pos hbetween, hbegin]
  have hmotion := beginMotion_prewarn h3.find (hw.limits x.axis ▸ hwarn)
  have h5 := ((h3.onRecord (fun r => { formMarks w r with waitReason := none }) fun _ h => (formMarks_tag ..).trans h).onRecord
    (fun r => { r with state := .prewarn }) fun _ h => h).prewarnRequest x.axis x.dir (w.limits x.axis).prewarn
  rw [← hmotion] at h5
  intro t
  have ht : t = (beginMotion r.tag w).onMotion (fun m => { m with attemptsDue := 0 }) := by
    change settle (stepEnd r.tag .limited s) = _
    rw [hstep]
    exact h5.settled (fun h => by cases h) halone
  rw [ht]
  refine ⟨h5.find.trans ?_, h5.bank, congrArg Drive.out h5.drive, h5.link⟩
  rw [hw.formMarks]

end StepEnd

end Sys2Proof.Machine

namespace Sys2Proof.Machine

/-! ### Prewarn-complete (R70, R155) -/

/-- R155: the prewarn timer of a record in PREWARN for the motion it served. -/
theorem exec_prewarnTimerExpiry {s : State} {tag : Nat} {e : PrewarnEntry} {p : PrewarnTimer} {r : Record}
    (he : s.beacon.prewarn.find? (fun e => e.tag = tag) = some e) (hp : e.timer = some p) (hf : s.find tag = some r)
    (hst : r.state = .prewarn) (ha : r.axis = p.axis) (hd : r.dir = p.dir) :
    exec (.prewarnTimerExpiry tag) s =
      .next (settle (prewarnComplete r (prewarnCancel tag (s.upTo (p.began + p.time * 1000))))) := by
  have hf' : (prewarnCancel tag (s.upTo (p.began + p.time * Config.ms))).find tag = some r := hf
  change execPrewarnTimerExpiry tag s = _
  rw [execPrewarnTimerExpiry, he, Option.bind_some, hp]
  dsimp only
  rw [prewarnEvent, hf']
  dsimp only
  rw [if_pos ⟨hst, ha, hd⟩]
  rfl

/-- R61, R70: the record of RDOOR takes its warned mark. -/
def warnedMark (r : Record) (s : State) : State :=
  if r.axis = .rdoor then s.onRecord r.tag (fun r => { r with warned := true }) else s

theorem warnedMark_keeps {β : Type} (g : State → β) (hg : ∀ s t f, g (s.onRecord t f) = g s) (r : Record) (s : State) :
    g (warnedMark r s) = g s := by
  unfold warnedMark
  split
  · exact hg _ _ _
  · rfl

theorem warnedMark_listChange (r : Record) (s : State) : ListChange s (warnedMark r s) := by
  unfold warnedMark
  split
  · exact .onRecord s r.tag
  · exact .refl s

/-- R61: the record with the mark of its prewarn. -/
def Record.warnedMarked (r : Record) : Record := { r with warned := r.axis == .rdoor || r.warned }

theorem warnedMark_find {r : Record} {s : State} (hf : s.find r.tag = some r) :
    (warnedMark r s).find r.tag = some r.warnedMarked := by
  unfold warnedMark Record.warnedMarked
  by_cases ha : r.axis = .rdoor
  · rw [if_pos ha]
    refine (find_onRecord_self hf ?_).trans ?_
    · exact fun _ h => h
    · rw [ha]
      rfl
  · rw [if_neg ha, hf, beq_eq_false_iff_ne.2 ha, Bool.false_or]

theorem warnedMark_replaced {r : Record} {s : State} (hn : s.tags.Nodup) (hf : s.find r.tag = some r) :
    Replaced r.tag s (warnedMark r s) r.warnedMarked := by
  have h := Replaced.refl hn hf
  unfold warnedMark Record.warnedMarked
  by_cases ha : r.axis = .rdoor
  · rw [if_pos ha, beq_iff_eq.2 ha]
    exact h.onRecord (fun r => { r with warned := true }) fun _ h => h
  · rw [if_neg ha, beq_eq_false_iff_ne.2 ha, Bool.false_or]
    exact h

/-- R70: the outcomes of prewarn-complete, each judged before the mark. -/
theorem prewarnComplete_eq (r : Record) (s : State) : prewarnComplete r s =
    if interlocksPrewarnEnd s r = true then
      (if envelopeBlocked s r.axis r.dir = true then
        (if r.seq.isSome = true then stepEnd r.tag .limited (warnedMark r s) else endRecord r.tag .limited (warnedMark r s))
       else enterStarting r (warnedMark r s))
    else endRecord r.tag .interlock (warnedMark r s) := by
  have hc := warnedMark_listChange r s
  have hp : prewarnComplete r s =
      if !interlocksPrewarnEnd (warnedMark r s) r then endRecord r.tag .interlock (warnedMark r s)
      else if envelopeBlocked (warnedMark r s) r.axis r.dir then
        (if r.seq.isSome then stepEnd r.tag .limited (warnedMark r s) else endRecord r.tag .limited (warnedMark r s))
      else enterStarting r (warnedMark r s) := rfl
  rw [hp, hc.interlocksPrewarnEnd, hc.envelopeBlocked]
  cases interlocksPrewarnEnd s r <;> rfl

theorem interlocksPrewarnEnd_iff (s : State) (r : Record) : interlocksPrewarnEnd s r = true ↔
    interlocks s r.axis r.dir r.source = true ∧ (r.axis = .rdoor ∧ r.dir = .inc → r.road = true) := by
  simp only [interlocksPrewarnEnd, Bool.and_eq_true, Bool.or_eq_true, Bool.not_eq_true', Bool.and_eq_false_iff, beq_eq_false_iff_ne]
  refine and_congr_right fun _ => ⟨fun h ho => ?_, fun h => ?_⟩
  · obtain (h | h) | h := h
    · exact absurd ho.1 h
    · exact absurd ho.2 h
    · exact h
  · by_cases ha : r.axis = .rdoor
    · by_cases hd : r.dir = .inc
      · exact .inr (h ⟨ha, hd⟩)
      · exact .inl (.inr hd)
    · exact .inl (.inl ha)

theorem enterStarting_free {r : Record} {s : State} (h : stripPressed s r.axis = false) :
    enterStarting r s = startRecord r false s := by
  have hs : stripPressed (startRecord r false s) r.axis = false :=
    ((ListChange.startRecord r false s).stripPressed _).trans h
  rw [enterStarting, hs]
  rfl

theorem enterStarting_pressed {r : Record} {s : State} (h : stripPressed s r.axis = true) :
    enterStarting r s = endRecord r.tag .obstructed (immediateStop r (startRecord r false s)) := by
  have hs : stripPressed (startRecord r false s) r.axis = true :=
    ((ListChange.startRecord r false s).stripPressed _).trans h
  rw [enterStarting, hs]
  rfl

/-- R70, R73: prewarn-complete with the way free: the entry to STARTING. -/
theorem prewarnComplete_starts {r : Record} {s : State} (hl : interlocksPrewarnEnd s r = true)
    (hb : envelopeBlocked s r.axis r.dir = false) (hs : stripPressed s r.axis = false) :
    prewarnComplete r s = startRecord r false (warnedMark r s) := by
  rw [prewarnComplete_eq, if_pos hl, hb, if_neg Bool.false_ne_true,
    enterStarting_free (((warnedMark_listChange r s).stripPressed _).trans hs)]

/-- R45: the end of a record that only its marks have changed. -/
theorem ended_warned {s w t u : State} {r : Record} {res : Result} (hf : s.find r.tag = some r)
    (hw : w = warnedMark r s) (hm : t.motion.axis = s.motion.axis) (hl : t.link = s.link)
    (hc : ListChange (endRecord r.tag res w) u) : Ended r res t u := by
  subst hw
  refine ended_by (warnedMark_find hf) (recordEndNotice_congr res rfl rfl rfl rfl ?_) ?_ hc
  · rw [hm]
    exact warnedMark_keeps (fun s => s.motion.axis) (fun _ _ _ => rfl) r s
  · rw [hl]
    exact congrArg Link.notices (warnedMark_keeps State.link (fun _ _ _ => rfl) r s)

/-- R70, R73, R136: the state after a prewarn whose motion may start. -/
theorem prewarn_starts {s : State} {r : Record} {n : Nat} (hd : s.motion.attemptsDue = 0) (hf : s.find r.tag = some r)
    (hl : interlocksPrewarnEnd s r = true) (hb : envelopeBlocked s r.axis r.dir = false)
    (hs : stripPressed s r.axis = false)
    (ho : ∀ o ∈ outputsOf r.axis, (s.drive.out.get o).force.faultHold = false ∧ (s.drive.out.get o).force.holdoff = false) :
    let t := settle (prewarnComplete r (prewarnCancel r.tag (s.upTo n)))
    t.clock = max s.clock n
      ∧ (∃ r', t.find r.tag = some r' ∧ r'.state = .starting ∧ r'.dPrev = 0 ∧ r'.axis = r.axis ∧ r'.dir = r.dir
          ∧ r'.warned = (r.axis == .rdoor || r.warned))
      ∧ (∀ o ∈ outputsOf r.axis, (t.drive.out.get o).claim = some r.tag ∧ (t.drive.out.get o).updatePending = true
          ∧ (t.drive.out.get o).staged = (if valveOf r.axis r.dir = some o then 1000 else 0)
          ∧ (t.drive.out.get o).hitMark = decide (valveOf r.axis r.dir = some o))
      ∧ (∀ o ∈ driveOuts, o ∉ outputsOf r.axis → t.drive.out.get o = s.drive.out.get o)
      ∧ (t.sense.get (.axis r.axis)).sync = true ∧ (t.sense.get (.axis r.axis)).snapshotDue = true
      ∧ (t.sense.get (.axis r.axis)).timer = none
      ∧ t.link = s.link ∧ t.motion.bank = s.motion.bank ∧ t.motion.axis = s.motion.axis ∧ Kept s t := by
  let s0 := prewarnCancel r.tag (s.upTo n)
  let w := warnedMark r s0
  have h0 : ListChange (s.upTo n) s0 := .prewarnCancel r.tag _
  have hkeep {β : Type} (g : State → β) (hg : ∀ s t f, g (s.onRecord t f) = g s) : g w = g s0 :=
    warnedMark_keeps g hg r s0
  have ht : prewarnComplete r s0 = startRecord r false w :=
    prewarnComplete_starts ((h0.interlocksPrewarnEnd r).trans hl) ((h0.envelopeBlocked ..).trans hb) ((h0.stripPressed _).trans hs)
  have hc : ListChange (s.upTo n) (startRecord r false w) :=
    h0.trans ((warnedMark_listChange r s0).trans (.startRecord r false w))
  have hdrive : w.drive = s.drive := hkeep State.drive fun _ _ _ => rfl
  have hstart {β : Type} (g : State → β) (hg : ∀ s o f, g (s.onOut o f) = g s)
      (hch : ∀ s a f, g (s.onChannel (.axis a) f) = g s) : g (startRecord r false w) = g (w.onRecord r.tag (started false)) :=
    startRecord_keeps g hg hch r false w
  have hdue : (startRecord r false w).motion.attemptsDue = 0 :=
    (hstart (fun s => s.motion.attemptsDue) (fun _ _ _ => rfl) fun _ _ _ => rfl).trans
      ((hkeep (fun s => s.motion.attemptsDue) fun _ _ _ => rfl).trans hd)
  have hfind : (startRecord r false w).find r.tag = some (started false r.warnedMarked) :=
    (hstart (fun s => s.find r.tag) (fun _ _ _ => rfl) fun _ _ _ => rfl).trans
      (find_onRecord_self (warnedMark_find hf) fun _ h => h)
  have hout := startRecord_out (r := r) (s := w) false (by rw [hdrive]; exact ho)
  rw [hdrive] at hout
  obtain ⟨hsync, hsnap, htimer⟩ := startRecord_channel r false w
  have hset : settle (prewarnComplete r s0) = startRecord r false w := by rw [ht, settle_of_settled hdue]
  change let t := settle (prewarnComplete r s0); _
  rw [hset]
  refine ⟨hc.clock, ⟨_, hfind, rfl, rfl, rfl, rfl, rfl⟩, fun o hm => ?_, fun o _ hm => (hout o).trans (if_neg hm), hsync, hsnap,
    htimer, ?_, ?_, hc.axis, hc.kept⟩
  · rw [hout o, if_pos hm]
    refine ⟨rfl, rfl, ?_, rfl⟩
    by_cases hv : valveOf r.axis r.dir = some o <;> simp [startedOut, hv]
  · exact (hstart State.link (fun _ _ _ => rfl) fun _ _ _ => rfl).trans (hkeep State.link fun _ _ _ => rfl)
  · exact (hstart (fun s => s.motion.bank) (fun _ _ _ => rfl) fun _ _ _ => rfl).trans
      (hkeep (fun s => s.motion.bank) fun _ _ _ => rfl)

theorem startRecord_find {r x : Record} {s : State} (reversal : Bool) (h : s.find r.tag = some x) :
    (startRecord r reversal s).find r.tag = some (started reversal x) :=
  (startRecord_keeps (fun s => s.find r.tag) (fun _ _ _ => rfl) (fun _ _ _ => rfl) r reversal s).trans
    (find_onRecord_self h fun _ h => h)

theorem startRecord_link (r : Record) (reversal : Bool) (s : State) : (startRecord r reversal s).link = s.link :=
  startRecord_keeps State.link (fun _ _ _ => rfl) (fun _ _ _ => rfl) r reversal s

theorem immediateStop_find {r x : Record} {s : State} (h : s.find r.tag = some x) :
    (immediateStop r s).find r.tag = some { x with dPrev := 0 } := by
  have hs : ((outputsOf r.axis).foldl forceImmediate s).find r.tag = some x := by
    rw [State.find, foldl_keeps State.motion (f := forceImmediate) fun _ _ => rfl]
    exact h
  exact find_onRecord_self hs fun _ h => h

/-- The marks and the state of a record are no part of its RECORD_END. -/
theorem recordEndNotice_started {s w : State} (reversal : Bool) (r : Record) (res : Result)
    (h : w.motion.axis = s.motion.axis) :
    recordEndNotice { started reversal r.warnedMarked with dPrev := 0 } res w = recordEndNotice r res s :=
  recordEndNotice_congr res rfl rfl rfl rfl h

theorem formMarks_warned (s : State) (x : Record) (b : Bool) : formMarks s { x with warned := b } = formMarks s x := rfl

/-- R99: the warned mark of a record is kept as its step is formed, and no part of what is formed. -/
theorem formStep_warned {s : State} {r x : Record} {q : SeqFields} (b : Bool) (h : formStep s r q = some x) :
    formStep s { r with warned := b } q = some { x with warned := b } := by
  unfold formStep at h ⊢
  split at h
  · cases h
  · next st hst =>
      obtain ⟨g, hg, rfl⟩ := Option.map_eq_some_iff.1 h
      rw [hg]
      rfl

/-- A step that passes its start for a record passes it with the warned mark too, in a state whose list has changed only
under the record's tag. -/
theorem nextStarts_warned {s w : State} {r x : Record} {q : SeqFields} (h : s.NextStarts r q true x) (hc : ListChange s w)
    (hd : w.motion.records.filter (fun y => y.tag ≠ r.tag && y.charged) =
      s.motion.records.filter (fun y => y.tag ≠ r.tag && y.charged)) (b : Bool) :
    w.NextStarts { r with warned := b } q true { x with warned := b } := by
  obtain ⟨hnext, hp, hform, hlocks, hfree, haway, hdraw, hwarn⟩ := h
  refine ⟨hc.stepsOf q.number ▸ hnext, hp, (hc.formStep _ _).trans (formStep_warned b hform),
    (hc.interlocks ..).trans hlocks, (hc.envelopeBlocked ..).trans hfree, fun y hy => ?_, ?_, ?_⟩
  · exact (hc.withinDeadband ..).trans (haway y ((hc.position _).symm.trans hy))
  · rw [hc.budget]
    exact (congrArg (fun l => (l.map Record.draw).sum + x.draw) hd).trans_le hdraw
  · exact (congrArg AxisLimits.prewarn (hc.limits x.axis)).symm ▸ hwarn

/-- R65, R70, R90, R105: the ends, and the step end, that a prewarn comes to where its motion may not start. -/
theorem prewarn_ends {s : State} {r : Record} {n : Nat} (hf : s.find r.tag = some r) (hst : r.state = .prewarn) :
    let t := settle (prewarnComplete r (prewarnCancel r.tag (s.upTo n)))
    t.clock = max s.clock n ∧ t.motion.axis = s.motion.axis ∧ Kept s t
      ∧ (interlocksPrewarnEnd s r = false → Ended r .interlock s t)
      ∧ (interlocksPrewarnEnd s r = true → envelopeBlocked s r.axis r.dir = true →
        (r.seq = none → Ended r .limited s t)
          ∧ ∀ q, r.seq = some q →
            ((stepsOf s q.number).length ≤ q.index → Ended r .limited s t)
              ∧ ∀ x, s.AloneWaits r → s.NextStarts r q true x →
                t.find r.tag = some { formMarks s x with state := .prewarn, waitReason := none }
                  ∧ t.motion.bank = s.motion.bank ∧ t.drive.out = s.drive.out ∧ t.link = s.link)
      ∧ (interlocksPrewarnEnd s r = true → envelopeBlocked s r.axis r.dir = false → stripPressed s r.axis = true →
        Ended r .obstructed s t) := by
  let s0 := prewarnCancel r.tag (s.upTo n)
  let w := warnedMark r s0
  have h0 : ListChange (s.upTo n) s0 := .prewarnCancel r.tag _
  have hw : ListChange (s.upTo n) w := h0.trans (warnedMark_listChange r s0)
  have hkeep {β : Type} (g : State → β) (hg : ∀ s t f, g (s.onRecord t f) = g s) : g w = g s0 :=
    warnedMark_keeps g hg r s0
  have hlink : w.link = s.link := hkeep State.link fun _ _ _ => rfl
  have haxis : w.motion.axis = s.motion.axis := hw.axis
  have hlocks : interlocksPrewarnEnd s0 r = interlocksPrewarnEnd s r := h0.interlocksPrewarnEnd r
  have hblock : envelopeBlocked s0 r.axis r.dir = envelopeBlocked s r.axis r.dir := h0.envelopeBlocked ..
  have hstill : r.warnedMarked.inMotion = false := by
    change r.inMotion = false
    rw [Record.inMotion, hst]
  have hwf : w.find r.tag = some r.warnedMarked := warnedMark_find hf
  have hc : ListChange (s.upTo n) (settle (prewarnComplete r s0)) :=
    h0.trans ((ListEffects.prewarnComplete r s0).listChange.trans (.settle _))
  have hended (res : Result) : Ended r res s (settle (endRecord r.tag res w)) :=
    ended_warned (s := s0) hf rfl rfl rfl (.settle _)
  change let t := settle (prewarnComplete r s0); _
  intro t
  refine ⟨hc.clock, hc.axis, hc.kept, fun hl => ?_, fun hl hb => ⟨fun hq => ?_, fun q hq => ⟨fun hlast => ?_, fun x ha hn => ?_⟩⟩,
    fun hl hb hs => ?_⟩
  · have ht : prewarnComplete r s0 = endRecord r.tag .interlock w := by
      rw [prewarnComplete_eq, hlocks, hl, if_neg Bool.false_ne_true]
    exact congrArg settle ht ▸ hended .interlock
  · have ht : prewarnComplete r s0 = endRecord r.tag .limited w := by
      rw [prewarnComplete_eq, hlocks, hl, hblock, hb, hq]
      rfl
    exact congrArg settle ht ▸ hended .limited
  · have ht : prewarnComplete r s0 = stepEnd r.tag .limited w := by
      rw [prewarnComplete_eq, hlocks, hl, hblock, hb, hq]
      rfl
    have hstep := stepEnd_last (s := w) (r := r.warnedMarked) hwf hq hstill ((hw.stepsOf q.number).symm ▸ hlast)
    have hend : Ended r .limited s (settle (stepEnd r.tag .limited w)) := by
      refine ended_by (w := w.onRecord r.tag (betweenSteps { q with limited := true }))
        (find_onRecord_self hwf fun _ h => h) (recordEndNotice_congr .limited rfl rfl (subject_of_seq hq rfl rfl) ?_ haxis) (congrArg Link.notices hlink)
        (hstep ▸ ListChange.settle _)
      exact (claims_of_seq (q := { q with limited := true }) rfl).trans (claims_of_seq hq).symm
    exact congrArg settle ht ▸ hend
  · have ht : prewarnComplete r s0 = stepEnd r.warnedMarked.tag .limited w := by
      rw [prewarnComplete_eq, hlocks, hl, hblock, hb, hq]
      rfl
    obtain ⟨hnodup, hdue, halone⟩ := ha
    have hrep : Replaced r.tag s0 w r.warnedMarked := warnedMark_replaced hnodup hf
    have hn0 : (s.upTo n).NextStarts r q true x := hn
    have hn' : w.NextStarts r.warnedMarked q true { x with warned := r.axis == .rdoor || r.warned } :=
      nextStarts_warned hn0 hw hrep.draws _
    have ha' : w.AloneWaits r.warnedMarked :=
      ⟨hw.tags.nodup hnodup, hrep.due.trans hdue, fun y hy hne => halone y (hrep.others y hy hne) hne⟩
    obtain ⟨hfind, hbank, hout, hl'⟩ := stepEnd_next (r := r.warnedMarked) hwf hq hstill hn' ha'
    have hmarks : formMarks w { x with warned := r.axis == .rdoor || r.warned } = formMarks s x :=
      (hw.formMarks _).trans (formMarks_warned (s.upTo n) x _)
    rw [hmarks] at hfind
    rw [← ht] at hfind hbank hout hl'
    exact ⟨hfind, hbank.trans hrep.bank, hout.trans (congrArg Drive.out hrep.drive), hl'.trans hlink⟩
  · have hwb : stripPressed w r.axis = true := (hw.stripPressed _).trans hs
    have ht : prewarnComplete r s0 = endRecord r.tag .obstructed (immediateStop r (startRecord r false w)) := by
      rw [prewarnComplete_eq, hlocks, hl, hblock, hb, if_pos rfl, if_neg Bool.false_ne_true, enterStarting_pressed hwb]
    have hch : ListChange w (immediateStop r (startRecord r false w)) :=
      (ListChange.startRecord r false w).trans (.immediateStop r _)
    refine ended_by (immediateStop_find (startRecord_find false hwf))
      (recordEndNotice_started false r .obstructed (hch.axis.trans haxis)) ?_ (congrArg settle ht ▸ ListChange.settle _)
    rw [immediateStop_link, startRecord_link, hlink]

/-! ### The snapshot (R8, R73) -/

theorem raised_ends {s : State} {a : Axis} {r : Record} (k : FaultKind) (pos : Axis → Option Int)
    (hr : r ∈ s.motion.records) (hc : r.claims a = true) (hf : s.faulted a = false) :
    (settle (raiseFaults [a] k pos s)).find r.tag = none := by
  refine (ListChange.settle _).find_none ?_
  have hfresh : freshAxes [a] s = [a] := List.filter_eq_self.2 (by simp [hf])
  have hvictim : r.tag ∈ faultVictims [a] (heldForFault [a] k pos s) := by
    refine List.mem_map.2 ⟨r, List.mem_filter.2 ⟨?_, by simp [hc]⟩, rfl⟩
    rw [heldForFault_records]
    exact hr
  rw [raiseFaults_eq, hfresh]
  refine find_eq_none_iff.2 fun hmem => ?_
  obtain ⟨x, hx, ht⟩ := List.mem_map.1 hmem
  have hx' : x ∈ ((faultVictims [a] (heldForFault [a] k pos s)).foldl (cutRecord .fault)
      (heldForFault [a] k pos s)).motion.records := hx
  rw [foldl_cutRecord_filter, List.mem_filter] at hx'
  exact of_decide_eq_true hx'.2 (ht ▸ hvictim)

theorem goodSample_codes {s : State} {a : Axis} {t : Trigger} {code : RawCode} {p : Int} (h : s.GoodSample a t code p) :
    ∃ cv c, (s.sense.get (.axis a)).conversion = some cv ∧ cv.trigger = t ∧ s.Codes a cv code c
      ∧ (s.profile.calibration.channel.get (.axis a)).inRange c = true
      ∧ (s.profile.calibration.channel.get (.axis a)).points.scale c = p ∧ s.withinMargin a p = p
      ∧ s.alternateDisagrees a cv code p = false := by
  obtain ⟨hlo, hhi, cv, hc, ht, h⟩ := h
  have hmargin : s.withinMargin a p = p := by
    unfold State.withinMargin
    rw [if_neg (by omega), if_neg (by omega)]
  obtain ⟨hd, hr, hs⟩ | ⟨alt, tol, c, hd, hp, hr, hs, hdis⟩ := h
  · exact ⟨cv, _, hc, ht, .inl ⟨hd, rfl⟩, hr, hs, hmargin, alternateDisagrees_single cv code p hd⟩
  · refine ⟨cv, c, hc, ht, .inr ⟨by rw [hd]; rfl, hp⟩, hr, hs, hmargin, ?_⟩
    rw [State.alternateDisagrees, hd]
    exact hdis

theorem takeSample_mover (a b : Axis) (sm : Sample) (s : State) : (takeSample a sm s).mover b = s.mover b := rfl

theorem deliverAxis_kept (a : Axis) (sm : Sample) (s : State) (n : Nat) : Kept s (deliverAxis a sm (s.upTo n)) :=
  kept_trans (takeSample_kept a sm (s.upTo n)) (SampleKept.delivered a sm (s.upTo n)).kept

/-- R15, R129: a sample that raises a fault ends the record that claims its axis. -/
theorem deliverAxis_ends {s : State} {a : Axis} {sm : Sample} {r : Record} {n : Nat} {k : FaultKind} {pos : Option Int}
    (h : sampleFault (takeSample a sm (s.upTo n)) a sm = some (k, pos)) (hr : r ∈ s.motion.records)
    (hc : r.claims a = true) (hf : s.faulted a = false) :
    let t := deliverAxis a sm (s.upTo n)
    t.find r.tag = none ∧ Latched a k pos s t ∧ KeptAxes [a] s t ∧ Kept s t := by
  obtain ⟨hl, hax, hk, -⟩ := deliverAxis_faults a sm (s.upTo n) h hf
  refine ⟨?_, hl, hax, hk⟩
  rw [deliverAxis_raises a sm (s.upTo n) h]
  exact raised_ends k _ (s := takeSample a sm (s.upTo n)) hr hc ((takeSample_faulted ..).trans hf)

/-- R73: a good snapshot takes the record of its axis to MOVING. -/
theorem snapshot_moves {s : State} {a : Axis} {r : Record} {cv : Conversion} {code : RawCode} {c : Int} {n : Nat}
    (hm : s.mover a = some r) (hst : r.state = .starting) (hr : (s.profile.calibration.channel.get (.axis a)).inRange c = true)
    (hmargin : s.withinMargin a ((s.profile.calibration.channel.get (.axis a)).points.scale c) =
      (s.profile.calibration.channel.get (.axis a)).points.scale c)
    (hdis : s.alternateDisagrees a cv code ((s.profile.calibration.channel.get (.axis a)).points.scale c) = false)
    (ht : cv.trigger = .snapshot) :
    deliverAxis a (s.sampleOf a cv code c) (s.upTo n) =
      (takeSample a (s.sampleOf a cv code c) (s.upTo n)).onRecord r.tag (fun r => { r with state := .moving }) := by
  obtain ⟨hrange, -, hbeyond, -, hlat, -⟩ := sampleOf_good cv code hr
  rw [hmargin, hdis] at hlat
  rw [hmargin] at hbeyond
  have hm' : (takeSample a (s.sampleOf a cv code c) (s.upTo n)).mover a = some r := hm
  rw [deliverAxis_snapshot a _ _ (sampleFault_none hrange hlat (.inl (hbeyond.trans (bne_self_eq_false _))))
    ((sampleOf_trigger ..).trans ht), goodSnapshot, hm']
  exact if_pos hst

/-- Settles O30. -/
theorem motionsStart : Obligations.MotionsStart := by
  refine ⟨fun s tag e p r hd he hp hf hst ha hdir hl hb hs ho => ?_, fun s tag e p r he hp hf hst ha hdir => ?_,
    fun s a code r hm hst hf => ⟨fun p hg => ?_, fun cv hcv htr hfa hcl c hcode => ?_⟩⟩
  · have htag := find_tag hf
    subst htag
    exact ⟨_, exec_prewarnTimerExpiry he hp hf hst ha hdir, prewarn_starts hd hf hl hb hs ho⟩
  · have htag := find_tag hf
    subst htag
    intro opens allowed
    obtain ⟨hclock, hax, hk, hlock, hblock, hstrip⟩ := prewarn_ends (n := p.began + p.time * 1000) hf hst
    have hal : interlocksPrewarnEnd s r = true ↔ allowed := interlocksPrewarnEnd_iff s r
    exact ⟨_, exec_prewarnTimerExpiry he hp hf hst ha hdir, hclock, hax, hk,
      fun hn => hlock (Bool.eq_false_iff.2 fun h => hn (hal.1 h)), fun h => hblock (hal.2 h), fun h => hstrip (hal.2 h)⟩
  · obtain ⟨cv, c, hc, ht, hcode, hr, hscale, hmargin, hdis⟩ := goodSample_codes hg
    subst hscale
    obtain ⟨-, hpos, -, hax, -, -⟩ := delivered_spec (s := s) (a := a) (cv := cv) (code := code) (c := c)
      (now := cv.began + if (dualTrack s.profile.calibration (.axis a)).isSome then 50 else 25) rfl
    have hsnap := snapshot_moves hm hst hr hmargin hdis ht
      (n := cv.began + if (dualTrack s.profile.calibration (.axis a)).isSome then 50 else 25)
    refine ⟨_, exec_axisSample hc hcode, ?_, ?_, fun x hx hne => ?_, ?_, ?_, ?_, hax, deliverAxis_kept ..⟩
    · rw [hsnap]
      exact find_onRecord_self hf fun _ h => h
    · rw [hpos, if_pos hr, hmargin]
    · rw [hsnap]
      exact List.mem_map.2 ⟨x, hx, if_neg hne⟩
    · rw [hsnap]
      rfl
    · rw [hsnap]
      rfl
    · rw [hsnap]
      rfl
  · intro k
    have hx := exec_axisSample hcv hcode
    have hmem := mem_of_mover hm
    refine ⟨fun hr => ?_, fun hr hout hcount => ?_⟩
    · have hfault := sampleFault_range (s1 := takeSample a (s.sampleOf a cv code c)
        (s.upTo (cv.began + if (dualTrack s.profile.calibration (.axis a)).isSome then 50 else 25))) a
        (sampleOf_bad cv code hr).1
      exact ⟨_, hx, deliverAxis_ends hfault hmem hcl hfa⟩
    · obtain ⟨hrange, hvalue, hbeyond, -, hlat, -⟩ := sampleOf_good cv code hr
      have hlat' : (s.sampleOf a cv code c).latched = false := by
        rw [hlat, decide_eq_false (Nat.not_le.2 hcount), Bool.and_false]
      have hfault := sampleFault_beyond (s1 := takeSample a (s.sampleOf a cv code c)
        (s.upTo (cv.began + if (dualTrack s.profile.calibration (.axis a)).isSome then 50 else 25))) (a := a)
        hrange hlat' (by rw [hbeyond]; exact bne_iff_ne.2 hout) (by rw [takeSample_mover]; exact Option.isSome_iff_exists.2 ⟨r, hm⟩)
      rw [hvalue] at hfault
      exact ⟨_, hx, deliverAxis_ends hfault hmem hcl hfa⟩

end Sys2Proof.Machine

namespace Sys2Proof.Machine

/-! ### Readings of the bridge halves (R142, R145 to R147) -/

theorem gateTimes_high (c : Nat) : 0 < (gateTimes c).high ↔ 8 < c := by
  unfold gateTimes
  split
  · simp; omega
  split
  · simp; omega
  split
  · simp
  split
  · simp
  · simp; omega

/-- R142, R145: what conducts in a period that ends. -/
theorem conductedAll_iff (s : State) (o : DriveOut) :
    (s.drive.out.get o).conductedAll o = true ↔ s.Conducted o := by
  unfold DriveRecord.conductedAll conducts State.Conducted
  rw [Bool.or_eq_true]
  refine or_congr_right ?_
  cases hb : isBridge o with
  | true => simp [gateTimes_high]
  | false => simp

theorem driveReading_eq {s0 s : State} (h : s0.drive.out = s.drive.out) (x : DriveOut × Sense) :
    driveReading s0 x = s.readingAt x := by
  rw [driveReading, h, readingOf, State.readingAt]
  by_cases hc : s.Conducted x.1
  · rw [(conductedAll_iff s x.1).2 hc, if_pos hc, if_pos rfl]
  · rw [Bool.eq_false_iff.2 fun h => hc ((conductedAll_iff s x.1).1 h), if_neg hc, if_neg Bool.false_ne_true]
    rfl

theorem thresholdsOf_open (o : DriveOut) : (Builtin.driveThresholds o).openBelow = (thresholdsOf o).1 := by
  cases o <;> rfl

/-- What an output drives: its claim, its forces and its duties. -/
def DriveRecord.drives (r : DriveRecord) : Option Nat × Force × Nat × Nat := (r.claim, r.force, r.active, r.staged)

/-- w comes from u by readings and counts of outputs. -/
structure Measured (u w : State) : Prop where
  rest : w = { u with drive := w.drive }
  drives : ∀ o, (w.drive.out.get o).drives = (u.drive.out.get o).drives

namespace Measured

theorem trans {u v w : State} (h : Measured u v) (k : Measured v w) : Measured u w where
  rest := by
    rw [k.rest, h.rest]
  drives o := (k.drives o).trans (h.drives o)

theorem onOut (u : State) (o : DriveOut) {f : DriveRecord → DriveRecord} (hf : ∀ r, (f r).drives = r.drives) :
    Measured u (u.onOut o f) where
  rest := rfl
  drives o' := by
    rw [onOut_get]
    split
    · next h => rw [h]; exact hf _
    · rfl

end Measured

/-- R146, R147: a sound reading makes no finding. -/
theorem checkDrive_sound {s s0 : State} (u : State) {x : DriveOut × Sense} (h : s0.drive.out = s.drive.out)
    (hs : s.ReadsSound x) : Measured u (checkDrive s0 u x) := by
  have hread := driveReading_eq h x
  have hsound : (s0.drive.out.get x.1).conductedAll x.1 = true →
      ¬(Builtin.driveThresholds x.1).shortAbove < driveReading s0 x
        ∧ ¬driveReading s0 x < (Builtin.driveThresholds x.1).openBelow := by
    intro hc
    rw [h, conductedAll_iff] at hc
    obtain ⟨hlo, hhi⟩ := hs hc
    rw [hread, State.readingAt, if_pos hc, thresholdsOf_eq, thresholdsOf_open]
    omega
  have hfirst : Measured u (u.onOut x.1 (fun r => { r with reading := driveReading s0 x })) := .onOut u x.1 fun _ => rfl
  unfold checkDrive
  dsimp only
  split
  · next hshort =>
      obtain ⟨⟨hc, -⟩, hd⟩ := (Bool.and_eq_true_iff.1 hshort).imp_left Bool.and_eq_true_iff.1
      exact absurd (of_decide_eq_true hd) (hsound hc).1
  · refine hfirst.trans ?_
    unfold openCheck
    dsimp only
    split
    · next hopen =>
        rw [if_neg (hsound (Bool.and_eq_true_iff.1 hopen).1).2]
        exact .onOut _ x.1 fun _ => rfl
    · exact .onOut _ x.1 fun _ => rfl

/-! ### The current watch of a door (R89) -/

/-- u comes from the state v by readings of outputs and by clears of the current watch of records with these tags. -/
structure Watched (T : Nat → Prop) (v u : State) : Prop where
  records : ∃ g : Record → Record, (∀ r, g r = r ∨ g r = { r with currentSince := none } ∧ T r.tag)
    ∧ u.motion = { v.motion with records := v.motion.records.map g }
  rest : u = { v with motion := u.motion, drive := u.drive }
  drives : ∀ o, (u.drive.out.get o).drives = (v.drive.out.get o).drives

namespace Watched

variable {T : Nat → Prop} {v u w : State}

theorem refl (T : Nat → Prop) (v : State) : Watched T v v :=
  ⟨⟨id, fun _ => .inl rfl, by rw [List.map_id]⟩, rfl, fun _ => rfl⟩

theorem measured (h : Watched T v u) (k : Measured u w) : Watched T v w where
  records := by
    obtain ⟨g, hg, hm⟩ := h.records
    exact ⟨g, hg, by rw [k.rest]; exact hm⟩
  rest := by
    rw [k.rest, h.rest]
  drives o := (k.drives o).trans (h.drives o)

theorem clear (h : Watched T v u) {tag : Nat} (ht : T tag) :
    Watched T v (u.onRecord tag (fun r => { r with currentSince := none })) where
  records := by
    obtain ⟨g, hg, hm⟩ := h.records
    refine ⟨fun r => if (g r).tag = tag then { g r with currentSince := none } else g r, fun r => ?_, ?_⟩
    · dsimp only
      obtain hr | ⟨hr, hT⟩ := hg r
      · rw [hr]
        split
        · next htag => exact .inr ⟨rfl, htag ▸ ht⟩
        · exact .inl rfl
      · rw [hr]
        refine .inr ⟨?_, hT⟩
        split <;> rfl
    · rw [State.onRecord_motion, hm]
      simp only [List.map_map]
      rfl
  rest := by
    rw [State.onRecord, State.onMotion, h.rest]
  drives := h.drives

theorem profile (h : Watched T v u) : u.profile = v.profile := by rw [h.rest]
theorem link (h : Watched T v u) : u.link = v.link := by rw [h.rest]
theorem clock (h : Watched T v u) : u.clock = v.clock := by rw [h.rest]
theorem sense (h : Watched T v u) : u.sense = v.sense := by rw [h.rest]
theorem pins (h : Watched T v u) : u.pins = v.pins := by rw [h.rest]
theorem store (h : Watched T v u) : u.store = v.store := by rw [h.rest]

theorem axis (h : Watched T v u) : u.motion.axis = v.motion.axis := by
  obtain ⟨g, -, hm⟩ := h.records
  rw [hm]

theorem due (h : Watched T v u) : u.motion.attemptsDue = v.motion.attemptsDue := by
  obtain ⟨g, -, hm⟩ := h.records
  rw [hm]

/-- What is found by anything but its current watch is found again. -/
theorem findIn (h : Watched T v u) (p : Record → Bool) (hp : ∀ r : Record, p { r with currentSince := none } = p r) :
    ∃ g : Record → Record, (∀ r, g r = r ∨ g r = { r with currentSince := none } ∧ T r.tag)
      ∧ u.motion.records.find? p = (v.motion.records.find? p).map g := by
  obtain ⟨g, hg, hm⟩ := h.records
  refine ⟨g, hg, ?_⟩
  have hpg : p ∘ g = p := by
    funext r
    obtain hr | ⟨hr, -⟩ := hg r
    · rw [Function.comp, hr]
    · rw [Function.comp, hr, hp]
  rw [hm, List.find?_map, hpg]

theorem find_kept (h : Watched T v u) {r : Record} (hf : v.find r.tag = some r) (ht : ¬T r.tag) :
    u.find r.tag = some r := by
  obtain ⟨g, hg, hu⟩ := h.findIn (fun x => x.tag = r.tag) fun _ => rfl
  have hgr : g r = r := (hg r).resolve_right fun hx => ht hx.2
  exact hu.trans ((congrArg (Option.map g) hf).trans (congrArg some hgr))

theorem mover_kept (h : Watched T v u) {a : Axis} {r : Record} (hm : v.mover a = some r) (ht : ¬T r.tag) :
    u.mover a = some r := by
  obtain ⟨g, hg, hu⟩ := h.findIn (fun x => x.axis = a && x.inMotion) fun _ => rfl
  have hgr : g r = r := (hg r).resolve_right fun hx => ht hx.2
  exact hu.trans ((congrArg (Option.map g) hm).trans (congrArg some hgr))

end Watched

/-- R89: at this reading the current watch of every record in motion on the output's door has nothing to count, and may
clear only those of these tags. -/
def RestsAt (T : Nat → Prop) (s v : State) (y : DriveOut × Sense) : Prop :=
  ∀ b, doorOf y.1 = some b → ∀ z, v.mover b = some z → z.comparesCurrent → y.1 = driveOutput b z.dir →
    s.readingAt y ≤ v.profile.limits.doorCurrent ∧ T z.tag

/-- R89: a reading at which the watch rests. -/
theorem doorCurrent_rests {T : Nat → Prop} {v u : State} {b : Axis} {o : DriveOut} {reading : Nat} (h : Watched T v u)
    (hr : ∀ z, v.mover b = some z → z.comparesCurrent → o = driveOutput b z.dir →
      reading ≤ v.profile.limits.doorCurrent ∧ T z.tag) : Watched T v (doorCurrent o reading b u) := by
  obtain ⟨g, hg, hu⟩ := h.findIn (fun x => x.axis = b && x.inMotion) fun _ => rfl
  have hum : u.mover b = (v.mover b).map g := hu
  unfold doorCurrent
  cases hm : v.mover b with
  | none =>
      rw [hum, hm]
      exact h
  | some z =>
      rw [hum, hm]
      have hza : z.axis = b := axis_of_mover hm
      have hgz : (g z).axis = z.axis ∧ (g z).dir = z.dir ∧ (g z).state = z.state ∧ (g z).tag = z.tag := by
        obtain hx | ⟨hx, -⟩ := hg z <;> rw [hx] <;> exact ⟨rfl, rfl, rfl, rfl⟩
      obtain ⟨hax, hdir, hst, htag⟩ := hgz
      dsimp only [Option.map_some]
      rw [hax, hza, hdir, hst, htag, h.profile]
      split
      · next hc =>
          obtain ⟨hle, hT⟩ := hr z hm hc.2 hc.1.symm
          rw [if_neg (Nat.not_lt.2 hle)]
          exact h.clear hT
      · exact h

/-- R89, R145: the readings at which every watch rests. -/
theorem foldl_judgeDrive_rests {T : Nat → Prop} {s s0 v : State} (h0 : s0.drive.out = s.drive.out) :
    ∀ (l : List (DriveOut × Sense)) (u : State), Watched T v u → (∀ y ∈ l, s.ReadsSound y ∧ RestsAt T s v y) →
      Watched T v (l.foldl (judgeDrive s0) u)
  | [], _, h, _ => h
  | y :: l, u, h, hl => by
      obtain ⟨hs, hr⟩ := hl y List.mem_cons_self
      refine foldl_judgeDrive_rests h0 l _ ?_ fun z hz => hl z (List.mem_cons_of_mem y hz)
      have hm := h.measured (checkDrive_sound u h0 hs)
      rw [judgeDrive_eq]
      cases hd : doorOf y.1 with
      | none => exact hm
      | some b =>
          rw [driveReading_eq h0]
          exact doorCurrent_rests hm fun z hz hc ho => hr b hd z hz hc ho

end Sys2Proof.Machine

namespace Sys2Proof.Machine

/-! ### The obstruction of a door (R90, R91) -/

/-- R64: the entries that bear read the profile and the positions. -/
theorem bearing_congr {s u : State} (hp : u.profile = s.profile) (ha : u.motion.axis = s.motion.axis) (a : Axis) (d : Dir) :
    bearing u a d = bearing s a d := by
  unfold bearing Envelope.active State.positionIs State.position
  rw [hp, ha]

theorem obstruct_ends {u : State} {a : Axis} {r : Record} (hm : u.mover a = some r)
    (hn : ¬(r.state = .moving ∧ r.dir = .dec ∧ r.reversing = false ∧ (u.position a).isSome = true)) :
    obstruct a u = endRecord r.tag .obstructed (immediateStop r u) := by
  unfold obstruct
  rw [hm]
  dsimp only
  split
  · next hst hd hr hp => exact absurd ⟨hst, hd, hr, by rw [hp]; rfl⟩ hn
  · rfl

theorem obstruct_reverses {u : State} {a : Axis} {r : Record} {p : Int} (hm : u.mover a = some r)
    (hst : r.state = .moving) (hd : r.dir = .dec) (hr : r.reversing = false) (hp : u.position a = some p) :
    obstruct a u = reverseDoor r p u := by
  rw [obstruct, hm]
  dsimp only
  rw [hst, hd, hr, hp]

/-- u is a state in which the record r on the door a meets an obstruction, come to from s. -/
structure ObstructionAt (s u : State) (a : Axis) (r : Record) : Prop where
  mover : u.mover a = some r
  find : u.find r.tag = some r
  axis : u.motion.axis = s.motion.axis
  due : u.motion.attemptsDue = s.motion.attemptsDue
  profile : u.profile = s.profile
  link : u.link = s.link
  held : ∀ o, (u.drive.out.get o).claim = (s.drive.out.get o).claim ∧ (u.drive.out.get o).force = (s.drive.out.get o).force

/-- R91: a closing motion that an obstruction may reverse. -/
abbrev State.Reverses (s : State) (a : Axis) (r : Record) : Prop :=
  r.state = .moving ∧ r.dir = .dec ∧ r.reversing = false ∧ (s.position a).isSome = true

/-- R91: the target of a reversal. -/
abbrev State.reversalGoal (s : State) (a : Axis) (p : Int) : Int := envelopeClamp s a .inc (min (p + 100) (s.limits a).high)

/-- R91: what refuses a reversal. -/
abbrev State.RefusesReversal (s : State) (a : Axis) (r : Record) (p : Int) : Prop :=
  a = .rdoor ∧ ¬(r.road = true ∧ r.warned = true) ∨ withinDeadband s a p (s.reversalGoal a p) = true
    ∨ envelopeBlocked s a .inc = true

/-- R91, R136: the reversal has begun. -/
structure Reversed (s t : State) (a : Axis) (r : Record) (p : Int) : Prop where
  find : ∃ r', t.find r.tag = some r' ∧ r'.state = .starting ∧ r'.reversing = true ∧ r'.dir = .inc
    ∧ r'.target = s.reversalGoal a p ∧ r'.speed = .slow ∧ r'.dPrev = 0 ∧ r'.draw = r.draw ∧ r'.stripArmed = true
    ∧ r'.limitMark = (s.reversalGoal a p != min (p + 100) (s.limits a).high)
    ∧ r'.clamped = (r.clamped || s.reversalGoal a p != p + 100) ∧ r'.pendingResult = none
  outs : ∀ o ∈ outputsOf a, (t.drive.out.get o).active = 0 ∧ (t.drive.out.get o).staged = 0
    ∧ (t.drive.out.get o).force.any = false ∧ (t.drive.out.get o).claim = some r.tag
  snapshot : (t.sense.get (.axis a)).snapshotDue = true
  link : t.link = s.link

theorem reversal_target (u : State) (r : Record) (p : Int) : (reversal u r p).target = u.reversalGoal r.axis p := rfl

theorem stoppedForReversal_find {u : State} {r : Record} (p : Int) (hf : u.find r.tag = some r) :
    (stoppedForReversal u r p).find r.tag = some (reversal u r p) :=
  find_onRecord_self (immediateStop_find hf) fun _ _ => rfl

/-- R85, R73: the outputs of a door as its reversal begins. -/
theorem reversal_out {u : State} {r : Record} (p : Int) (hd : isDoor r.axis = true) {o : DriveOut} (ho : o ∈ outputsOf r.axis)
    (h : ∀ o ∈ outputsOf r.axis, (u.drive.out.get o).force.faultHold = false ∧ (u.drive.out.get o).force.holdoff = false) :
    let w := (startRecord (reversal u r p) true (stoppedForReversal u r p)).drive.out.get o
    w.active = 0 ∧ w.staged = 0 ∧ w.force.any = false ∧ w.claim = some r.tag := by
  have hstop (o : DriveOut) (ho : o ∈ outputsOf r.axis) : (stoppedForReversal u r p).drive.out.get o =
      { u.turnedOff o (u.drive.out.get o) with
        force := { (u.drive.out.get o).force with immediate := (u.drive.out.get o).claim.isSome } } :=
    (foldl_forceImmediate_get o (outputsOf r.axis) u (outputsOf_nodup r.axis)).trans (if_pos ho)
  have hv : valveOf r.axis (reversal u r p).dir = none := by
    cases ha : r.axis <;> rw [ha] at hd <;> first | rfl | exact absurd hd (by decide)
  have hout := startRecord_out (r := reversal u r p) true (s := stoppedForReversal u r p)
    (fun o ho => by rw [hstop o ho]; exact h o ho) o
  obtain ⟨hf, hh⟩ := h o ho
  intro w
  have hw : w = startedOut r.tag false ((stoppedForReversal u r p).drive.out.get o) := by
    refine hout.trans ((if_pos ho).trans ?_)
    change startedOut r.tag (decide (valveOf r.axis (reversal u r p).dir = some o)) _ = _
    rw [hv]
    rfl
  rw [hw, hstop o ho]
  refine ⟨rfl, rfl, ?_, rfl⟩
  change (false || (u.drive.out.get o).force.faultHold || (u.drive.out.get o).force.holdoff) = false
  rw [hf, hh]
  rfl

namespace ObstructionAt

variable {s u : State} {a : Axis} {r : Record} (h : ObstructionAt s u a r)

include h

theorem position : u.position a = s.position a := by rw [State.position, State.position, h.axis]

theorem ends (hn : ¬s.Reverses a r) : Ended r .obstructed s (settle (obstruct a u)) := by
  rw [obstruct_ends h.mover (h.position ▸ hn)]
  refine ended_by (immediateStop_find h.find) (recordEndNotice_congr .obstructed rfl rfl rfl rfl ?_) ?_ (.settle _)
  · exact (ListChange.immediateStop r u).axis.trans h.axis
  · rw [immediateStop_link, h.link]

theorem goal (p : Int) : u.reversalGoal a p = s.reversalGoal a p := by
  rw [State.reversalGoal, State.reversalGoal, envelopeClamp, envelopeClamp, bearing_congr h.profile h.axis, State.limits,
    State.limits, h.profile]

theorem refuses_iff (p : Int) :
    ((a == .rdoor && !(r.road && r.warned)) || withinDeadband u a p (u.reversalGoal a p) || envelopeBlocked u a .inc) = true
      ↔ s.RefusesReversal a r p := by
  have hd : withinDeadband u a p (s.reversalGoal a p) = withinDeadband s a p (s.reversalGoal a p) := by
    rw [withinDeadband, withinDeadband, State.limits, State.limits, h.profile]
  have hb : envelopeBlocked u a .inc = envelopeBlocked s a .inc := by
    rw [envelopeBlocked, envelopeBlocked, h.position, bearing_congr h.profile h.axis]
  rw [h.goal, hd, hb]
  simp only [Bool.or_eq_true, Bool.and_eq_true, beq_iff_eq, Bool.not_eq_true', Bool.and_eq_false_iff, or_assoc,
    State.RefusesReversal]
  refine or_congr_left (and_congr_right fun _ => ?_)
  rw [not_and_or, Bool.not_eq_true, Bool.not_eq_true]

theorem reverses_eq {p : Int} (hr : s.Reverses a r) (hp : s.position a = some p) : obstruct a u = reverseDoor r p u := by
  obtain ⟨hst, hdir, hrev, -⟩ := hr
  exact obstruct_reverses h.mover hst hdir hrev (h.position.trans hp)

theorem axis_eq : r.axis = a := axis_of_mover h.mover

theorem refused {p : Int} (hr : s.Reverses a r) (hp : s.position a = some p) (hn : s.RefusesReversal a r p) :
    Ended r .obstructed s (settle (obstruct a u)) := by
  have hc := (h.refuses_iff p).2 hn
  rw [← h.axis_eq] at hc
  rw [h.reverses_eq hr hp, reverseDoor_eq, reversal_target, if_pos hc]
  refine ended_by (stoppedForReversal_find p h.find) (recordEndNotice_congr .obstructed rfl rfl rfl rfl ?_) ?_ (.settle _)
  · exact (ListChange.immediateStop r u).axis.trans h.axis
  · exact (congrArg Link.notices (immediateStop_link r u)).trans (congrArg Link.notices h.link)

theorem starts_eq {p : Int} (hr : s.Reverses a r) (hp : s.position a = some p) (hn : ¬s.RefusesReversal a r p)
    (hd : s.motion.attemptsDue = 0) :
    settle (obstruct a u) = startRecord (reversal u r p) true (stoppedForReversal u r p) := by
  have hc := mt (h.refuses_iff p).1 hn
  rw [← h.axis_eq] at hc
  rw [h.reverses_eq hr hp, reverseDoor_eq, reversal_target, if_neg hc]
  refine settle_of_settled ?_
  refine (startRecord_keeps (fun s => s.motion.attemptsDue) (fun _ _ _ => rfl) (fun _ _ _ => rfl) _ true _).trans ?_
  exact (congrArg Motion.attemptsDue (foldl_keeps State.motion (f := forceImmediate) (fun _ _ => rfl) _ u)).trans
    (h.due.trans hd)

theorem reverses {p : Int} (hr : s.Reverses a r) (hp : s.position a = some p) (hn : ¬s.RefusesReversal a r p)
    (hd : s.motion.attemptsDue = 0) (hdoor : isDoor a = true)
    (ho : ∀ o ∈ outputsOf a, (s.drive.out.get o).claim = some r.tag ∧ (s.drive.out.get o).force.faultHold = false
      ∧ (s.drive.out.get o).force.holdoff = false) : Reversed s (settle (obstruct a u)) a r p := by
  rw [h.starts_eq hr hp hn hd]
  have ha := h.axis_eq
  subst ha
  have hlim : u.limits r.axis = s.limits r.axis := by rw [State.limits, State.limits, h.profile]
  have htarget : (reversal u r p).target = s.reversalGoal r.axis p := h.goal p
  refine ⟨⟨started true (reversal u r p), startRecord_find (r := reversal u r p) true (stoppedForReversal_find p h.find), rfl,
      rfl, rfl, htarget, rfl, rfl, rfl, hdoor, ?_, ?_, rfl⟩, fun o hm => ?_, ?_, ?_⟩
  · change ((reversal u r p).target != min (p + 100) (u.limits r.axis).high) = _
    rw [htarget, hlim]
  · change (r.clamped || (reversal u r p).target != p + 100) = _
    rw [htarget]
  · refine reversal_out p hdoor hm fun o hm => ?_
    rw [(h.held o).2]
    exact (ho o hm).2
  · exact (startRecord_channel (reversal u r p) true (stoppedForReversal u r p)).2.1
  · rw [startRecord_link]
    exact (immediateStop_link r u).trans h.link

end ObstructionAt

end Sys2Proof.Machine

namespace Sys2Proof.Machine

/-! ### A boundary of the bridge base before its readings (R138, R143) -/

theorem PerDrive.set_get {α : Type} (p : PerDrive α) (o : DriveOut) : p.set o (p.get o) = p := by cases o <;> rfl

theorem onOut_self {s : State} {o : DriveOut} {f : DriveRecord → DriveRecord}
    (h : f (s.drive.out.get o) = s.drive.out.get o) : s.onOut o f = s := by
  rw [State.onOut, State.onDrive, h, PerDrive.set_get]

theorem guardHalf_rests {p r : DriveRecord} (h : r.newlyOn = true → p.nextOn = false) : guardHalf p r = r := by
  unfold guardHalf
  refine if_neg fun hc => ?_
  obtain ⟨hn, hp⟩ := Bool.and_eq_true_iff.1 hc
  rw [h hn] at hp
  exact Bool.false_ne_true hp

/-- R143: a pair of which neither half is to go on beside the other. -/
theorem guardPair_rests {s : State} {a b : DriveOut}
    (ha : (s.drive.out.get a).newlyOn = true → (s.drive.out.get b).nextOn = false)
    (hb : (s.drive.out.get b).newlyOn = true → (s.drive.out.get a).nextOn = false) : guardPair s a b = s := by
  have h1 : s.onOut a (guardHalf (s.drive.out.get b)) = s := onOut_self (guardHalf_rests ha)
  have h2 : s.onOut b (guardHalf (s.drive.out.get a)) = s := onOut_self (guardHalf_rests hb)
  rw [guardPair, h1, h2]

/-- R138: a boundary leaves an output its claim and its forces. -/
theorem applyStaged_held (o : DriveOut) (hold : Nat) (r : DriveRecord) :
    (applyStaged o hold r).claim = r.claim ∧ (applyStaged o hold r).force = r.force := by
  unfold applyStaged
  dsimp only
  repeat' split
  all_goals exact ⟨rfl, rfl⟩

/-- v is the state s at clock value now, with its outputs in a new period. -/
structure AtBoundary (s v : State) (now : Nat) : Prop where
  rest : v = { s with clock := now, drive := v.drive }
  held : ∀ o, (v.drive.out.get o).claim = (s.drive.out.get o).claim ∧ (v.drive.out.get o).force = (s.drive.out.get o).force

theorem AtBoundary.boundaryOut {s v : State} {now : Nat} (h : AtBoundary s v now) (o : DriveOut) :
    AtBoundary s (boundaryOut v o) now where
  rest := by
    rw [h.rest]
    rfl
  held o' := by
    rw [Machine.boundaryOut, onOut_get]
    split
    · next ho =>
        obtain ⟨hc, hf⟩ := applyStaged_held o v.profile.limits.holdDuty (v.drive.out.get o)
        rw [ho]
        exact ⟨hc.trans (h.held o).1, hf.trans (h.held o).2⟩
    · exact h.held o'

theorem AtBoundary.foldl {s : State} {now : Nat} : ∀ (l : List DriveOut) (v : State), AtBoundary s v now →
    AtBoundary s (l.foldl Machine.boundaryOut v) now
  | [], _, h => h
  | o :: l, _, h => AtBoundary.foldl l _ (h.boundaryOut o)

theorem le_nextMultiple {period : Nat} (hp : 0 < period) (last now : Nat) : now ≤ nextMultiple period last now := by
  unfold nextMultiple
  dsimp only
  have h := Nat.div_add_mod (max (last + 1) now + period - 1) period
  have hm := Nat.mod_lt (max (last + 1) now + period - 1) hp
  rw [Nat.mul_comm] at h
  omega

/-- The readings of a boundary with a bridge half are those of the four halves. -/
theorem senses_of_bridge {p : Readings} (h : ∃ x ∈ sensesOf p, isBridge x.1 = true) :
    ∃ d7 d8 d9 d10, p = .bridge d7 d8 d9 d10 := by
  obtain ⟨x, hx, hbridge⟩ := h
  cases p with
  | pump d0 =>
      rw [List.mem_singleton.1 hx] at hbridge
      cases hbridge
  | valve d1 d2 d3 d4 d5 d6 =>
      simp only [sensesOf, List.mem_cons, List.not_mem_nil, or_false] at hx
      rcases hx with rfl | rfl | rfl | rfl | rfl | rfl <;> cases hbridge
  | lamp l0 l1 l2 l3 => cases hx
  | bridge d7 d8 d9 d10 => exact ⟨d7, d8, d9, d10, rfl⟩

/-- R138: a boundary of the bridge base at which the guard rests. -/
theorem exec_bridgeBoundary {s : State} {p : Readings} (h : s.BridgeSound p) :
    ∃ s0 v, s0.drive.out = s.drive.out ∧ AtBoundary s v (nextMultiple 50 s.drive.bridgeBase s.clock)
      ∧ exec (.periodBoundary p) s = .next ((sensesOf p).foldl (judgeDrive s0) v) := by
  obtain ⟨hb, -, hguard⟩ := h
  obtain ⟨d7, d8, d9, d10, rfl⟩ := senses_of_bridge hb
  let now := nextMultiple 50 s.drive.bridgeBase s.clock
  let s1 := (s.upTo now).onDrive (fun d => { d with bridgeBase := now })
  have hclock : s1 = { s with clock := now, drive := { s.drive with bridgeBase := now } } := by
    change { s with clock := max s.clock now, drive := { s.drive with bridgeBase := now } } = _
    rw [Nat.max_eq_right (le_nextMultiple (by decide) _ _)]
  have hat : AtBoundary s s1 now := ⟨by rw [hclock], fun _ => ⟨rfl, rfl⟩⟩
  have hk : guardPair s1 .do7 .do8 = s1 := guardPair_rests (hguard (.do7, .do8) (by simp)) (hguard (.do8, .do7) (by simp))
  have hr : guardPair s1 .do9 .do10 = s1 :=
    guardPair_rests (hguard (.do9, .do10) (by simp)) (hguard (.do10, .do9) (by simp))
  refine ⟨s1, [DriveOut.do7, .do8, .do9, .do10].foldl boundaryOut s1, rfl, .foldl _ _ hat, ?_⟩
  change Host.Outcome.next (driveBoundary (sensesOf (.bridge d7 d8 d9 d10))
    (guardPair (guardPair s1 .do7 .do8) .do9 .do10)) = _
  rw [hk, hr]
  rfl

/-! ### The one reading of a door's motion (R89) -/

theorem doorOf_driveOutput {a : Axis} (h : isDoor a = true) (d : Dir) : doorOf (driveOutput a d) = some a := by
  cases a <;> first | (cases d <;> rfl) | cases h

theorem isDoor_of_bridge {a : Axis} {d : Dir} (h : isBridge (driveOutput a d) = true) : isDoor a = true := by
  cases a <;> cases d <;> first | rfl | cases h

theorem isDoor_of_doorOf {o : DriveOut} {b : Axis} (h : doorOf o = some b) : b ∈ [Axis.kdoor, .rdoor] := by
  cases o <;> cases h <;> decide

/-- The reading of a bridge half stands alone among those of its boundary, and after that of a half that closes a door
comes none of that door. -/
theorem senses_split {p : Readings} (h : ∃ x ∈ sensesOf p, isBridge x.1 = true) {x : DriveOut × Sense} (hx : x ∈ sensesOf p) :
    isBridge x.1 = true ∧ ∃ l1 l2, sensesOf p = l1 ++ x :: l2 ∧ (∀ y ∈ l1 ++ l2, y.1 ≠ x.1)
      ∧ ∀ a, x.1 = driveOutput a .dec → ∀ y ∈ l2, doorOf y.1 ≠ some a := by
  obtain ⟨d7, d8, d9, d10, rfl⟩ := senses_of_bridge h
  simp only [sensesOf, List.mem_cons, List.not_mem_nil, or_false] at hx
  rcases hx with rfl | rfl | rfl | rfl
  · refine ⟨rfl, [], [(.do8, d8), (.do9, d9), (.do10, d10)], rfl, by simp, fun a ha => ?_⟩
    cases a <;> cases ha
  · refine ⟨rfl, [(.do7, d7)], [(.do9, d9), (.do10, d10)], rfl, by simp, fun a ha => ?_⟩
    cases a <;> cases ha
    simp [doorOf]
  · refine ⟨rfl, [(.do7, d7), (.do8, d8)], [(.do10, d10)], rfl, by simp, fun a ha => ?_⟩
    cases a <;> cases ha
  · refine ⟨rfl, [(.do7, d7), (.do8, d8), (.do9, d9)], [], rfl, by simp, fun a ha => ?_⟩
    simp

end Sys2Proof.Machine

namespace Sys2Proof.Machine

/-! ### Records in motion that differ in their current watch only (R89) -/

/-- The watch on the axis b reads the same motion in u as in v. -/
structure SameWatch (b : Axis) (v u : State) : Prop where
  profile : u.profile = v.profile
  mover : ∀ z', u.mover b = some z' → ∃ z, v.mover b = some z ∧ z'.dir = z.dir ∧ z'.state = z.state ∧ z'.tag = z.tag

theorem SameWatch.of_mover {b : Axis} {v u : State} (hp : u.profile = v.profile) (hm : u.mover b = v.mover b) :
    SameWatch b v u := ⟨hp, fun z' hz => ⟨z', hm ▸ hz, rfl, rfl, rfl⟩⟩

/-- A change of records that keeps what the watch reads, found again. -/
theorem SameWatch.of_map {b : Axis} {v u : State} (g : Record → Record) (hp : u.profile = v.profile)
    (hr : u.motion.records = v.motion.records.map g)
    (hg : ∀ z, (g z).axis = z.axis ∧ (g z).dir = z.dir ∧ (g z).state = z.state ∧ (g z).tag = z.tag) : SameWatch b v u where
  profile := hp
  mover z' hz := by
    have hpg : (fun r : Record => decide (r.axis = b) && r.inMotion) ∘ g = fun r => decide (r.axis = b) && r.inMotion := by
      funext z
      obtain ⟨hax, -, hst, -⟩ := hg z
      simp only [Function.comp, Record.inMotion, hax, hst]
    have hu : u.mover b = (v.mover b).map g := by
      rw [State.mover, hr, List.find?_map, hpg]
      rfl
    rw [hu] at hz
    obtain ⟨z, hv, rfl⟩ := Option.map_eq_some_iff.1 hz
    exact ⟨z, hv, (hg z).2⟩

theorem Watched.sameWatch {T : Nat → Prop} {v u : State} (h : Watched T v u) (b : Axis) : SameWatch b v u := by
  obtain ⟨g, hg, hm⟩ := h.records
  refine .of_map g h.profile (by rw [hm]) fun z => ?_
  obtain hz | ⟨hz, -⟩ := hg z <;> rw [hz] <;> exact ⟨rfl, rfl, rfl, rfl⟩

theorem Watched.tags {T : Nat → Prop} {v u : State} (h : Watched T v u) : u.tags = v.tags := by
  obtain ⟨g, hg, hm⟩ := h.records
  rw [State.tags, State.tags, hm, List.map_map]
  refine List.map_congr_left fun z _ => ?_
  obtain hz | ⟨hz, -⟩ := hg z <;> rw [Function.comp, hz]

/-- A new start of the current watch, or its clear. -/
theorem sameWatch_since (b : Axis) (u : State) (tag : Nat) (c : Option Nat) :
    SameWatch b u (u.onRecord tag (fun r => { r with currentSince := c })) := by
  refine .of_map _ rfl (congrArg Motion.records (State.onRecord_motion ..)) fun z => ?_
  split <;> exact ⟨rfl, rfl, rfl, rfl⟩

theorem RestsAt.transport {T : Nat → Prop} {s v u : State} {y : DriveOut × Sense} (h : RestsAt T s v y)
    (hw : ∀ b, doorOf y.1 = some b → SameWatch b v u) : RestsAt T s u y := by
  intro b hb z' hz' hc ho
  obtain ⟨z, hz, hdir, hst, htag⟩ := (hw b hb).mover z' hz'
  rw [(hw b hb).profile, htag]
  have hcz : z.comparesCurrent := by
    rw [Record.comparesCurrent, ← hst]
    exact hc
  exact h b hb z hz hcz (hdir ▸ ho)

/-! ### One reading of a door's motion (R89) -/

section Reading

variable {u : State} {a : Axis} {r : Record} {o : DriveOut} {n : Nat}

/-- R89: a reading above the limit starts the watch. -/
theorem doorCurrent_starts (hm : u.mover a = some r) (ho : o = driveOutput a r.dir) (hc : r.comparesCurrent)
    (hn : u.profile.limits.doorCurrent < n) (hs : r.currentSince = none) :
    doorCurrent o n a u = u.onRecord r.tag (fun r => { r with currentSince := some u.clock }) := by
  rw [doorCurrent, hm]
  dsimp only
  rw [if_pos ⟨axis_of_mover hm ▸ ho.symm, hc⟩, if_pos hn, hs]

/-- R89: a reading above the limit with the watch running changes nothing before its 100 ms, and is the obstruction
then. -/
theorem doorCurrent_runs {t : Nat} (hm : u.mover a = some r) (ho : o = driveOutput a r.dir) (hc : r.comparesCurrent)
    (hn : u.profile.limits.doorCurrent < n) (hs : r.currentSince = some t) :
    doorCurrent o n a u = if t + 100000 ≤ u.clock then settle (obstruct a u) else u := by
  rw [doorCurrent, hm]
  dsimp only
  rw [if_pos ⟨axis_of_mover hm ▸ ho.symm, hc⟩, if_pos hn, hs]
  rfl

/-- R89: a reading that is not above the limit clears the watch. -/
theorem doorCurrent_clears (hm : u.mover a = some r) (ho : o = driveOutput a r.dir) (hc : r.comparesCurrent)
    (hn : n ≤ u.profile.limits.doorCurrent) :
    doorCurrent o n a u = u.onRecord r.tag (fun r => { r with currentSince := none }) := by
  rw [doorCurrent, hm]
  dsimp only
  rw [if_pos ⟨axis_of_mover hm ▸ ho.symm, hc⟩, if_neg (Nat.not_lt.2 hn)]

end Reading

theorem judgeDrive_door {s s0 u : State} {x : DriveOut × Sense} {a : Axis} (h0 : s0.drive.out = s.drive.out)
    (hd : doorOf x.1 = some a) :
    judgeDrive s0 u x = doorCurrent x.1 (s.readingAt x) a (checkDrive s0 u x) := by
  rw [judgeDrive_eq, hd, driveReading_eq h0]
  rfl

/-! ### A boundary at which one watch reads above its limit -/

/-- The readings of the boundary p up to the one on the half that r drives on a have made u, the reading x of that half
is next, and those after it rest. -/
structure WatchReads (s : State) (a : Axis) (r : Record) (p : Readings) (s0 u : State) (x : DriveOut × Sense)
    (after : List (DriveOut × Sense)) : Prop where
  out : s0.drive.out = s.drive.out
  exec : exec (.periodBoundary p) s =
    .next (after.foldl (judgeDrive s0) (doorCurrent x.1 (s.readingAt x) a u))
  here : ObstructionAt s u a r
  clock : u.clock = nextMultiple 50 s.drive.bridgeBase s.clock
  store : u.store = s.store
  pins : u.pins = s.pins
  tags : u.tags = s.tags
  drives : x.1 = driveOutput a r.dir
  rest : ∀ y ∈ after, s.ReadsSound y ∧ RestsAt (· ≠ r.tag) s u y ∧ (r.dir = .dec → doorOf y.1 ≠ some a)

/-- Where the other doors' readings rest, so does every reading but the one on the half that r drives. -/
theorem restsAt_of_others {s : State} {a : Axis} {r : Record} {p : Readings} {y : DriveOut × Sense} (hm : s.mover a = some r)
    (hf : s.find r.tag = some r) (hn : s.tags.Nodup) (hw : ∀ b ∈ [Axis.kdoor, .rdoor], b ≠ a → s.WatchRests p b)
    (hy : y ∈ sensesOf p) (hne : y.1 ≠ driveOutput a r.dir) : RestsAt (· ≠ r.tag) s s y := by
  intro b hb z hz hc ho
  by_cases hba : b = a
  · subst hba
    have hzr : z = r := Option.some.inj (hz.symm.trans hm)
    exact absurd (hzr ▸ ho) hne
  · refine ⟨hw b (isDoor_of_doorOf hb) hba z hz hc y hy ho, fun ht => hba ?_⟩
    have hzr : z = r := eq_of_find hn hf (mem_of_mover hz) ht
    rw [← axis_of_mover hz, hzr, axis_of_mover hm]

theorem AtBoundary.sameWatch {s v : State} {now : Nat} (h : AtBoundary s v now) (b : Axis) : SameWatch b s v :=
  .of_mover (by rw [h.rest]) (by rw [h.rest]; rfl)

/-- R89, R145: a boundary of CurrentAbove comes to its reading above the limit. -/
theorem watchReads {s : State} {a : Axis} {r : Record} {p : Readings} (hm : s.mover a = some r) (hf : s.find r.tag = some r)
    (hc : s.CurrentAbove a r p) (hn : s.tags.Nodup) :
    ∃ s0 u x after, WatchReads s a r p s0 u x after ∧ s.profile.limits.doorCurrent < s.readingAt x := by
  obtain ⟨hb, -, hw, x, hx, hdrives, habove⟩ := hc
  have ⟨hbridge, hsound, _⟩ := hb
  obtain ⟨hxb, before, after, hsplit, hne, hclosing⟩ := senses_split hbridge hx
  have hdoor : isDoor a = true := isDoor_of_bridge (hdrives ▸ hxb)
  obtain ⟨s0, v, hout, hat, hexec⟩ := exec_bridgeBoundary hb
  have hrest : ∀ y ∈ before ++ after, s.ReadsSound y ∧ RestsAt (· ≠ r.tag) s v y := fun y hy => by
    have hyp : y ∈ sensesOf p := by
      rw [hsplit]
      rcases List.mem_append.1 hy with hy | hy
      · exact List.mem_append_left _ hy
      · exact List.mem_append_right _ (List.mem_cons_of_mem _ hy)
    exact ⟨hsound y hyp, (restsAt_of_others hm hf hn hw hyp (hdrives ▸ hne y hy)).transport fun b _ => hat.sameWatch b⟩
  have hbefore : Watched (· ≠ r.tag) v (before.foldl (judgeDrive s0) v) :=
    foldl_judgeDrive_rests hout before v (.refl _ v) fun y hy => hrest y (List.mem_append_left _ hy)
  have hu : Watched (· ≠ r.tag) v (checkDrive s0 (before.foldl (judgeDrive s0) v) x) :=
    hbefore.measured (checkDrive_sound _ hout (hsound x hx))
  have hvm : v.mover a = some r := by
    rw [hat.rest]
    exact hm
  have hvf : v.find r.tag = some r := by
    rw [hat.rest]
    exact hf
  refine ⟨s0, _, x, after, ⟨hout, ?_, ⟨hu.mover_kept hvm fun h => h rfl, hu.find_kept hvf fun h => h rfl, ?_, ?_, ?_,
    ?_, fun o => ?_⟩, ?_, ?_, ?_, ?_, hdrives, fun y hy => ?_⟩, habove⟩
  · rw [hexec, hsplit, List.foldl_append, List.foldl_cons,
      judgeDrive_door hout (hdrives ▸ doorOf_driveOutput hdoor r.dir)]
  · rw [hu.axis, hat.rest]
  · rw [hu.due, hat.rest]
  · rw [hu.profile, hat.rest]
  · rw [hu.link, hat.rest]
  · obtain ⟨hclaim, hforce⟩ := hat.held o
    have hd := hu.drives o
    exact ⟨(congrArg Prod.fst hd).trans hclaim, (congrArg (fun d => d.2.1) hd).trans hforce⟩
  · rw [hu.clock, hat.rest]
  · rw [hu.store, hat.rest]
  · rw [hu.pins, hat.rest]
  · rw [hu.tags, hat.rest]
    rfl
  · obtain ⟨hys, hyr⟩ := hrest y (List.mem_append_right _ hy)
    exact ⟨hys, hyr.transport fun b _ => hu.sameWatch b, fun hdec => hclosing a (hdec ▸ hdrives) y hy⟩

namespace WatchReads

variable {s : State} {a : Axis} {r : Record} {p : Readings} {s0 u : State} {x : DriveOut × Sense}
  {after : List (DriveOut × Sense)} (h : WatchReads s a r p s0 u x after)

include h

/-- The readings after it rest also where only watches of u have changed. -/
theorem after_rests {w : State} (hw : ∀ b, SameWatch b u w) : Watched (· ≠ r.tag) w (after.foldl (judgeDrive s0) w) :=
  foldl_judgeDrive_rests h.out after w (.refl _ w) fun y hy => by
    obtain ⟨hs, hr, -⟩ := h.rest y hy
    exact ⟨hs, hr.transport fun b _ => hw b⟩

/-- R89: a reading above the limit starts the current watch. -/
theorem starts (hc : r.comparesCurrent) (habove : s.profile.limits.doorCurrent < s.readingAt x) (hs : r.currentSince = none) :
    ∃ t, Machine.exec (.periodBoundary p) s = .next t ∧ t.clock = nextMultiple 50 s.drive.bridgeBase s.clock ∧ t.link = s.link
      ∧ t.find r.tag = some { r with currentSince := some (nextMultiple 50 s.drive.bridgeBase s.clock) } := by
  have hstart := doorCurrent_starts h.here.mover h.drives hc (h.here.profile.symm ▸ habove) hs
  have hrest := h.after_rests fun b => sameWatch_since b u r.tag (some u.clock)
  have hfind : (u.onRecord r.tag (fun r => { r with currentSince := some u.clock })).find r.tag =
      some { r with currentSince := some u.clock } := find_onRecord_self h.here.find fun _ h => h
  rw [h.exec, hstart, ← h.clock]
  exact ⟨_, rfl, hrest.clock, hrest.link.trans h.here.link,
    hrest.find_kept (r := { r with currentSince := some u.clock }) hfind fun h => h rfl⟩

/-- R89: a running current watch runs on. -/
theorem runs {since : Nat} (hc : r.comparesCurrent) (habove : s.profile.limits.doorCurrent < s.readingAt x)
    (hs : r.currentSince = some since) (hnow : nextMultiple 50 s.drive.bridgeBase s.clock < since + 100000) :
    ∃ t, Machine.exec (.periodBoundary p) s = .next t ∧ t.clock = nextMultiple 50 s.drive.bridgeBase s.clock ∧ t.link = s.link
      ∧ t.find r.tag = some r := by
  have hrun := doorCurrent_runs h.here.mover h.drives hc (h.here.profile.symm ▸ habove) hs
  rw [if_neg (Nat.not_le.2 (h.clock ▸ hnow))] at hrun
  have hrest := h.after_rests fun b => .of_mover (b := b) rfl rfl
  rw [h.exec, hrun]
  exact ⟨_, rfl, hrest.clock.trans h.clock, hrest.link.trans h.here.link, hrest.find_kept h.here.find fun h => h rfl⟩

end WatchReads

end Sys2Proof.Machine

namespace Sys2Proof.Machine

/-! ### A boundary at which every watch rests (R89) -/

theorem Watched.find_cleared {T : Nat → Prop} {v u : State} {r : Record} {tag : Nat} (h : Watched T v u)
    (hf : v.find tag = some r) : ∃ r', u.find tag = some r' ∧ (r' = r ∨ r' = { r with currentSince := none }) := by
  obtain ⟨g, hg, hu⟩ := h.findIn (fun x => x.tag = tag) fun _ => rfl
  exact ⟨g r, hu.trans (congrArg (Option.map g) hf), (hg r).imp_right And.left⟩

theorem Watched.mover_cleared {T : Nat → Prop} {v u : State} {r : Record} {a : Axis} (h : Watched T v u)
    (hm : v.mover a = some r) : ∃ r', u.mover a = some r' ∧ (r' = r ∨ r' = { r with currentSince := none }) := by
  obtain ⟨g, hg, hu⟩ := h.findIn (fun x => x.axis = a && x.inMotion) fun _ => rfl
  exact ⟨g r, hu.trans (congrArg (Option.map g) hm), (hg r).imp_right And.left⟩

/-- R89: a boundary at which every reading rests clears the current watch of the record that drives. -/
theorem watch_clears {s : State} {a : Axis} {r : Record} {p : Readings} (hm : s.mover a = some r) (hf : s.find r.tag = some r)
    (hb : s.BridgeSound p) (hc : r.comparesCurrent) (hw : ∀ b ∈ [Axis.kdoor, .rdoor], s.WatchRests p b)
    {x : DriveOut × Sense} (hx : x ∈ sensesOf p) (hdrives : x.1 = driveOutput a r.dir) :
    ∃ t, exec (.periodBoundary p) s = .next t ∧ t.link = s.link ∧ t.find r.tag = some { r with currentSince := none } := by
  have ⟨hbridge, hsound, _⟩ := hb
  obtain ⟨hxb, before, after, hsplit, -, -⟩ := senses_split hbridge hx
  have hdoor : isDoor a = true := isDoor_of_bridge (hdrives ▸ hxb)
  obtain ⟨s0, v, hout, hat, hexec⟩ := exec_bridgeBoundary hb
  have hrest : ∀ y ∈ sensesOf p, s.ReadsSound y ∧ RestsAt (fun _ => True) s v y := fun y hy =>
    ⟨hsound y hy, RestsAt.transport (v := s)
      (fun b hb z hz hcz ho => ⟨hw b (isDoor_of_doorOf hb) z hz hcz y hy ho, trivial⟩) fun b _ => hat.sameWatch b⟩
  have hu : Watched (fun _ => True) v (checkDrive s0 (before.foldl (judgeDrive s0) v) x) :=
    (foldl_judgeDrive_rests hout before v (.refl _ v) fun y hy =>
      hrest y (hsplit ▸ List.mem_append_left _ hy)).measured (checkDrive_sound _ hout (hsound x hx))
  have hvm : v.mover a = some r := by
    rw [hat.rest]
    exact hm
  have hvf : v.find r.tag = some r := by
    rw [hat.rest]
    exact hf
  obtain ⟨z, hz, hzr⟩ := hu.mover_cleared hvm
  obtain ⟨r1, hr1, hrr⟩ := hu.find_cleared hvf
  have hzs : z.tag = r.tag ∧ z.dir = r.dir ∧ z.state = r.state := by
    obtain rfl | rfl := hzr <;> exact ⟨rfl, rfl, rfl⟩
  obtain ⟨htag, hdir, hst⟩ := hzs
  have hzc : z.comparesCurrent := by
    rw [Record.comparesCurrent, hst]
    exact hc
  have hle : s.readingAt x ≤ (checkDrive s0 (before.foldl (judgeDrive s0) v) x).profile.limits.doorCurrent := by
    rw [hu.profile, hat.rest]
    exact hw a (isDoor_of_doorOf (doorOf_driveOutput hdoor r.dir)) r hm hc x hx hdrives
  have hclear := doorCurrent_clears hz (hdir.symm ▸ hdrives) hzc hle
  rw [htag] at hclear
  have hcleared := hu.clear (tag := r.tag) trivial
  have hfind : ((checkDrive s0 (before.foldl (judgeDrive s0) v) x).onRecord r.tag
      (fun r => { r with currentSince := none })).find r.tag = some { r with currentSince := none } := by
    refine (find_onRecord_self (f := fun r => { r with currentSince := none }) hr1 fun _ h => h).trans (congrArg some ?_)
    obtain rfl | rfl := hrr <;> rfl
  have hafter := foldl_judgeDrive_rests hout after _ (.refl _ _) fun y hy => by
    obtain ⟨hys, hyr⟩ := hrest y (hsplit ▸ List.mem_append_right _ (List.mem_cons_of_mem _ hy))
    exact ⟨hys, hyr.transport fun b _ => hcleared.sameWatch b⟩
  obtain ⟨r2, hr2, hr2r⟩ := hafter.find_cleared hfind
  rw [hexec, hsplit, List.foldl_append, List.foldl_cons, judgeDrive_door hout (hdrives ▸ doorOf_driveOutput hdoor r.dir),
    hclear]
  refine ⟨_, rfl, ?_, ?_⟩
  · rw [hafter.link, hcleared.link, hat.rest]
  · rw [hr2]
    obtain rfl | rfl := hr2r <;> rfl

/-! ### The other door during a reversal (R91) -/

theorem find?_map_of_fixed {α : Type} {p : α → Bool} {g : α → α} :
    ∀ {l : List α}, (∀ z ∈ l, p (g z) = p z ∧ (p z = true → g z = z)) → (l.map g).find? p = l.find? p
  | [], _ => rfl
  | z :: l, h => by
      obtain ⟨hp, hg⟩ := h z List.mem_cons_self
      rw [List.map_cons, List.find?_cons, List.find?_cons, hp, find?_map_of_fixed fun y hy => h y (List.mem_cons_of_mem _ hy)]
      cases hz : p z with
      | true => rw [hg hz]
      | false => rfl

/-- No record under a tag moves on the axis b, and the one that does is that of u. -/
structure Apart (tag : Nat) (b : Axis) (u w : State) : Prop where
  apart : ∀ z ∈ w.motion.records, z.tag = tag → z.axis ≠ b
  mover : w.mover b = u.mover b

theorem Apart.onRecord {tag : Nat} {b : Axis} {u w : State} (h : Apart tag b u w) {f : Record → Record}
    (hf : ∀ z, z.axis ≠ b → (f z).axis ≠ b) : Apart tag b u (w.onRecord tag f) where
  apart z hz ht := by
    rcases mem_onRecord hz with ⟨y, hy, hyt, rfl⟩ | ⟨hzw, hne⟩
    · exact hf y (h.apart y hy hyt)
    · exact absurd ht hne
  mover := by
    refine Eq.trans ?_ h.mover
    rw [State.mover, State.onRecord_motion]
    refine find?_map_of_fixed fun z hz => ?_
    by_cases ht : z.tag = tag
    · have hzb := h.apart z hz ht
      rw [if_pos ht, decide_eq_false hzb, decide_eq_false (hf z hzb)]
      exact ⟨rfl, fun h => absurd h Bool.false_ne_true⟩
    · rw [if_neg ht]
      exact ⟨rfl, fun _ => rfl⟩

theorem Apart.of_motion {tag : Nat} {b : Axis} {u w w' : State} (h : Apart tag b u w) (hm : w'.motion = w.motion) :
    Apart tag b u w' where
  apart := by
    rw [hm]
    exact h.apart
  mover := by
    rw [State.mover, hm]
    exact h.mover

/-- R91: the start of a reversal on one door leaves the motion on another. -/
theorem reversal_apart {u : State} {r : Record} {b : Axis} (p : Int) (hn : u.tags.Nodup) (hf : u.find r.tag = some r)
    (hb : b ≠ r.axis) :
    (startRecord (reversal u r p) true (stoppedForReversal u r p)).mover b = u.mover b := by
  have hu : Apart r.tag b u u := ⟨fun z hz ht => by
    rw [eq_of_find hn hf hz ht]
    exact hb.symm, rfl⟩
  have hforced : Apart r.tag b u ((outputsOf r.axis).foldl forceImmediate u) :=
    hu.of_motion (foldl_keeps State.motion (f := forceImmediate) (fun _ _ => rfl) _ u)
  have hstop : Apart r.tag b u (stoppedForReversal u r p) :=
    (hforced.onRecord (f := fun x => { x with dPrev := 0 }) fun _ h => h).onRecord (f := fun _ => reversal u r p)
      fun _ _ => hb.symm
  exact (startRecord_keeps (fun s => s.mover b) (fun _ _ _ => rfl) (fun _ _ _ => rfl) (reversal u r p) true _).trans
    (hstop.onRecord (f := started true) fun _ h => h).mover

/-! ### The readings after an obstruction -/

/-- R145, R89: what sound readings and changes of the list keep, a boundary's readings keep. -/
theorem foldl_judgeDrive_keeps {C : State → Prop} {s s0 : State} (h0 : s0.drive.out = s.drive.out)
    (hm : ∀ u w, C u → Measured u w → C w) (hl : ∀ u w, C u → ListChange u w → C w) :
    ∀ (l : List (DriveOut × Sense)) (u : State), C u → (∀ y ∈ l, s.ReadsSound y) → C (l.foldl (judgeDrive s0) u)
  | [], _, h, _ => h
  | y :: l, u, h, hs => by
      refine foldl_judgeDrive_keeps h0 hm hl l _ ?_ fun z hz => hs z (List.mem_cons_of_mem _ hz)
      have hcheck := hm u _ h (checkDrive_sound u h0 (hs y List.mem_cons_self))
      rw [judgeDrive_eq]
      cases doorOf y.1 with
      | none => exact hcheck
      | some b => exact hl _ _ hcheck (ListEffects.doorCurrent y.1 _ b _).listChange

theorem Measured.ended {s u w : State} {r : Record} {res : Result} (h : Measured u w) (he : Ended r res s u) :
    Ended r res s w := by
  rw [h.rest]
  exact he

theorem Watched.reversed {s v u : State} {a : Axis} {r : Record} {p : Int} (h : Watched (· ≠ r.tag) v u)
    (hr : Reversed s v a r p) : Reversed s u a r p := by
  obtain ⟨⟨r', hf, hr'⟩, houts, hsnap, hlink⟩ := hr
  have htag : r'.tag = r.tag := find_tag hf
  refine ⟨⟨r', ?_, hr'⟩, fun o ho => ?_, h.sense ▸ hsnap, h.link.trans hlink⟩
  · rw [← htag] at hf ⊢
    exact h.find_kept hf fun hne => hne htag
  · have hd := h.drives o
    obtain ⟨hactive, hstaged, hforce, hclaim⟩ := houts o ho
    exact ⟨(congrArg (fun d => d.2.2.1) hd).trans hactive, (congrArg (fun d => d.2.2.2) hd).trans hstaged,
      (congrArg (fun d => d.2.1.any) hd).trans hforce, (congrArg Prod.fst hd).trans hclaim⟩

/-! ### The three findings of an obstruction (R89) -/

/-- The command c finds an obstruction of r on the door a and comes to t. -/
structure Obstructs (c : Instr) (s : State) (a : Axis) (r : Record) (u t : State) : Prop where
  exec : exec c s = .next t
  here : ObstructionAt s u a r
  store : t.store = s.store
  axis : t.motion.axis = s.motion.axis
  level : t.pins.level = s.pins.level
  ended : Ended r .obstructed s (settle (obstruct a u)) → Ended r .obstructed s t
  reversed : ∀ p, s.Reverses a r → s.position a = some p → ¬s.RefusesReversal a r p → s.motion.attemptsDue = 0 →
    Reversed s (settle (obstruct a u)) a r p → Reversed s t a r p

theorem obstruct_change (a : Axis) (u : State) : ListChange u (settle (obstruct a u)) :=
  (ListEffects.obstruct a u).listChange.trans (.settle _)

/-- An event of its own that is nothing but the obstruction. -/
theorem Obstructs.of_event {c : Instr} {s u : State} {a : Axis} {r : Record} (h : ObstructionAt s u a r)
    (he : Machine.exec c s = .next (settle (obstruct a u))) (hs : u.store = s.store) (hl : u.pins.level = s.pins.level) :
    Obstructs c s a r u (settle (obstruct a u)) :=
  let k := obstruct_change a u
  ⟨he, h, k.store.trans hs, k.axis.trans h.axis, (congrArg Pins.level k.pins).trans hl, id, fun _ _ _ _ _ h => h⟩

theorem exec_doorCurrentObstruction {s : State} {a : Axis} {r : Record} (hm : s.mover a = some r) (hd : isHydraulic a = false)
    (hst : r.state = .starting ∨ r.state = .moving) :
    ∃ n, exec (.doorCurrentObstruction a) s = .next (settle (obstruct a (s.upTo n))) := by
  have hc : (!isHydraulic a && (r.state == .starting || r.state == .moving)) = true := by
    rw [hd]
    rcases hst with h | h <;> rw [h] <;> rfl
  change ∃ n, execDoorCurrentObstruction a s = _
  unfold execDoorCurrentObstruction
  rw [hm]
  dsimp only
  rw [if_pos hc]
  cases r.currentSince with
  | none => exact ⟨0, by rw [State.upTo, Nat.max_zero]⟩
  | some t => exact ⟨t + 100000, rfl⟩

theorem ObstructionAt.of_motion {s u : State} {a : Axis} {r : Record} (hm : s.mover a = some r) (hf : s.find r.tag = some r)
    (hmotion : u.motion = s.motion) (hprofile : u.profile = s.profile) (hlink : u.link = s.link) (hdrive : u.drive = s.drive) :
    ObstructionAt s u a r where
  mover := by
    rw [State.mover, hmotion]
    exact hm
  find := by
    rw [State.find, hmotion]
    exact hf
  axis := by rw [hmotion]
  due := by rw [hmotion]
  profile := hprofile
  link := hlink
  held o := by
    rw [hdrive]
    exact ⟨rfl, rfl⟩

/-- R89, R18: the newly pressed strip of a door whose watch is armed. -/
theorem exec_strip {s : State} {a : Axis} {i : Input} {r : Record} (hi : a = .kdoor ∧ i = .edgeK ∨ a = .rdoor ∧ i = .edgeR)
    (hm : s.mover a = some r) (harmed : r.stripArmed = true) {t : Nat} (ht : (s.pins.filter.get i).since = some t)
    (hactive : (s.pins.filter.get i).active = false) (hlevel : s.pins.level.input.get i = true) :
    exec (.debounceStateChange i) s = .next (settle (obstruct a (debounced i t s))) := by
  have hne : (s.pins.filter.get i).active ≠ s.pins.level.input.get i := by
    rw [hactive, hlevel]
    exact Bool.false_ne_true
  have hmover : (debounced i t s).mover a = some r := hm
  have hstrip : inputActive i (debounced i t s) = stripEvent a (debounced i t s) := by
    rcases hi with ⟨rfl, rfl⟩ | ⟨rfl, rfl⟩ <;> rfl
  rw [exec_debounce ht hne, if_pos hlevel, hstrip, stripEvent, hmover]
  dsimp only
  rw [if_pos harmed]

/-- R89: the reading that has been above the limit for 100 ms. -/
theorem WatchReads.obstructs {s : State} {a : Axis} {r : Record} {p : Readings} {s0 u : State} {x : DriveOut × Sense}
    {after : List (DriveOut × Sense)} (h : WatchReads s a r p s0 u x after) {since : Nat} (hc : r.comparesCurrent)
    (hn : s.tags.Nodup) (habove : s.profile.limits.doorCurrent < s.readingAt x) (hs : r.currentSince = some since)
    (hnow : since + 100000 ≤ nextMultiple 50 s.drive.bridgeBase s.clock) :
    Obstructs (.periodBoundary p) s a r u (after.foldl (judgeDrive s0) (settle (obstruct a u))) := by
  have hrun := doorCurrent_runs h.here.mover h.drives hc (h.here.profile.symm ▸ habove) hs
  rw [if_pos (h.clock.symm ▸ hnow)] at hrun
  have hsound : ∀ y ∈ after, s.ReadsSound y := fun y hy => (h.rest y hy).1
  have k := obstruct_change a u
  obtain ⟨hstore, haxis, hpins⟩ := foldl_judgeDrive_keeps
    (C := fun w => w.store = s.store ∧ w.motion.axis = s.motion.axis ∧ w.pins = s.pins) h.out
    (fun v w hv hm => by
      rw [hm.rest]
      exact hv)
    (fun v w ⟨hstore, haxis, hpins⟩ hl => ⟨hl.store.trans hstore, hl.axis.trans haxis, hl.pins.trans hpins⟩) after
    (settle (obstruct a u)) ⟨k.store.trans h.store, k.axis.trans h.here.axis, k.pins.trans h.pins⟩ hsound
  refine ⟨by rw [h.exec, hrun], h.here, hstore, haxis, congrArg Pins.level hpins, fun he => ?_, fun q hr hp hq hd hrev => ?_⟩
  · exact foldl_judgeDrive_keeps (C := Ended r .obstructed s) h.out (fun _ _ he hm => hm.ended he)
      (fun _ _ he hl => ListChange.ended he hl) after _ he hsound
  · refine Watched.reversed (v := settle (obstruct a u)) ?_ hrev
    rw [h.here.starts_eq hr hp hq hd]
    have hstart : ListChange u (startRecord (reversal u r q) true (stoppedForReversal u r q)) := by
      rw [← h.here.starts_eq hr hp hq hd]
      exact k
    refine foldl_judgeDrive_rests h.out after _ (.refl _ _) fun y hy => ?_
    obtain ⟨hys, hyr, hclosing⟩ := h.rest y hy
    refine ⟨hys, hyr.transport fun b hb => .of_mover hstart.profile ?_⟩
    refine reversal_apart q (h.tags.symm ▸ hn) h.here.find fun hba => ?_
    obtain ⟨-, hdir, -, -⟩ := hr
    exact hclosing hdir (hb.trans (congrArg some (hba.trans h.here.axis_eq)))

/-- Settles O34. -/
theorem obstructedDoorsStopOrReverse : Obligations.ObstructedDoorsStopOrReverse := by
  refine ⟨fun s a r p hm hf hc hn now hnow => ?_, fun s a r p hm hf hb hc hw hx => ?_, fun s a i r c hi hm hf hevent => ?_⟩
  · subst hnow
    obtain ⟨s0, u, x, after, hreads, habove⟩ := watchReads hm hf hc hn
    obtain ⟨-, hcompares, -, -⟩ := hc
    exact ⟨hreads.starts hcompares habove, fun _ => hreads.runs hcompares habove⟩
  · obtain ⟨x, hx, hdrives⟩ := hx
    exact watch_clears hm hf hb hc hw hx hdrives
  · have hdoor : isDoor a = true ∧ isHydraulic a = false := by
      rcases hi with ⟨rfl, -⟩ | ⟨rfl, -⟩ <;> exact ⟨rfl, rfl⟩
    have hobs : ∃ u t, Obstructs c s a r u t := by
      rcases hevent with ⟨rfl, hst⟩ | ⟨rfl, harmed, hsince, hactive, hlevel⟩ | ⟨p, since, rfl, hn, hc, hs, hnow⟩
      · obtain ⟨n, he⟩ := exec_doorCurrentObstruction hm hdoor.2 hst
        exact ⟨s.upTo n, _, .of_event (.of_motion hm hf rfl rfl rfl rfl) he rfl rfl⟩
      · obtain ⟨t, ht⟩ := Option.isSome_iff_exists.1 hsince
        have he := exec_strip hi hm harmed ht hactive hlevel
        exact ⟨debounced i t s, _, .of_event (.of_motion hm hf rfl rfl rfl rfl) he rfl rfl⟩
      · obtain ⟨s0, u, x, after, hreads, habove⟩ := watchReads hm hf hc hn
        obtain ⟨-, hcompares, -, -⟩ := hc
        exact ⟨_, _, hreads.obstructs hcompares hn habove hs hnow⟩
    obtain ⟨u, t, h⟩ := hobs
    intro reverses
    refine ⟨t, h.exec, h.store, h.axis, h.level, fun hr => h.ended (h.here.ends hr), fun p hr hp => ?_⟩
    intro goal refused
    refine ⟨fun hx => h.ended (h.here.refused hr hp hx), fun hx hd ho => ?_⟩
    obtain ⟨hfind, houts, hsnap, hlink⟩ := h.reversed p hr hp hx hd (h.here.reverses hr hp hx hd hdoor.1 ho)
    exact ⟨hfind, houts, hsnap, hlink⟩

end Sys2Proof.Machine

namespace Sys2Proof.Machine

/-! ### Sound lists (Laws 1 and 2, R22, R35) -/

/-- Records that each claim an axis are no more than the claims on all axes. -/
theorem length_le_claims : ∀ l : List Record, (∀ r ∈ l, ∃ a ∈ axes, r.claims a = true) →
    l.length ≤ (axes.map (fun a => l.countP (fun r => r.claims a))).sum
  | [], _ => Nat.zero_le _
  | r :: l, h => by
      obtain ⟨a, ha, hr⟩ := h r List.mem_cons_self
      have hl := length_le_claims l fun x hx => h x (List.mem_cons_of_mem _ hx)
      have h1 : 1 ≤ (axes.map (fun a => if r.claims a = true then 1 else 0)).sum :=
        (if_pos hr).symm.le.trans (List.le_sum_of_mem (List.mem_map.2 ⟨a, ha, rfl⟩))
      simp only [List.countP_cons, List.sum_map_add, List.length_cons]
      omega

/-- Law 2: five axes have at most five records. -/
theorem State.ListSound.length_le {s : State} (h : s.ListSound) : s.motion.records.length ≤ 5 := by
  obtain ⟨-, hclaims, hrecords, -⟩ := h
  refine (length_le_claims _ fun r hr => (hrecords r hr).1).trans ?_
  have hsum := List.sum_le_card_nsmul (axes.map (fun a => s.motion.records.countP (fun r => r.claims a))) 1 fun n hn => by
    obtain ⟨a, ha, rfl⟩ := List.mem_map.1 hn
    rw [List.countP_eq_length_filter]
    exact hclaims a ha
  exact hsum

theorem Record.granted_of_charged {r : Record} (h : r.charged = true) : r.Granted := .inl fun hw => by
  rw [Record.charged, hw] at h
  cases h

/-- R35, R100: the record of a hydraulic motion needs the bank. -/
theorem State.BankSoundFor.needsBank {s : State} {r : Record} (h : s.BankSoundFor r)
    (ha : isHydraulic r.axis = true) : r.needsBank = true := by
  unfold Record.needsBank
  cases hq : r.seq with
  | none => exact ha
  | some q => exact (h.1 q hq).2.2 ha

/-- Settles O10: the bank is held by one record, and each of the two holds it. -/
theorem soundListsAreExclusive : Obligations.SoundListsAreExclusive := by
  refine ⟨fun s h => h.length_le, fun s h x hx y hy hcx hcy hax hay => ?_⟩
  obtain ⟨-, -, -, hrules⟩ := h
  have hold {r : Record} (hr : r ∈ s.motion.records) (hc : r.charged = true) (ha : isHydraulic r.axis = true) :
      s.motion.bank = some r.tag :=
    (hrules r hr).2 (State.BankSoundFor.needsBank (hrules r hr) ha) (Record.granted_of_charged hc)
  exact Option.some.inj ((hold hx hcx hax).symm.trans (hold hy hcy hay))

/-- Settles O4: what a release gives is known from the step lemmas for the stops and the counters; the other
invariants range over closed lists and tables, and are evaluated at the reset values. -/
theorem resetMeetsTheInvariants : Obligations.ResetMeetsTheInvariants := by
  have hstore : State.reset.StoreSound := by decide
  have hfaults : State.reset.FaultsHold := by decide
  have hbank : State.reset.BankSound := by decide
  have hsettled : State.reset.Settled := by decide
  have hpositions : State.reset.PositionsWithin := by decide
  have hduties : State.reset.DutiesBounded := by decide
  have hroad : State.reset.RoadWarned := by decide
  have hlock : State.reset.LockHolds := by decide
  exact ⟨hstore, released_stops quietPins [] rfl, hfaults, released_counters quietPins [], hbank, hsettled, hpositions,
    hduties, hroad, hlock⟩

end Sys2Proof.Machine

namespace Sys2Proof.Machine

/-! ### What stands of a record while it is in the list (R23, R25, R100) -/

/-- What no change but an acceptance gives a record: its tag, its owner, its kind, whether it is held, and its claims. -/
structure Ident where
  tag : Nat
  source : Role
  station : Option Nat
  kind : RecordKind
  held : Bool
  claims : Axis → Bool

/-- A record's identity but for its claims. -/
def Record.identWith (r : Record) (claims : Axis → Bool) : Ident := ⟨r.tag, r.source, r.station, r.kind, r.held, claims⟩

def Record.ident (r : Record) : Ident := r.identWith r.claims

/-- The list of the records in its order, as far as no change but an acceptance reaches. -/
def State.idents (s : State) : List Ident := s.motion.records.map Record.ident

/-- What of the sequence fields stands from the acceptance on (R100). -/
def SeqFields.fixed (q : SeqFields) : Nat × PerAxis Bool × Bool := (q.number, q.claimed, q.needsBank)

theorem tags_of_idents (s : State) : s.tags = s.idents.map Ident.tag := by
  simp only [State.tags, State.idents, List.map_map]
  rfl

/-- y may stand in the place of x: the same record, on the axis of x or of a step of its sequence. -/
structure Follows (s : State) (x y : Record) : Prop where
  ident : y.ident = x.ident
  fixed : y.seq.map SeqFields.fixed = x.seq.map SeqFields.fixed
  axis : y.axis = x.axis ∨ ∃ q ∈ x.seq, ∃ st ∈ stepsOf s q.number, y.axis = st.axis

namespace Follows

/-- A change of the fields that neither name the record nor its axis. -/
theorem plain {s : State} {x y : Record} (hi : y.ident = x.ident) (hq : y.seq = x.seq) (ha : y.axis = x.axis) :
    Follows s x y := ⟨hi, by rw [hq], .inl ha⟩

/-- A change of the marks of a SEQUENCE, of its index, or of neither. -/
theorem marks {s : State} {x : Record} {f : SeqFields → SeqFields} {y : Record} (hf : ∀ q, (f q).fixed = q.fixed)
    (hi : y.identWith = x.identWith) (hq : y.seq = x.seq.map f) (ha : y.axis = x.axis) : Follows s x y := by
  have hc : y.claims = x.claims := claims_seq_map ha hq fun q => congrArg (fun p => p.2.1) (hf q)
  refine ⟨?_, ?_, .inl ha⟩
  · rw [Record.ident, hi, hc, Record.ident]
  · rw [hq, Option.map_map]
    exact congrArg (fun g => x.seq.map g) (funext hf)

/-- A change that gives a SEQUENCE other marks or another index. -/
theorem sequence {s : State} {x y : Record} {q q' : SeqFields} (hx : x.seq = some q) (hy : y.seq = some q')
    (hf : q'.fixed = q.fixed)
    (hi : y.identWith = x.identWith)
    (ha : y.axis = x.axis ∨ ∃ st ∈ stepsOf s q.number, y.axis = st.axis) : Follows s x y := by
  have hc : q'.claimed = q.claimed := congrArg (fun p => p.2.1) hf
  refine ⟨?_, by rw [hx, hy, Option.map_some, Option.map_some, hf], ha.imp_right fun h => ⟨q, hx, h⟩⟩
  rw [Record.ident, hi, claims_of_seq hy, hc, Record.ident, claims_of_seq hx]

/-- R35: it needs the bank as it did. -/
theorem needsBank {s : State} {x y : Record} (h : Follows s x y) : y.needsBank = x.needsBank := by
  obtain ⟨-, hf, ha⟩ := h
  unfold Record.needsBank
  cases hx : x.seq with
  | none =>
      rw [hx, Option.map_none, Option.map_eq_none_iff] at hf
      rw [hf]
      obtain ha | ⟨q, hq, -⟩ := ha
      · rw [ha]
      · rw [hx] at hq
        cases hq
  | some q =>
      rw [hx, Option.map_some, Option.map_eq_some_iff] at hf
      obtain ⟨q', hq', hqq⟩ := hf
      rw [hq']
      exact congrArg (fun p => p.2.2) hqq

theorem tag {s : State} {x y : Record} (h : Follows s x y) : y.tag = x.tag := congrArg Ident.tag h.ident

/-- R22, R35, R100: its claims and its need of the bank cover its steps as they did. -/
theorem bankSoundFor {s t : State} {x y : Record} (h : Follows s x y) (hp : t.profile = s.profile)
    (hx : s.BankSoundFor x) (hb : y.needsBank = true → y.Granted → t.motion.bank = some y.tag) : t.BankSoundFor y := by
  refine ⟨fun q' hq' => ?_, hb⟩
  have hf := h.fixed
  rw [hq', Option.map_some] at hf
  obtain ⟨q, hq, hqq⟩ := Option.map_eq_some_iff.1 hf.symm
  obtain ⟨hsteps, hon, hneeds⟩ := hx.1 q hq
  have hn : q'.number = q.number := congrArg (fun p => p.1) hqq.symm
  have hc : q'.claimed = q.claimed := congrArg (fun p => p.2.1) hqq.symm
  have hk : q'.needsBank = q.needsBank := congrArg (fun p => p.2.2) hqq.symm
  have hs : stepsOf t q'.number = stepsOf s q.number := by rw [stepsOf, stepsOf, hp, hn]
  rw [hs, hc, hk]
  refine ⟨hsteps, ?_⟩
  obtain ha | ⟨q0, hq0, st, hst, ha⟩ := h.axis
  · rw [ha]
    exact ⟨hon, hneeds⟩
  · cases hq.symm.trans hq0
    rw [ha]
    exact hsteps st hst

end Follows

/-! ### What the list owes to the rules of the bank and of the budget (R35, R37) -/

/-- The rules of the bank on a list of distinct tags (R22, R35, R100). -/
structure State.BankRules (s : State) : Prop where
  nodup : s.tags.Nodup
  holder : ∀ t ∈ s.motion.bank, ∃ r ∈ s.motion.records, r.tag = t ∧ r.needsBank = true
  each : ∀ r ∈ s.motion.records, s.BankSoundFor r

theorem State.BankRules.congr {s t : State} (h : s.BankRules) (records : t.motion.records = s.motion.records)
    (bank : t.motion.bank = s.motion.bank) (profile : t.profile = s.profile) : t.BankRules := by
  have ht : t.tags = s.tags := by rw [State.tags, State.tags, records]
  refine ⟨ht ▸ h.nodup, by rw [records, bank]; exact h.holder, ?_⟩
  rw [records]
  intro r hr
  obtain ⟨hq, hg⟩ := h.each r hr
  have hp (n : Nat) : stepsOf t n = stepsOf s n := by rw [stepsOf, stepsOf, profile]
  exact ⟨fun q h => by rw [hp]; exact hq q h, by rw [bank]; exact hg⟩

/-- A record with the tag holds the bank if it needs it. -/
abbrev State.Secured (s : State) (tag : Nat) : Prop :=
  ∀ r ∈ s.motion.records, r.tag = tag → r.needsBank = true → s.motion.bank = some tag

/-- All records with the tag are one. -/
abbrev State.Lone (s : State) (tag : Nat) : Prop :=
  ∀ x ∈ s.motion.records, ∀ y ∈ s.motion.records, x.tag = tag → y.tag = tag → x = y

/-- r is the one record with the tag. -/
structure State.Only (s : State) (tag : Nat) (r : Record) : Prop where
  lone : s.Lone tag
  mem : r ∈ s.motion.records
  tag_eq : r.tag = tag

theorem State.Only.eq_of_mem {s : State} {tag : Nat} {x r : Record} (h : s.Only tag x) (hr : r ∈ s.motion.records)
    (ht : r.tag = tag) : x = r := h.lone x h.mem r hr h.tag_eq ht

theorem State.Only.eq_of_find {s : State} {tag : Nat} {x r : Record} (h : s.Only tag x) (hr : s.find tag = some r) : x = r :=
  h.eq_of_mem (mem_of_find hr) (find_tag hr)

theorem State.Only.find {s : State} {tag : Nat} {r : Record} (h : s.Only tag r) : s.find tag = some r := by
  have hsome : (s.find tag).isSome := List.find?_isSome.2 ⟨r, h.mem, decide_eq_true h.tag_eq⟩
  obtain ⟨x, hx⟩ := Option.isSome_iff_exists.1 hsome
  rw [hx, h.eq_of_find hx]

theorem lone_of_nodup {s : State} (h : s.tags.Nodup) (tag : Nat) : s.Lone tag := fun _ hx _ hy htx hty =>
  List.inj_on_of_nodup_map h hx hy (htx.trans hty.symm)

/-- R35: a granted record of a list that keeps the rules is secured. -/
theorem State.BankRules.secured {s : State} (h : s.BankRules) {r : Record} (hr : r ∈ s.motion.records) (hg : r.Granted) :
    s.Secured r.tag := fun x hx ht hn => by
  have hxr := lone_of_nodup h.nodup r.tag x hx r hr ht rfl
  subst hxr
  exact (h.each x hx).2 hn hg

/-- R37: the draw with which a record is charged. -/
def Record.load (r : Record) : Nat := if r.charged = true then r.draw else 0

theorem Record.load_of_uncharged {r : Record} (h : r.charged = false) : r.load = 0 := by simp [Record.load, h]

theorem Record.load_le_draw (r : Record) : r.load ≤ r.draw := by
  unfold Record.load
  split
  · exact Nat.le_refl _
  · exact Nat.zero_le _

theorem drawSum_eq (s : State) : s.drawSum = (s.motion.records.map Record.load).sum := by
  rw [State.drawSum]
  induction s.motion.records with
  | nil => rfl
  | cons r l ih =>
      by_cases h : r.charged = true
      · rw [List.filter_cons_of_pos h]
        simp only [List.map_cons, List.sum_cons, ih, Record.load, h, if_true]
      · rw [List.filter_cons_of_neg h]
        simp only [List.map_cons, List.sum_cons, ih, Record.load, h, Bool.false_eq_true, if_false, Nat.zero_add]

/-- Records whose loads do not grow leave the sum of the loads no greater. -/
theorem sum_load_le {g : Record → Record} {l : List Record} (h : ∀ x ∈ l, (g x).load ≤ x.load) :
    ((l.map g).map Record.load).sum ≤ (l.map Record.load).sum := by
  rw [List.map_map]
  exact List.sum_le_sum h

/-- The change of the one record with a tag adds at most its load. -/
theorem sum_load_change {tag d : Nat} {f : Record → Record} : ∀ {l : List Record}, (l.map Record.tag).Nodup →
    (∀ x ∈ l, x.tag = tag → (f x).load ≤ d) →
    ((l.map (fun x => if x.tag = tag then f x else x)).map Record.load).sum ≤ (l.map Record.load).sum + d
  | [], _, _ => Nat.zero_le _
  | r :: l, hn, hd => by
      obtain ⟨hr, hl⟩ := List.nodup_cons.1 hn
      simp only [List.map_cons, List.sum_cons]
      by_cases h : r.tag = tag
      · have hrest : l.map (fun x => if x.tag = tag then f x else x) = l :=
          (List.map_congr_left fun x hx =>
            if_neg fun hxt => hr (List.mem_map.2 ⟨x, hx, hxt.trans h.symm⟩)).trans (List.map_id' l)
        have hload := hd r List.mem_cons_self h
        rw [hrest, if_pos h]
        omega
      · have hload := sum_load_change hl fun x hx => hd x (List.mem_cons_of_mem _ hx)
        rw [if_neg h]
        omega

/-! ### Changes that keep the rules of the list -/

/-- Through LOADING and a commit no record is accepted (R195, R199). -/
abbrev Store.Busy (st : Store) : Prop := st.mode = .loading ∨ st.commit ≠ .idle

/-- t comes from s by changes of the list that accept no record: the records that are left are those of s, in their order;
the draw sum lies within the budget or has not grown; and the rules of the bank are kept, where p holds. -/
structure TendedIf (p : Prop) (s t : State) : Prop where
  tags : t.tags ⊆ s.tags
  line : s.tags.Nodup → t.idents.Sublist s.idents
  draws : s.tags.Nodup → t.drawSum ≤ max s.motion.budget s.drawSum
  bank : p → s.BankRules → t.BankRules ∧ ∀ tag, s.Secured tag → t.Secured tag
  budget : t.motion.budget = s.motion.budget
  profile : t.profile = s.profile
  busy : t.store.Busy → s.store.Busy

/-- Such changes, whatever list they find. -/
abbrev Tended : State → State → Prop := TendedIf True

/-- Such changes of a record that holds the bank if it needs it. -/
abbrev TendedAt (tag : Nat) (s t : State) : Prop := TendedIf (s.Secured tag) s t

namespace TendedIf

theorem nodup {p : Prop} {s t : State} (h : TendedIf p s t) (hn : s.tags.Nodup) : t.tags.Nodup := by
  rw [tags_of_idents] at hn ⊢
  exact ((h.line (by rwa [tags_of_idents])).map Ident.tag).nodup hn

theorem compose {p q : Prop} {s t u : State} (h : TendedIf p s u) (k : TendedIf q u t)
    (hq : p → s.BankRules → (∀ tag, s.Secured tag → u.Secured tag) → u.BankRules → q) : TendedIf p s t where
  tags := fun _ h' => h.tags (k.tags h')
  line hn := (k.line (h.nodup hn)).trans (h.line hn)
  draws hn := by
    have hu := h.draws hn
    have ht := k.draws (h.nodup hn)
    rw [h.budget] at ht
    omega
  bank hp hs := by
    obtain ⟨hu, hsu⟩ := h.bank hp hs
    obtain ⟨ht, hut⟩ := k.bank (hq hp hs hsu hu) hu
    exact ⟨ht, fun tag hst => hut tag (hsu tag hst)⟩
  budget := k.budget.trans h.budget
  profile := k.profile.trans h.profile
  busy hb := h.busy (k.busy hb)

/-- A change of the record under a tag that keeps what stands of it, grants it no bank that it does not hold, and charges
it as far as the budget allows. -/
theorem record {p : Prop} {s : State} {tag : Nat} {f : Record → Record} (hf : ∀ r, r.tag = tag → (f r).tag = tag)
    (hk : ∀ r, s.Only tag r → Follows s r (f r))
    (hg : p → ∀ r, s.Only tag r → (f r).Granted → r.Granted ∨ s.Secured tag)
    (hd : ∀ r, s.Only tag r →
      (f r).load ≤ r.load ∨ s.drawSum + (f r).load ≤ max s.motion.budget s.drawSum) :
    TendedIf p s (s.onRecord tag f) := by
  have hrecords : (s.onRecord tag f).motion.records = s.motion.records.map (fun r => if r.tag = tag then f r else r) := rfl
  refine ⟨fun _ h => onRecord_tags s tag hf ▸ h, fun hn => ?_, fun hn => ?_, fun hs hb => ?_, rfl, rfl, id⟩
  · have hsame : (s.onRecord tag f).idents = s.idents := by
      rw [State.idents, hrecords, List.map_map]
      refine List.map_congr_left fun x hx => ?_
      change (if x.tag = tag then f x else x).ident = x.ident
      split
      · next h => exact (hk x ⟨lone_of_nodup hn tag, hx, h⟩).ident
      · rfl
    rw [hsame]
  · rw [drawSum_eq, hrecords]
    have hl := lone_of_nodup hn tag
    by_cases hgrow : ∃ r, s.Only tag r ∧ r.load < (f r).load
    · obtain ⟨r, hr, hlt⟩ := hgrow
      have hle := sum_load_change (tag := tag) (d := (f r).load) (f := f) (l := s.motion.records) hn fun x hx ht => by
        rw [hr.eq_of_mem hx ht]
      have hroom := (hd r hr).resolve_left (Nat.not_le.2 hlt)
      rw [← drawSum_eq] at hle
      omega
    · have hle := sum_load_le (g := fun x => if x.tag = tag then f x else x) (l := s.motion.records) fun x hx => by
        split
        · next ht => exact Nat.not_lt.1 fun h => hgrow ⟨x, ⟨hl, hx, ht⟩, h⟩
        · exact Nat.le_refl _
      rw [← drawSum_eq] at hle
      omega
  · have hl := lone_of_nodup hb.nodup tag
    have htags : (s.onRecord tag f).tags.Nodup := onRecord_tags s tag hf ▸ hb.nodup
    have hneeds {x : Record} (hx : x ∈ s.motion.records) (ht : x.tag = tag) : (f x).needsBank = x.needsBank :=
      (hk x ⟨hl, hx, ht⟩).needsBank
    refine ⟨⟨htags, fun t ht => ?_, fun y hy => ?_⟩, fun tag' hs' y hy hyt hyn => ?_⟩
    · obtain ⟨r, hr, hrt, hrn⟩ := hb.holder t ht
      by_cases h : r.tag = tag
      · exact ⟨f r, List.mem_map.2 ⟨r, hr, if_pos h⟩, (hf r h).trans (h.symm.trans hrt), (hneeds hr h).trans hrn⟩
      · exact ⟨r, List.mem_map.2 ⟨r, hr, if_neg h⟩, hrt, hrn⟩
    · obtain ⟨x, hx, hxt, rfl⟩ | ⟨hy', -⟩ := mem_onRecord hy
      · refine (hk x ⟨hl, hx, hxt⟩).bankSoundFor rfl (hb.each x hx) fun hn hg' => ?_
        rw [hneeds hx hxt] at hn
        obtain h | h := hg hs x ⟨hl, hx, hxt⟩ hg'
        · exact ((hb.each x hx).2 hn h).trans (congrArg some (hxt.trans (hf x hxt).symm))
        · exact (h x hx hxt hn).trans (congrArg some (hf x hxt).symm)
      · exact hb.each y hy'
    · obtain ⟨x, hx, hxt, rfl⟩ | ⟨hy', -⟩ := mem_onRecord hy
      · exact hs' x hx (hxt.trans ((hf x hxt).symm.trans hyt)) ((hneeds hx hxt).symm.trans hyn)
      · exact hs' y hy' hyt hyn

end TendedIf

namespace Tended

theorem trans {s t u : State} (h : Tended s u) (k : Tended u t) : Tended s t := h.compose k fun _ _ _ _ => trivial

/-- A change of a record that the rules of the bank secure. -/
theorem of_at {s t : State} {tag : Nat} (h : TendedAt tag s t) (hs : s.BankRules → s.Secured tag) : Tended s t :=
  { h with bank := fun _ hb => h.bank (hs hb) hb }

/-- A change that leaves the list, the bank, the budget and the tables alone. -/
theorem aside {s t : State} (records : t.motion.records = s.motion.records) (bank : t.motion.bank = s.motion.bank)
    (budget : t.motion.budget = s.motion.budget) (profile : t.profile = s.profile)
    (busy : t.store.Busy → s.store.Busy) : Tended s t where
  tags := by rw [State.tags, State.tags, records]; exact List.Subset.refl _
  line _ := by rw [State.idents, State.idents, records]
  draws _ := by
    rw [State.drawSum, State.drawSum, records]
    exact Nat.le_max_right ..
  bank _ hb := by
    refine ⟨hb.congr records bank profile, fun tag hs => ?_⟩
    rw [State.Secured, records, bank]
    exact hs
  budget := budget
  profile := profile
  busy := busy

theorem refl (s : State) : Tended s s := aside rfl rfl rfl rfl id

/-- A change of the list that leaves the sequencer alone. -/
theorem of_motion {s t : State} (c : ListChange s t) (h : t.motion = s.motion) : Tended s t :=
  aside (by rw [h]) (by rw [h]) (by rw [h]) c.profile (by rw [c.store]; exact id)

theorem foldl {α : Type} {f : State → α → State} (h : ∀ s x, Tended s (f s x)) :
    ∀ (l : List α) (s : State), Tended s (l.foldl f s)
  | [], s => refl s
  | x :: l, s => (h s x).trans (foldl h l (f s x))

theorem ite {p : Prop} [Decidable p] {s t u : State} (ht : p → Tended s t) (hu : ¬p → Tended s u) :
    Tended s (if p then t else u) := by
  split
  · next h => exact ht h
  · next h => exact hu h

/-- A change of the record under a tag that neither grants nor charges it. -/
theorem record {s : State} {tag : Nat} {f : Record → Record} (hf : ∀ r, r.tag = tag → (f r).tag = tag)
    (hk : ∀ r, s.Only tag r → Follows s r (f r) ∧ ((f r).Granted → r.Granted) ∧ (f r).load ≤ r.load) :
    Tended s (s.onRecord tag f) :=
  TendedIf.record hf (fun r hr => (hk r hr).1) (fun _ r hr hg => .inl ((hk r hr).2.1 hg)) fun r hr => .inl (hk r hr).2.2

end Tended

namespace TendedAt

/-- A change that asks for nothing. -/
theorem of {tag : Nat} {s t : State} (h : Tended s t) : TendedAt tag s t := { h with bank := fun _ => h.bank trivial }

theorem trans {tag : Nat} {s t u : State} (h : TendedAt tag s u) (k : TendedAt tag u t) : TendedAt tag s t :=
  h.compose k fun hs _ hu _ => hu tag hs

theorem ite {tag : Nat} {p : Prop} [Decidable p] {s t u : State} (ht : p → TendedAt tag s t) (hu : ¬p → TendedAt tag s u) :
    TendedAt tag s (if p then t else u) := by
  split
  · next h => exact ht h
  · next h => exact hu h

/-- A change of the record under a tag that keeps what stands of it, and charges it as far as the budget allows. -/
theorem record {s : State} {tag : Nat} {f : Record → Record} (hf : ∀ r, r.tag = tag → (f r).tag = tag)
    (hk : ∀ r, s.Only tag r → Follows s r (f r))
    (hd : ∀ r, s.Only tag r →
      (f r).load ≤ r.load ∨ s.drawSum + (f r).load ≤ max s.motion.budget s.drawSum) :
    TendedAt tag s (s.onRecord tag f) :=
  TendedIf.record hf hk (fun hs _ _ _ => .inr hs) hd

end TendedAt

end Sys2Proof.Machine

namespace Sys2Proof.Machine

/-! ### Ends, starts and pauses keep the rules of the list (R41, R45, R73, R110) -/

namespace Tended

/-- A change of the list alone that leaves the sequencer as another state has it. -/
theorem of_parts {s t : State} (motion : t.motion = s.motion) (profile : t.profile = s.profile)
    (store : t.store = s.store) : Tended s t :=
  aside (by rw [motion]) (by rw [motion]) (by rw [motion]) profile (by rw [store]; exact id)

theorem leaveMotion (r : Record) (s : State) : Tended s (leaveMotion r s) :=
  of_motion (.leaveMotion r s) (leaveMotion_motion r s)

theorem stageZero (tag : Nat) (a : Axis) (s : State) : Tended s (stageZero tag a s) :=
  of_motion (.stageZero tag a s) (stageZero_motion tag a s)

theorem stageOut (tag duty : Nat) (hit : Bool) (s : State) (o : DriveOut) : Tended s (stageOut tag duty hit s o) :=
  of_motion (.stageOut tag duty hit s o) rfl

theorem notice (n : Notice) (s : State) : Tended s (appendNotice n s) := of_motion (.appendNotice n s) rfl

theorem due (s : State) (n : Nat) : Tended s (s.onMotion (fun m => { m with attemptsDue := n })) :=
  aside rfl rfl rfl rfl id

theorem oweAttempt (s : State) : Tended s s.oweAttempt := due s _

theorem asOneEvent {f : State → State} {s : State} (h : Tended s (f s)) : Tended s (s.asOneEvent f) :=
  h.trans (due (f s) _)

/-- R45: the records of other tags are left; the bank is freed where the ended one held it. -/
theorem endRecord (tag : Nat) (res : Result) (s : State) : Tended s (endRecord tag res s) := by
  cases hr : s.find tag with
  | none => rw [endRecord_none res hr]; exact refl s
  | some r =>
      have hm := endRecord_motion res hr
      have hc := ListChange.endRecord tag res s
      have hmem {x : Record} : x ∈ (Machine.endRecord tag res s).motion.records ↔ x ∈ s.motion.records ∧ x.tag ≠ tag := by
        rw [hm, List.mem_filter, decide_eq_true_iff]
      have hsub : (Machine.endRecord tag res s).motion.records.Sublist s.motion.records := by
        rw [hm]
        exact List.filter_sublist
      have hbank {t : Nat} (h : s.motion.bank = some t) (ht : t ≠ tag) :
          (Machine.endRecord tag res s).motion.bank = some t := by
        rw [hm]
        exact (if_neg fun hx => ht (Option.some.inj (h.symm.trans hx))).trans h
      refine ⟨(hsub.map _).subset, fun _ => hsub.map _, fun _ => ?_, fun _ hb => ?_, hc.budget, hc.profile,
          fun h => hc.store ▸ h⟩
      · rw [drawSum_eq, drawSum_eq]
        exact ((hsub.map Record.load).sum_le_sum fun _ _ => Nat.zero_le _).trans (Nat.le_max_right ..)
      · refine ⟨⟨hc.tags.nodup hb.nodup, fun t ht => ?_, fun x hx => ?_⟩, fun tag' hs x hx hxt hn => ?_⟩
        · rw [hm] at ht
          obtain ⟨hne, hbt⟩ := Option.ite_none_left_eq_some.1 ht
          obtain ⟨x, hx, hxt, hn⟩ := hb.holder t hbt
          exact ⟨x, hmem.2 ⟨hx, fun h => hne (hbt.trans (congrArg some (hxt.symm.trans h)))⟩, hxt, hn⟩
        · obtain ⟨hxs, hxt⟩ := hmem.1 hx
          obtain ⟨hq, hg⟩ := hb.each x hxs
          refine ⟨fun q h => ?_, fun hn hgr => hbank (hg hn hgr) hxt⟩
          rw [hc.stepsOf]
          exact hq q h
        · obtain ⟨hxs, hne⟩ := hmem.1 hx
          exact hbank (hs x hxs hxt hn) (hxt ▸ hne)

/-- R85: only the last staged duty of the record changes in the list. -/
theorem immediateStop (r : Record) (s : State) : Tended s (immediateStop r s) := by
  have hf : Tended s ((outputsOf r.axis).foldl forceImmediate s) :=
    foldl (fun s o => of_motion (.forceImmediate s o) rfl) _ s
  exact hf.trans (record (fun _ h => h) fun _ _ => ⟨.plain rfl rfl rfl, id, Nat.le_refl _⟩)

theorem cutRecord (res : Result) (s : State) (tag : Nat) : Tended s (cutRecord res s tag) := by
  unfold Machine.cutRecord
  split
  · exact refl s
  · exact (ite (fun _ => immediateStop _ s) fun _ => refl s).trans (endRecord _ _ _)

theorem prewarnRequest (tag : Nat) (a : Axis) (d : Dir) (time : Nat) (s : State) :
    Tended s (prewarnRequest tag a d time s) := of_motion (.prewarnRequest tag a d time s) rfl

theorem prewarnCancel (tag : Nat) (s : State) : Tended s (prewarnCancel tag s) := of_motion (.prewarnCancel tag s) rfl

end Tended

/-- R37, R40, R103: a record of the tag is charged already, or the budget allows its draw. -/
abbrev State.Affords (s : State) (tag : Nat) : Prop :=
  ∀ x, s.find tag = some x → x.charged = true ∨ s.drawSum + x.draw ≤ max s.motion.budget s.drawSum

/-- What a record draws lies within what it may be charged with. -/
theorem State.Affords.load {s : State} {tag : Nat} (h : s.Affords tag) {x y : Record} (hx : s.find tag = some x)
    (hy : y.draw = x.draw) : y.load ≤ x.load ∨ s.drawSum + y.load ≤ max s.motion.budget s.drawSum := by
  have hle := hy ▸ y.load_le_draw
  obtain hc | hb := h x hx
  · exact .inl (hle.trans (if_pos hc).symm.le)
  · right
    omega

/-- A change of the record that keeps its load leaves the draw sum. -/
theorem drawSum_onRecord {s : State} {tag : Nat} {f : Record → Record} (h : ∀ r, (f r).load = r.load) :
    (s.onRecord tag f).drawSum = s.drawSum := by
  rw [drawSum_eq, drawSum_eq, State.onRecord_motion, List.map_map]
  refine congrArg List.sum (List.map_congr_left fun r _ => ?_)
  change (if r.tag = tag then f r else r).load = r.load
  split
  · exact h r
  · rfl

/-- R41, R61: a record with the marks of a motion that begins. -/
def beginning (s : State) (r : Record) : Record := { formMarks s r with waitReason := none }

theorem beginning_follows (s u : State) (r : Record) : Follows u r (beginning s r) := by
  unfold beginning formMarks
  split <;> exact .plain rfl rfl rfl

theorem beginning_charge (s : State) (r : Record) :
    (beginning s r).charged = r.charged ∧ (beginning s r).draw = r.draw := by
  unfold beginning formMarks
  split <;> exact ⟨rfl, rfl⟩

theorem beginning_load (s : State) (r : Record) : (beginning s r).load = r.load := by
  obtain ⟨hc, hd⟩ := beginning_charge s r
  rw [Record.load, Record.load, hc, hd]

namespace TendedAt

theorem startRecord {r : Record} (reversal : Bool) {s : State} (h : s.Affords r.tag) :
    TendedAt r.tag s (startRecord r reversal s) := by
  have hrec : TendedAt r.tag s (s.onRecord r.tag (started reversal)) :=
    record (fun _ h => h) (fun _ _ => .plain rfl rfl rfl) fun _ hx => h.load hx.find rfl
  have hkeeps {β : Type} (g : State → β) (hg : ∀ s o f, g (s.onOut o f) = g s)
      (hc : ∀ s a f, g (s.onChannel (.axis a) f) = g s) :=
    startRecord_keeps g hg hc r reversal s
  refine hrec.trans (.of (.of_parts ?_ ?_ ?_))
  · exact hkeeps State.motion (fun _ _ _ => rfl) fun _ _ _ => rfl
  · exact hkeeps State.profile (fun _ _ _ => rfl) fun _ _ _ => rfl
  · exact hkeeps State.store (fun _ _ _ => rfl) fun _ _ _ => rfl

theorem enterStarting {r : Record} {s : State} (h : s.Affords r.tag) : TendedAt r.tag s (enterStarting r s) :=
  (startRecord false h).trans <| ite
    (fun _ => .of ((Tended.immediateStop r _).trans (.endRecord _ _ _))) fun _ => .of (.refl _)

/-- R41 stage 4, R103: a motion begins where the bank is held and the budget allows its draw. -/
theorem beginMotion {tag : Nat} {s : State} (h : s.Affords tag) : TendedAt tag s (beginMotion tag s) := by
  unfold Machine.beginMotion
  split
  · exact .of (.refl s)
  · next r hr =>
    have htag : ∀ x : Record, x.tag = tag → (beginning s x).tag = tag := fun x hx => (formMarks_tag s x).trans hx
    have hmarks : TendedAt tag s (s.onRecord tag (beginning s)) :=
      record htag (fun x _ => beginning_follows s s x) fun x _ => .inl (beginning_load s x).le
    have hafford : (s.onRecord tag (beginning s)).Affords tag := fun x hx => by
      cases (find_onRecord_self hr htag).symm.trans hx
      obtain ⟨hc, hd⟩ := beginning_charge s r
      rw [drawSum_onRecord (beginning_load s), hc, hd]
      exact h r hr
    refine hmarks.trans (ite (fun _ => ?_) fun _ => ?_)
    · exact (record (f := fun r => { r with state := .prewarn }) (fun _ h => h) (fun _ _ => .plain rfl rfl rfl) fun _ hx =>
        hafford.load hx.find rfl).trans (.of (.prewarnRequest _ _ _ _ _))
    · have hrt := find_tag hr
      subst hrt
      exact enterStarting hafford

/-- R110: a SEQUENCE enters PAUSED with its claims and the bank. -/
theorem pauseRecord (tag : Nat) (s : State) : TendedAt tag s (pauseRecord tag s) := by
  unfold Machine.pauseRecord
  split
  · exact .of (.refl s)
  · exact (TendedAt.of (.leaveMotion _ s)).trans <|
      (TendedAt.of (.ite (fun _ => .prewarnCancel tag _) fun _ => .refl _)).trans <|
      record (fun _ h => h) (fun _ _ => .marks (f := fun q => { q with pause := false }) (fun _ => rfl) rfl rfl rfl) fun _ _ =>
        .inl ((Record.load_of_uncharged rfl).le.trans (Nat.zero_le _))

end TendedAt

end Sys2Proof.Machine

namespace Sys2Proof.Machine

/-! ### Step ends, step starts and grant attempts keep the rules of the list (R39 to R42, R98 to R105) -/

/-- R99: a formed step stands in the place of its record, uncharged if that is. -/
theorem formStep_follows {s : State} {r r1 : Record} {q : SeqFields} (hq : r.seq = some q)
    (h : formStep s r q = some r1) : Follows s r r1 := by
  unfold formStep at h
  split at h
  · cases h
  · next st hst =>
    obtain ⟨x, -, rfl⟩ := Option.map_eq_some_iff.1 h
    exact .sequence hq (q' := { q with formed := true }) rfl rfl rfl (.inr ⟨st, List.mem_of_getElem? hst, rfl⟩)

theorem formStep_charged {s : State} {r r1 : Record} {q : SeqFields} (h : formStep s r q = some r1) :
    r1.charged = r.charged := by rw [Record.charged, Record.charged, formStep_state h]

/-- R99, R102: a formed step is granted where its record was. -/
theorem formStep_granted {s : State} {r r1 : Record} {q : SeqFields} (hq : r.seq = some q)
    (h : formStep s r q = some r1) (hg : r1.Granted) : r.Granted := by
  unfold formStep at h
  split at h
  · cases h
  · obtain ⟨x, -, rfl⟩ := Option.map_eq_some_iff.1 h
    obtain hst | ⟨q', hq', hg⟩ := hg
    · exact .inl hst
    · cases hq'
      exact .inr ⟨q, hq, hg⟩

theorem Record.charged_of_waiting {r : Record} (h : r.state = .waiting) : r.charged = false := by
  rw [Record.charged, h]

theorem Record.granted_congr {x y : Record} (hs : y.state = x.state) (hq : y.seq = x.seq) (h : y.Granted) : x.Granted := by
  rwa [Record.Granted, hs, hq] at h

/-- The record that stands between two steps waits (R103, R105). -/
theorem waits_of_between {s : State} {tag : Nat} (h : between s tag = true) :
    ∀ r, s.find tag = some r → r.charged = false := fun r hr => by
  rw [between, hr] at h
  exact Record.charged_of_waiting (of_decide_eq_true h)

namespace TendedAt

theorem stepAdvance (tag : Nat) (res : Result) (s : State) : TendedAt tag s (stepAdvance tag res s) := by
  unfold Machine.stepAdvance
  split
  · exact .of (.refl s)
  · next r hr =>
    split
    · exact .of (.refl s)
    · next q hq =>
      have hfind : (Machine.leaveMotion r s).find tag = some r := by rw [State.find, leaveMotion_motion]; exact hr
      have hbetween : TendedAt tag s
          ((Machine.leaveMotion r s).onRecord tag (betweenSteps { q with limited := q.limited || res == .limited })) := by
        refine (TendedAt.of (.leaveMotion r s)).trans (record (fun _ h => h) (fun x hx => ?_) fun x hx => ?_)
        · cases hx.eq_of_find hfind
          exact .sequence hq rfl rfl rfl (.inl rfl)
        · exact .inl ((Record.load_of_uncharged rfl).le.trans (Nat.zero_le _))
      have hnow := find_onRecord_self (f := betweenSteps { q with limited := q.limited || res == .limited }) hfind fun _ h => h
      refine hbetween.trans (ite (fun _ => .of (.endRecord _ _ _)) fun _ => ?_)
      refine TendedAt.trans ?_ (ite (fun _ => pauseRecord _ _) fun _ => .of (.refl _))
      refine record (fun _ h => h) (fun x hx => ?_) fun x _ => .inl (Nat.le_refl _)
      cases hx.eq_of_find hnow
      exact .sequence rfl rfl rfl rfl (.inl rfl)

/-- R103: a step start of a record that is not charged. -/
theorem stepStart : ∀ (fuel : Nat) {tag : Nat} {s : State}, (∀ r, s.find tag = some r → r.charged = false) →
    TendedAt tag s (stepStart fuel tag s)
  | 0, _, s, _ => .of (.refl s)
  | fuel + 1, tag, s, hw => by
      have hpass (res : Result) (s1 : State) : TendedAt tag s1
          (if between (Machine.stepAdvance tag res s1) tag then
            Machine.stepStart fuel tag (Machine.stepAdvance tag res s1)
          else Machine.stepAdvance tag res s1) :=
        (stepAdvance tag res s1).trans (ite (fun h => stepStart fuel (waits_of_between h)) fun _ => .of (.refl _))
      unfold Machine.stepStart
      split
      · exact .of (.refl s)
      · next r hr =>
        split
        · exact .of (.refl s)
        · next q hq =>
          split
          · exact .of (.endRecord _ _ _)
          · next r1 hf =>
            have htag : r1.tag = tag := (formStep_tag hf).trans (find_tag hr)
            have hidle : r1.charged = false := (formStep_charged hf).trans (hw r hr)
            have hform : TendedAt tag s (s.onRecord tag (fun _ => r1)) := by
              refine record (fun _ _ => htag) (fun x hx => ?_) fun _ _ => ?_
              · cases hx.eq_of_find hr
                exact formStep_follows hq hf
              · exact .inl ((Record.load_of_uncharged hidle).le.trans (Nat.zero_le _))
            have hnow := find_onRecord_self (f := fun _ => r1) hr fun _ _ => htag
            refine hform.trans <| ite (fun _ => .of (.endRecord _ _ _)) fun _ => ite (fun _ => hpass _ _) fun _ =>
              ite (fun _ => hpass _ _) fun _ => ite (fun hb => beginMotion fun x hx => ?_) fun _ => ?_
            · cases hnow.symm.trans hx
              exact .inr (hb.trans (Nat.le_max_left ..))
            · exact record (fun _ h => h) (fun _ _ => .plain rfl rfl rfl) fun _ _ =>
                .inl ((Record.load_of_uncharged rfl).le.trans (Nat.zero_le _))

/-- R105: a step end of a record that holds the bank if it needs it. -/
theorem stepEnd (tag : Nat) (res : Result) (s : State) : TendedAt tag s (stepEnd tag res s) := by
  refine (stepAdvance tag res s).trans ?_
  unfold Machine.stepEnd
  dsimp only
  split
  · exact .of (.refl _)
  · exact (ite (fun h => stepStart _ (waits_of_between h)) fun _ => .of (.refl _)).trans (.of (.oweAttempt _))

end TendedAt

namespace Tended

/-- R111: the resume of a PAUSED record. -/
theorem resumeRecord {tag : Nat} {s : State} {r : Record} (hr : s.find tag = some r) (hp : r.state = .paused) :
    Tended s (resumeRecord tag s) := by
  have hwait : TendedAt tag s (s.onRecord tag (fun r => { r with state := .waiting, lastRefresh := s.clock })) :=
    .record (fun _ h => h) (fun _ _ => .plain rfl rfl rfl) fun _ _ =>
      .inl ((Record.load_of_uncharged rfl).le.trans (Nat.zero_le _))
  have hnow := find_onRecord_self (f := fun r => { r with state := .waiting, lastRefresh := s.clock }) hr fun _ h => h
  have hstart := TendedAt.stepStart stepFuel (tag := tag)
    (s := s.onRecord tag (fun r => { r with state := .waiting, lastRefresh := s.clock })) fun x hx => by
      cases hnow.symm.trans hx
      rfl
  refine (of_at (hwait.trans hstart) fun hb => ?_).trans (oweAttempt _)
  have ht := find_tag hr
  subst ht
  exact hb.secured (mem_of_find hr) (.inl fun h => by rw [hp] at h; cases h)

/-- R35, R41 stage 1: a record that needs the bank takes it where stage 1 of R40 passes it. -/
theorem seize {s : State} {r : Record} (hr : r ∈ s.motion.records) (hn : r.needsBank = true)
    (hb : s.motion.bank = some r.tag ∨ s.motion.bank = none) :
    Tended s (s.onMotion (fun m => { m with bank := some r.tag })) where
  tags := List.Subset.refl _
  line _ := .refl _
  draws _ := Nat.le_max_right ..
  bank _ hrules := by
    have hkeep {tag : Nat} (h : s.motion.bank = some tag) : some r.tag = some tag := by
      obtain hb | hb := hb
      · exact hb.symm.trans h
      · cases hb.symm.trans h
    refine ⟨⟨hrules.nodup, fun t ht => ⟨r, hr, Option.some.inj ht, hn⟩, fun x hx => ?_⟩, fun tag hs x hx hxt hxn => ?_⟩
    · exact ⟨(hrules.each x hx).1, fun hxn hg => hkeep ((hrules.each x hx).2 hxn hg)⟩
    · exact hkeep (hs x hx hxt hxn)
  budget := rfl
  profile := rfl
  busy := id

/-- R40 stage 1 passes a record where the bank is its own or free. -/
theorem bank_of_passes {s : State} {r : Record} {mark : Bool} (h : bankFails s r mark = false) (hn : r.needsBank = true) :
    s.motion.bank = some r.tag ∨ s.motion.bank = none := by
  cases hb : s.motion.bank with
  | none => exact .inr rfl
  | some t =>
      left
      simpa [bankFails, hn, hb] using h

/-- R41 stage 1: the granted mark of a record. -/
def grantMarked (r : Record) : Record :=
  { r with waitReason := none, seq := r.seq.map (fun q => { q with granted := true }) }

theorem takeGrant_eq (r : Record) (s : State) : Machine.takeGrant r s =
    (if r.needsBank then s.onMotion (fun m => { m with bank := some r.tag }) else s).onRecord r.tag grantMarked := by
  unfold Machine.takeGrant
  split <;> rfl

/-- R41 stage 1: a grant, after which the record is secured. -/
theorem takeGrant {s : State} {r : Record} {mark : Bool} (hr : s.find r.tag = some r)
    (hb : bankFails s r mark = false) :
    Tended s (takeGrant r s) ∧ (s.BankRules → (Machine.takeGrant r s).Secured r.tag) := by
  let u := if r.needsBank then s.onMotion (fun m => { m with bank := some r.tag }) else s
  have hu : Tended s u := ite (fun hn => seize (mem_of_find hr) hn (bank_of_passes hb hn)) fun _ => refl s
  have hrecords : u.motion.records = s.motion.records := by
    unfold u
    split <;> rfl
  have hsec (hs : s.BankRules) : u.Secured r.tag := fun x hx hxt hn => by
    rw [hrecords] at hx
    cases lone_of_nodup hs.nodup r.tag x hx r (mem_of_find hr) hxt rfl
    unfold u
    rw [if_pos hn]
    rfl
  have hmark : TendedAt r.tag u (u.onRecord r.tag grantMarked) :=
    .record (fun _ h => h) (fun _ _ => .marks (f := fun q => { q with granted := true }) (fun _ => rfl) rfl rfl rfl)
      fun _ _ => .inl (Nat.le_refl _)
  rw [takeGrant_eq]
  refine ⟨hu.compose hmark fun _ hs _ _ => hsec hs, fun hs => ?_⟩
  exact (hmark.bank (hsec hs) (hu.bank trivial hs).1).2 r.tag (hsec hs)

end Tended

/-- R40: what a scan makes of the list, and the records that it leaves for their step ends are secured. -/
structure ScanTended (a b : Scan) : Prop where
  state : Tended a.state b.state
  complete : a.state.BankRules → (∀ x ∈ a.complete, a.state.Secured x.1) → ∀ x ∈ b.complete, b.state.Secured x.1

namespace ScanTended

theorem refl (a : Scan) : ScanTended a a := ⟨.refl _, fun _ h => h⟩

theorem trans {a b c : Scan} (h : ScanTended a b) (k : ScanTended b c) : ScanTended a c :=
  ⟨h.state.trans k.state, fun hb hs => k.complete (h.state.bank trivial hb).1 (h.complete hb hs)⟩

/-- A scan that leaves no further step end. -/
theorem of_state {a b : Scan} (h : Tended a.state b.state) (hc : b.complete = a.complete) : ScanTended a b :=
  ⟨h, fun hb hs x hx => (h.bank trivial hb).2 x.1 (hs x (hc ▸ hx))⟩

/-- R41, R102: the grant of a WAITING record that stages 1 and 2 of R40 pass. -/
theorem grantRecord (sc : Scan) {s : State} {r : Record} {m1 m2 : Bool} (hr : s.find r.tag = some r)
    (hb : bankFails s r m1 = false) (hd : budgetFails s r m2 = false) :
    ScanTended { sc with state := s } (grantRecord r sc s) := by
  obtain ⟨htake, hsec⟩ := Tended.takeGrant hr hb
  unfold Machine.grantRecord
  dsimp only
  split
  · split
    · refine ⟨htake, fun hrules hs x hx => ?_⟩
      obtain hx | hx := List.mem_append.1 hx
      · exact (htake.bank trivial hrules).2 x.1 (hs x hx)
      · cases List.mem_singleton.1 hx
        exact hsec hrules
    · exact of_state (htake.trans (.endRecord _ _ _)) rfl
  · refine of_state (htake.compose (TendedAt.beginMotion fun x hx => ?_) fun _ hrules _ _ => hsec hrules) rfl
    rw [Tended.takeGrant_eq] at hx ⊢
    have hsum (u : State) : (u.onRecord r.tag Tended.grantMarked).drawSum = u.drawSum := drawSum_onRecord fun _ => rfl
    have hsame (p : Prop) [Decidable p] : (if p then s.onMotion (fun m => { m with bank := some r.tag })
        else s).find r.tag = some r ∧ (if p then s.onMotion (fun m => { m with bank := some r.tag })
        else s).drawSum = s.drawSum ∧ (if p then s.onMotion (fun m => { m with bank := some r.tag })
        else s).motion.budget = s.motion.budget := by
      split <;> exact ⟨hr, rfl, rfl⟩
    obtain ⟨hfind, hdraw, hbudget⟩ := hsame (r.needsBank = true)
    cases (find_onRecord_self (f := Tended.grantMarked) hfind fun _ h => h).symm.trans hx
    rw [hsum, hdraw, State.onRecord_motion, hbudget]
    right
    have hlow : r.draw = 0 ∨ s.drawSum + r.draw ≤ s.motion.budget := by
      by_contra hc
      rw [not_or, not_le] at hc
      simp [budgetFails, Nat.pos_of_ne_zero hc.1, hc.2] at hd
    change s.drawSum + r.draw ≤ _
    omega

/-- R40: the stages for one formed WAITING record. -/
theorem scanFormed (sc : Scan) {s : State} {r : Record} (hr : s.find r.tag = some r) :
    ScanTended { sc with state := s } (scanFormed r sc s) := by
  unfold Machine.scanFormed
  split
  · exact of_state (.record (fun _ h => h) fun _ _ => ⟨.plain rfl rfl rfl, id, Nat.le_refl _⟩) rfl
  · next hb =>
    split
    · exact of_state (.record (fun _ h => h) fun _ _ => ⟨.plain rfl rfl rfl, id, Nat.le_refl _⟩) rfl
    · next hd =>
      split
      · exact of_state (.endRecord _ _ _) rfl
      · exact grantRecord sc hr (Bool.eq_false_iff.2 hb) (Bool.eq_false_iff.2 hd)

theorem scanRecord (sc : Scan) (tag : Nat) : ScanTended sc (scanRecord sc tag) := by
  unfold Machine.scanRecord
  split
  · exact refl sc
  · next r hr =>
    split
    · next hw =>
      split
      · exact scanFormed sc ((find_tag hr).symm ▸ hr)
      · next q hq =>
        split
        · exact of_state (.endRecord _ _ _) rfl
        · next r1 hf =>
          have htag : r1.tag = tag := (formStep_tag hf).trans (find_tag hr)
          have hform : Tended sc.state (sc.state.onRecord tag (fun _ => r1)) :=
            .record (fun _ _ => htag) fun x hx => by
              cases hx.eq_of_find hr
              refine ⟨formStep_follows hq hf, formStep_granted hq hf, (Record.load_of_uncharged ?_).le.trans (Nat.zero_le _)⟩
              exact (formStep_charged hf).trans (Record.charged_of_waiting hw)
          have hnow := find_onRecord_self (f := fun _ => r1) hr fun _ _ => htag
          exact (of_state (b := { sc with state := sc.state.onRecord tag (fun _ => r1) }) hform rfl).trans
            (scanFormed sc (htag.symm ▸ hnow))
    · exact refl sc

theorem foldl : ∀ (l : List Nat) (sc : Scan), ScanTended sc (l.foldl Machine.scanRecord sc)
  | [], sc => refl sc
  | t :: l, sc => (scanRecord sc t).trans (foldl l (Machine.scanRecord sc t))

end ScanTended

theorem TendedIf.mono {p q : Prop} {s t : State} (h : TendedIf q s t) (hpq : p → q) : TendedIf p s t :=
  { h with bank := fun hp => h.bank (hpq hp) }

namespace Tended

/-- The step ends of secured records. -/
theorem foldl_stepEnd : ∀ (l : List (Nat × Result)) (s : State),
    TendedIf (∀ x ∈ l, s.Secured x.1) s (l.foldl (fun s x => Machine.stepEnd x.1 x.2 s) s)
  | [], s => TendedIf.mono (refl s) fun _ => trivial
  | x :: l, s => by
      have hfirst : TendedIf (∀ y ∈ x :: l, s.Secured y.1) s (Machine.stepEnd x.1 x.2 s) :=
        (TendedAt.stepEnd x.1 x.2 s).mono fun h => h x List.mem_cons_self
      exact hfirst.compose (foldl_stepEnd l _) fun hp _ hs _ y hy => hs y.1 (hp y (List.mem_cons_of_mem _ hy))

/-- R39 to R42: one grant attempt. -/
theorem grantAttempt (s : State) : Tended s (grantAttempt s) := by
  let s0 := s.onMotion (fun m => { m with attemptsDue := m.attemptsDue - 1 })
  have hscan := ScanTended.foldl s0.tags { state := s0, bankMark := false, budgetMark := false, complete := [] }
  refine (due s _).trans (hscan.state.compose (foldl_stepEnd _ _) fun _ hb _ _ => ?_)
  exact hscan.complete hb fun x hx => nomatch hx

theorem attempts : ∀ (fuel : Nat) (s : State), Tended s (attempts fuel s)
  | 0, s => refl s
  | fuel + 1, s => by
      unfold Machine.attempts
      exact ite (fun _ => refl s) fun _ => (grantAttempt s).trans (attempts fuel _)

theorem settle (s : State) : Tended s (settle s) := attempts _ s

end Tended

end Sys2Proof.Machine

namespace Sys2Proof.Machine

/-! ### Stops, obstructions, faults and amendments keep the rules of the list (R58, R76 to R94, R105 to R116, R128) -/

theorem Record.granted_of_ne {r : Record} (h : r.state ≠ .waiting) : r.Granted := .inl h

theorem Record.charged_of_inMotion {r : Record} (h : r.inMotion = true) : r.charged = true := by
  unfold Record.inMotion at h
  unfold Record.charged
  cases hs : r.state <;> rw [hs] at h <;> first | rfl | cases h

theorem inMotion_of_mover {s : State} {a : Axis} {r : Record} (h : s.mover a = some r) : r.inMotion = true := by
  have hp := List.find?_some h
  exact (Bool.and_eq_true_iff.1 hp).2

namespace TendedAt

/-- R84, R105, R109: the end of a controlled stop. -/
theorem finishStop (r : Record) (s : State) : TendedAt r.tag s (finishStop r s) := by
  refine (TendedAt.of (.stageZero r.tag r.axis s)).trans ?_
  unfold Machine.finishStop
  dsimp only
  split
  · exact ite (fun _ => stepEnd _ _ _) fun _ => ite (fun _ => pauseRecord _ _) fun _ => .of (.endRecord _ _ _)
  · exact .of (.endRecord _ _ _)

theorem rampDown (r : Record) (s : State) : TendedAt r.tag s (rampDown r s) := by
  refine TendedAt.trans ?_ (ite (fun _ => finishStop { r with dPrev := 0 } _) fun _ => .of (.refl _))
  exact .of <| Tended.trans (.stageOut r.tag _ false s _)
    (.record (fun _ h => h) fun _ _ => ⟨.plain rfl rfl rfl, id, Nat.le_refl _⟩)

/-- R83: a record in motion enters STOPPING. -/
theorem stopping {r : Record} {s : State} (hr : r ∈ s.motion.records) (hc : r.charged = true) (res : Result)
    (pause : Bool) : TendedAt r.tag s (s.onRecord r.tag (fun _ => r.stopping res pause)) := by
  refine record (fun _ _ => rfl) (fun x hx => ?_) fun x hx => ?_
  · cases hx.eq_of_mem hr rfl
    exact .marks (f := fun q => { q with pause := pause }) (fun _ => rfl) rfl rfl rfl
  · cases hx.eq_of_mem hr rfl
    left
    rw [Record.load, Record.load, if_pos hc]
    exact (if_pos rfl).le

end TendedAt

namespace Tended

/-- What a granted record of the list asks for holds. -/
theorem of_granted {r : Record} {s t : State} (h : TendedAt r.tag s t) (hr : r ∈ s.motion.records) (hg : r.Granted) :
    Tended s t := of_at h fun hb => hb.secured hr hg

theorem enterStopping {r : Record} {s : State} (hr : r ∈ s.motion.records) (hc : r.charged = true) (res : Result)
    (pause : Bool) : Tended s (enterStopping r res pause s) :=
  of_granted ((TendedAt.stopping hr hc res pause).trans
    (TendedAt.ite (fun _ => TendedAt.finishStop (r.stopping res pause) _) fun _ => .of (refl _))) hr
    (Record.granted_of_charged hc)

theorem stopAtUpdate {r : Record} {s : State} (hr : r ∈ s.motion.records) (hc : r.charged = true) (res : Result) :
    Tended s (stopAtUpdate r res s) :=
  of_granted ((TendedAt.stopping hr hc res false).trans (TendedAt.rampDown (r.stopping res false) _)) hr
    (Record.granted_of_charged hc)

theorem overtake_follows (s : State) (r : Record) (res : Result) :
    Follows s r (overtake r res) ∧ ((overtake r res).Granted → r.Granted) ∧ (overtake r res).load ≤ r.load := by
  unfold overtake
  split
  · exact ⟨.plain rfl rfl rfl, id, Nat.le_refl _⟩
  · next q hq =>
    refine ⟨.sequence hq rfl rfl rfl (.inl rfl), fun hg => ?_, Nat.le_refl _⟩
    obtain hs | ⟨q', hq', hg⟩ := hg
    · exact .inl hs
    · cases hq'
      exact .inr ⟨q, hq, hg⟩

/-- R58, R116, R126: a stop proper of one record. -/
theorem stopProper {r : Record} {s : State} (hr : r ∈ s.motion.records) (res : Result) : Tended s (stopProper res r s) := by
  unfold Machine.stopProper
  split
  · exact endRecord _ _ _
  · exact endRecord _ _ _
  · exact endRecord _ _ _
  · next h => exact enterStopping hr (by rw [Record.charged, h]) _ _
  · next h => exact enterStopping hr (by rw [Record.charged, h]) _ _
  · exact record (fun x h => (ListEffects.overtake_tag x res).trans h) fun x _ => overtake_follows s x res

theorem stopEvery (res : Result) (s : State) : Tended s (stopEvery res s) := by
  refine asOneEvent (foldl (fun s t => ?_) s.tags s)
  split
  · next hr => exact stopProper (mem_of_find hr) _
  · exact refl s

/-- R94, R108: a hold lapse or a release of one record. -/
theorem holdStop {r : Record} {s : State} (hr : r ∈ s.motion.records) (res : Result) : Tended s (holdStop res r s) := by
  unfold Machine.holdStop
  split
  · split
    · exact endRecord _ _ _
    · exact endRecord _ _ _
    · next h => exact enterStopping hr (by rw [Record.charged, h]) _ _
    · next h => exact enterStopping hr (by rw [Record.charged, h]) _ _
    · exact refl s
    · exact refl s
  · next q hq =>
    split
    · exact ite (fun hg => of_granted (.pauseRecord _ _) hr (.inr ⟨q, hq, hg⟩)) fun _ => endRecord _ _ _
    · next h => exact of_granted (.pauseRecord _ _) hr (.inl fun hw => by cases h.symm.trans hw)
    · next h => exact enterStopping hr (by rw [Record.charged, h]) _ _
    · next h => exact enterStopping hr (by rw [Record.charged, h]) _ _
    · next h =>
      refine ite (fun _ => record (fun _ h => h) fun x hx => ?_) fun _ => refl s
      cases hx.eq_of_mem hr rfl
      exact ⟨.sequence hq rfl rfl rfl (.inl rfl), fun _ => .inl fun hw => (by cases h.symm.trans hw), Nat.le_refl _⟩
    · exact refl s

/-! Obstructions (R90, R91). -/

/-- R91: the record of a closing door stands as it was stopped at once for its reversal. -/
theorem mem_immediateStop {r : Record} {s : State} (hr : r ∈ s.motion.records) :
    { r with dPrev := 0 } ∈ (Machine.immediateStop r s).motion.records := by
  have hkeep : ((outputsOf r.axis).foldl forceImmediate s).motion = s.motion :=
    foldl_keeps State.motion forceImmediate_motion _ s
  rw [Machine.immediateStop, State.onRecord_motion, hkeep]
  exact List.mem_map.2 ⟨r, hr, if_pos rfl⟩

theorem reverseDoor {r : Record} {s : State} (hr : r ∈ s.motion.records) (hc : r.charged = true) (p : Int) :
    Tended s (reverseDoor r p s) := by
  have hmem := mem_immediateStop hr
  have hload : (reversal s r p).load = ({ r with dPrev := 0 } : Record).load := by
    have hz : ({ r with dPrev := 0 } : Record).load = r.load := rfl
    rw [hz, Record.load, Record.load, if_pos hc]
    exact if_pos rfl
  have hstop : TendedAt r.tag s (stoppedForReversal s r p) := by
    refine (TendedAt.of (immediateStop r s)).trans
      (.record (f := fun _ => reversal s r p) (fun _ _ => rfl) (fun x hx => ?_) fun x hx => .inl ?_)
    · cases hx.eq_of_mem hmem rfl
      exact .plain rfl rfl rfl
    · cases hx.eq_of_mem hmem rfl
      exact hload.le
  have hafford : (stoppedForReversal s r p).Affords (reversal s r p).tag := fun x hx => by
    obtain ⟨y, -, -, rfl⟩ | ⟨-, hne⟩ := mem_onRecord (mem_of_find hx)
    · exact .inl rfl
    · exact absurd (find_tag hx) hne
  rw [reverseDoor_eq]
  exact of_granted (hstop.trans (TendedAt.ite (fun _ => .of (endRecord _ _ _)) fun _ =>
    TendedAt.startRecord (r := reversal s r p) true hafford)) hr (Record.granted_of_charged hc)

theorem obstruct (a : Axis) (s : State) : Tended s (obstruct a s) := by
  unfold Machine.obstruct
  split
  · exact refl s
  · next hr =>
    split
    · exact reverseDoor (mem_of_mover hr) (Record.charged_of_inMotion (inMotion_of_mover hr)) _
    · exact (immediateStop _ _).trans (endRecord _ _ _)

/-! Control updates (R76 to R79, R86) and faults (R128, R129). -/

theorem driveRecord (r : Record) (p : Int) (s : State) : Tended s (driveRecord r p s) :=
  (stageOut r.tag _ false s _).trans <| (foldl (stageOut r.tag 0 false) _ _).trans
    (record (fun _ h => h) fun _ _ => ⟨.plain rfl rfl rfl, id, Nat.le_refl _⟩)

theorem arrive {r : Record} {s : State} (hr : r ∈ s.motion.records) (hc : r.charged = true) : Tended s (arrive r s) := by
  refine of_granted ((TendedAt.of (stageZero r.tag r.axis s)).trans ?_) hr (Record.granted_of_charged hc)
  exact TendedAt.ite (fun _ => .of (endRecord _ _ _)) fun _ =>
    TendedAt.ite (fun _ => .stepEnd _ _ _) fun _ => .of (endRecord _ _ _)

theorem latchFault (k : FaultKind) (pos : Option Int) (s : State) (a : Axis) : Tended s (latchFault k pos s a) :=
  (aside rfl rfl rfl rfl id : Tended s (s.onAxis a _)).trans (notice _ _)

theorem raiseFaults (l : List Axis) (k : FaultKind) (pos : Axis → Option Int) (s : State) :
    Tended s (raiseFaults l k pos s) := by
  rw [raiseFaults_eq]
  have hheld : Tended s (heldForFault (freshAxes l s) k pos s) :=
    (foldl (fun s a => latchFault k (pos a) s a) _ s).trans
      (foldl (f := forceFault) (fun s o => aside rfl rfl rfl rfl id) _ _)
  exact hheld.trans (asOneEvent (foldl (cutRecord .fault) _ _))

theorem movingUpdate {r : Record} {s : State} (hr : r ∈ s.motion.records) (hc : r.charged = true) :
    Tended s (movingUpdate r s) := by
  unfold Machine.movingUpdate
  split
  · exact refl s
  · refine ite (fun _ => stopAtUpdate hr hc _) fun _ => ite (fun _ => arrive hr hc) fun _ =>
      ite (fun _ => stopAtUpdate hr hc _) fun _ => ?_
    split
    · exact raiseFaults _ _ _ s
    · refine Tended.trans ?_ (driveRecord _ _ _)
      exact record (fun _ h => h) fun _ _ => ⟨.plain rfl rfl rfl, id, Nat.le_refl _⟩

theorem controlUpdate (a : Axis) (s : State) : Tended s (controlUpdate a s) := by
  unfold Machine.controlUpdate
  split
  · exact refl s
  · next hr =>
    have hc := Record.charged_of_inMotion (inMotion_of_mover hr)
    split
    · exact movingUpdate (mem_of_mover hr) hc
    · exact of_granted (.rampDown _ s) (mem_of_mover hr) (Record.granted_of_charged hc)
    all_goals exact refl s

theorem judgeOverload (v? : Option Int) (s : State) : Tended s (judgeOverload v? s) := by
  have hwatch (tag : Nat) (w : Option Nat) : Tended s (s.onRecord tag (fun r => { r with overload := w })) :=
    record (fun _ h => h) fun _ _ => ⟨.plain rfl rfl rfl, id, Nat.le_refl _⟩
  unfold Machine.judgeOverload
  split
  · exact refl s
  · next hr =>
    refine ite (fun _ => ?_) fun _ => refl s
    split
    · exact ite (fun _ => hwatch _ _) fun _ => refl s
    · exact ite (fun _ => ite (fun _ => enterStopping (mem_of_mover hr)
        (Record.charged_of_inMotion (inMotion_of_mover hr)) _ _) fun _ => refl s) fun _ => hwatch _ _
    · exact hwatch _ _

/-- R73: a record in STARTING enters MOVING. -/
theorem goodSnapshot (a : Axis) (s : State) : Tended s (goodSnapshot a s) := by
  unfold Machine.goodSnapshot
  split
  · exact refl s
  · next r hr =>
    refine ite (fun hst => of_granted (.record (f := fun r => { r with state := .moving }) (fun _ h => h)
      (fun _ _ => .plain rfl rfl rfl) fun x hx => .inl ?_) (mem_of_mover hr) (.inl fun hw => ?_)) fun _ => refl s
    · cases hx.eq_of_mem (mem_of_mover hr) rfl
      rw [Record.load, Record.load, if_pos (Record.charged_of_inMotion (inMotion_of_mover hr))]
      exact (if_pos rfl).le
    · cases hst.symm.trans hw

/-- A change of every record that neither grants nor charges it. -/
theorem rewrite {s : State} {f : Record → Record}
    (hf : ∀ r, (f r).ident = r.ident ∧ (f r).seq = r.seq ∧ (f r).axis = r.axis ∧ (f r).state = r.state ∧ (f r).draw = r.draw) :
    Tended s (s.onMotion (fun m => { m with records := m.records.map f })) := by
  have htag (r : Record) : (f r).tag = r.tag := congrArg Ident.tag (hf r).1
  have hfollows (r : Record) : Follows s r (f r) := .plain (hf r).1 (hf r).2.1 (hf r).2.2.1
  have hload (r : Record) : (f r).load = r.load := by
    obtain ⟨-, -, -, hs, hd⟩ := hf r
    rw [Record.load, Record.load, Record.charged, Record.charged, hs, hd]
  have hmem {y : Record} (hy : y ∈ s.motion.records.map f) : ∃ x ∈ s.motion.records, f x = y := List.mem_map.1 hy
  have hneeds (r : Record) : (f r).needsBank = r.needsBank := (hfollows r).needsBank
  have htags : (s.motion.records.map f).map Record.tag = s.motion.records.map Record.tag :=
    (List.map_map ..).trans (List.map_congr_left fun r _ => htag r)
  refine ⟨fun _ h => (congrArg (_ ∈ ·) htags).mp h, fun _ => ?_, fun _ => ?_, fun _ hb =>
    ⟨⟨(congrArg List.Nodup htags).mpr hb.nodup, fun t ht => ?_, fun y hy => ?_⟩, fun tag hs y hy hyt hn => ?_⟩, rfl, rfl, id⟩
  · have hidents : (s.motion.records.map f).map Record.ident = s.motion.records.map Record.ident :=
      (List.map_map ..).trans (List.map_congr_left fun r _ => (hf r).1)
    rw [State.idents, State.idents, ← hidents]
    exact .refl _
  · rw [drawSum_eq, drawSum_eq]
    exact (sum_load_le fun x _ => (hload x).le).trans (Nat.le_max_right ..)
  · obtain ⟨r, hr, hrt, hn⟩ := hb.holder t ht
    exact ⟨f r, List.mem_map_of_mem hr, (htag r).trans hrt, (hneeds r).trans hn⟩
  · obtain ⟨x, hx, rfl⟩ := hmem hy
    refine (hfollows x).bankSoundFor rfl (hb.each x hx) fun hn hg => ?_
    rw [htag]
    exact (hb.each x hx).2 ((hneeds x).symm.trans hn) (Record.granted_congr (hf x).2.2.2.1 (hf x).2.1 hg)
  · obtain ⟨x, hx, rfl⟩ := hmem hy
    exact hs x hx ((htag x).symm.trans hyt) ((hneeds x).symm.trans hn)

theorem loseRoadMarks (s : State) : Tended s (loseRoadMarks s) :=
  rewrite fun r => by split <;> exact ⟨rfl, rfl, rfl, rfl, rfl⟩

/-! Prewarn-complete and amendments (R30, R70). -/

theorem prewarnComplete {r : Record} {s : State} (hr : s.find r.tag = some r) (hst : r.state = .prewarn) :
    Tended s (prewarnComplete r s) := by
  unfold Machine.prewarnComplete
  have hmark : Tended s (if r.axis = .rdoor then s.onRecord r.tag (fun r => { r with warned := true }) else s) :=
    ite (fun _ => record (fun _ h => h) fun _ _ => ⟨.plain rfl rfl rfl, id, Nat.le_refl _⟩) fun _ => refl s
  have hnow : ∃ x, (if r.axis = .rdoor then s.onRecord r.tag (fun r => { r with warned := true }) else s).find r.tag = some x
      ∧ x.state = .prewarn := by
    split
    · exact ⟨_, find_onRecord_self (f := fun r => { r with warned := true }) hr fun _ h => h, hst⟩
    · exact ⟨r, hr, hst⟩
  refine of_granted ((TendedAt.of hmark).trans ?_) (mem_of_find hr) (.inl fun hw => by cases hst.symm.trans hw)
  refine TendedAt.ite (fun _ => .of (endRecord _ _ _)) fun _ => TendedAt.ite (fun _ => ?_) fun _ =>
    .enterStarting fun x hx => ?_
  · exact TendedAt.ite (fun _ => .stepEnd _ _ _) fun _ => .of (endRecord _ _ _)
  · obtain ⟨y, hy, hys⟩ := hnow
    cases hy.symm.trans hx
    exact .inl (by rw [Record.charged, hys])

/-- R30: an amendment of a WAITING record. -/
theorem amendRecord {old : Record} {s : State} (hold : old ∈ s.motion.records) (hw : old.state = .waiting) (r : Record) :
    Tended s (amendRecord old r s) := by
  refine (record (f := fun x => x.amended r) (fun _ h => h) fun x hx => ⟨.plain rfl rfl rfl, id, ?_⟩).trans (oweAttempt _)
  cases hx.eq_of_mem hold rfl
  exact (Record.load_of_uncharged (r := old.amended r) (Record.charged_of_waiting hw)).le.trans (Nat.zero_le _)

end Tended

end Sys2Proof.Machine

namespace Sys2Proof.Machine

/-! ### The attempts that are owed are made (R39, R45, R97, R105) -/

/-- What a record may still owe: an attempt for each step that it can pass, and one for its end. -/
def Record.mayOwe (s : State) (r : Record) : Nat :=
  match r.seq with
  | none => 1
  | some q => (stepsOf s q.number).length - q.index + 1

theorem Record.mayOwe_pos (s : State) (r : Record) : 1 ≤ r.mayOwe s := by
  unfold Record.mayOwe
  split
  · exact Nat.le_refl _
  · exact Nat.le_add_left ..

theorem Record.mayOwe_of_seq {s : State} {r : Record} {q : SeqFields} (h : r.seq = some q) :
    r.mayOwe s = (stepsOf s q.number).length - q.index + 1 := by rw [Record.mayOwe, h]

theorem Record.mayOwe_congr {s t : State} (x : Record) {y : Record} (hp : t.profile = s.profile) (hq : y.seq = x.seq) :
    y.mayOwe t = x.mayOwe s := by
  unfold Record.mayOwe stepsOf
  rw [hq, hp]

/-- What the record found under a tag may still owe. -/
def State.owing (s : State) (tag : Nat) : Nat := (s.find tag).elim 0 (fun r => r.mayOwe s)

/-- What the list may still owe, counted once for each tag. -/
def State.mayOwe (s : State) : Nat := ∑ tag ∈ s.tags.toFinset, s.owing tag

/-- A record found under the tag is a SEQUENCE. -/
abbrev State.Sequenced (s : State) (tag : Nat) : Prop := ∀ r, s.find tag = some r → r.seq.isSome = true

/-- t comes from s by changes of the list that owe no more attempts than the records can bring about, `n` being what is
left over. -/
structure Spends (n : Nat) (s t : State) : Prop where
  change : ListChange s t
  total : t.mayOwe + t.motion.attemptsDue + n ≤ s.mayOwe + s.motion.attemptsDue
  sequenced : ∀ tag, s.Sequenced tag → t.Sequenced tag

namespace Spends

theorem trans {n : Nat} {s t u : State} (h : Spends n s u) (k : Spends 0 u t) : Spends n s t where
  change := h.change.trans k.change
  total := by
    have h1 := h.total
    have h2 := k.total
    omega
  sequenced tag hs := k.sequenced tag (h.sequenced tag hs)

/-- A change that leaves the list and the attempts owed as another state has them. -/
theorem like {n : Nat} {s t u : State} (h : Spends n s u) (c : ListChange s t)
    (records : t.motion.records = u.motion.records) (due : t.motion.attemptsDue = u.motion.attemptsDue) : Spends n s t := by
  have hfind (tag : Nat) : t.find tag = u.find tag := by rw [State.find, State.find, records]
  have hweigh : (fun r : Record => r.mayOwe t) = fun r => r.mayOwe u :=
    funext fun r => Record.mayOwe_congr r (c.profile.trans h.change.profile.symm) rfl
  have hmay : t.mayOwe = u.mayOwe := by
    unfold State.mayOwe State.owing State.tags
    simp only [hfind, records, hweigh]
  refine ⟨c, ?_, fun tag hs => ?_⟩
  · rw [hmay, due]
    exact h.total
  · rw [State.Sequenced, hfind]
    exact h.sequenced tag hs

theorem refl (s : State) : Spends 0 s s := ⟨.refl s, Nat.le_refl _, fun _ h => h⟩

theorem of_motion {s t : State} (c : ListChange s t) (h : t.motion = s.motion) : Spends 0 s t :=
  (refl s).like c (by rw [h]) (by rw [h])

theorem ite {n : Nat} {p : Prop} [Decidable p] {s t u : State} (ht : p → Spends n s t) (hu : ¬p → Spends n s u) :
    Spends n s (if p then t else u) := by
  split
  · next h => exact ht h
  · next h => exact hu h

/-- A change of the record under a tag, which may then owe `n` less. -/
theorem record {n : Nat} {s : State} {tag : Nat} {f : Record → Record} (hf : ∀ r, r.tag = tag → (f r).tag = tag)
    (hr : 0 < n → (s.find tag).isSome = true)
    (hk : ∀ r, s.find tag = some r → (f r).mayOwe s + n ≤ r.mayOwe s ∧ (r.seq.isSome = true → (f r).seq.isSome = true)) :
    Spends n s (s.onRecord tag f) := by
  have hother {t : Nat} (ht : t ≠ tag) : (s.onRecord tag f).find t = s.find t := by
    rw [find_onRecord s t hf]
    cases hx : s.find t with
    | none => rfl
    | some x => rw [Option.map_some, if_neg fun h => ht ((find_tag hx).symm.trans h)]
  have howing (t : Nat) (ht : t ≠ tag) : (s.onRecord tag f).owing t = s.owing t := by
    rw [State.owing, State.owing, hother ht]
    rfl
  have hself : s.find tag = none ∨ (s.onRecord tag f).owing tag + n ≤ s.owing tag := by
    cases hx : s.find tag with
    | none => exact .inl rfl
    | some x =>
        right
        rw [State.owing, State.owing, find_onRecord_self hx hf, hx]
        exact (hk x hx).1
  refine ⟨.onRecord s tag hf, ?_, fun t hs r' hr' => ?_⟩
  · have hsum : (s.onRecord tag f).mayOwe + n ≤ s.mayOwe := by
      rw [State.mayOwe, State.mayOwe, onRecord_tags s tag hf]
      by_cases hm : tag ∈ s.tags
      · have hm' := List.mem_toFinset.2 hm
        rw [← Finset.add_sum_erase _ _ hm', ← Finset.add_sum_erase _ (fun t => s.owing t) hm']
        have hrest : ∑ t ∈ s.tags.toFinset.erase tag, (s.onRecord tag f).owing t
            = ∑ t ∈ s.tags.toFinset.erase tag, s.owing t :=
          Finset.sum_congr rfl fun t ht => howing t (Finset.ne_of_mem_erase ht)
        have hle := hself.resolve_left fun h => find_eq_none_iff.1 h hm
        omega
      · have hnone := find_eq_none_iff.2 hm
        have hn : n = 0 := Nat.eq_zero_of_not_pos fun h => by
          have hsome := hr h
          rw [hnone] at hsome
          cases hsome
        have hrest : ∑ t ∈ s.tags.toFinset, (s.onRecord tag f).owing t = ∑ t ∈ s.tags.toFinset, s.owing t :=
          Finset.sum_congr rfl fun t ht => howing t fun h => hm (h ▸ List.mem_toFinset.1 ht)
        omega
    have hdue : (s.onRecord tag f).motion.attemptsDue = s.motion.attemptsDue := rfl
    omega
  · by_cases ht : t = tag
    · subst ht
      obtain ⟨r, hr0, -⟩ := Option.map_eq_some_iff.1 ((find_onRecord s t hf).symm.trans hr')
      cases (find_onRecord_self hr0 hf).symm.trans hr'
      exact (hk r hr0).2 (hs r hr0)
    · exact hs r' ((hother ht).symm.trans hr')

/-- A change of a record that leaves its sequence fields. -/
theorem field {s : State} {tag : Nat} {f : Record → Record} (hf : ∀ r, r.tag = tag → (f r).tag = tag)
    (hq : ∀ r, (f r).seq = r.seq) : Spends 0 s (s.onRecord tag f) :=
  record hf (fun h => absurd h (Nat.lt_irrefl 0)) fun r _ =>
    ⟨(Record.mayOwe_congr r rfl (hq r)).le, fun h => (congrArg Option.isSome (hq r)).trans h⟩

/-- R45: an end owes the attempt that its record kept in hand. -/
theorem endRecord (tag : Nat) (res : Result) (s : State) : Spends 0 s (endRecord tag res s) := by
  cases hr : s.find tag with
  | none => rw [endRecord_none res hr]; exact refl s
  | some r =>
      have hm := endRecord_motion res hr
      have hc := ListChange.endRecord tag res s
      have hother {t : Nat} (ht : t ≠ tag) : (Machine.endRecord tag res s).find t = s.find t := by
        rw [State.find, hm, State.find, List.find?_filter]
        refine congrArg (fun p => List.find? p s.motion.records) (funext fun x => ?_)
        by_cases hx : x.tag = t
        · simp [hx, ht]
        · simp [hx]
      have howing (t : Nat) (ht : t ≠ tag) : (Machine.endRecord tag res s).owing t = s.owing t := by
        have hf : (fun r : Record => r.mayOwe (Machine.endRecord tag res s)) = fun r => r.mayOwe s :=
          funext fun r => Record.mayOwe_congr r hc.profile rfl
        rw [State.owing, State.owing, hother ht, hf]
      have htags : (Machine.endRecord tag res s).tags.toFinset = s.tags.toFinset.erase tag := by
        ext t
        rw [Finset.mem_erase, List.mem_toFinset, List.mem_toFinset]
        by_cases ht : t = tag
        · subst ht
          simp [find_eq_none_iff.1 (endRecord_find t res s)]
        · refine ⟨fun h => ⟨ht, hc.tags.subset h⟩, fun h => ?_⟩
          by_contra hn
          exact find_eq_none_iff.1 ((hother ht).symm.trans (find_eq_none_iff.2 hn)) h.2
      refine ⟨hc, ?_, fun t hs r' hr' => ?_⟩
      · have hsum : (Machine.endRecord tag res s).mayOwe + s.owing tag = s.mayOwe := by
          have hmem : tag ∈ s.tags.toFinset := List.mem_toFinset.2 (List.mem_map.2 ⟨r, mem_of_find hr, find_tag hr⟩)
          rw [State.mayOwe, htags, State.mayOwe, ← Finset.sum_erase_add _ _ hmem]
          congr 1
          exact Finset.sum_congr rfl fun t ht => howing t (Finset.ne_of_mem_erase ht)
        have hone : 1 ≤ s.owing tag := by
          rw [State.owing, hr]
          exact r.mayOwe_pos s
        have hdue : (Machine.endRecord tag res s).motion.attemptsDue = s.motion.attemptsDue + 1 := by rw [hm]
        omega
      · by_cases ht : t = tag
        · subst ht
          rw [endRecord_find] at hr'
          cases hr'
        · exact hs r' ((hother ht).symm.trans hr')

/-- One more attempt is owed, where a step has been passed. -/
theorem owe {s t : State} (h : Spends 1 s t) : Spends 0 s t.oweAttempt := by
  refine ⟨h.change.trans (.oweAttempt t), ?_, h.sequenced⟩
  have h1 := h.total
  have h2 : t.oweAttempt.mayOwe = t.mayOwe := rfl
  have h3 : t.oweAttempt.motion.attemptsDue = t.motion.attemptsDue + 1 := rfl
  omega

theorem leaveMotion (r : Record) (s : State) : Spends 0 s (leaveMotion r s) :=
  of_motion (.leaveMotion r s) (leaveMotion_motion r s)

theorem startRecord (r : Record) (reversal : Bool) (s : State) : Spends 0 s (startRecord r reversal s) := by
  have hm : (Machine.startRecord r reversal s).motion = (s.onRecord r.tag (started reversal)).motion :=
    startRecord_keeps State.motion (fun _ _ _ => rfl) (fun _ _ _ => rfl) r reversal s
  exact (field (f := started reversal) (fun _ h => h) fun _ => rfl).like (.startRecord r reversal s)
    (congrArg Motion.records hm) (congrArg Motion.attemptsDue hm)

/-! Starts, pauses, step ends and step starts (R41, R61, R73, R103, R105, R110). -/

theorem enterStarting (r : Record) (s : State) : Spends 0 s (enterStarting r s) := by
  refine (startRecord r false s).trans (ite (fun _ => Spends.trans ?_ (endRecord _ _ _)) fun _ => refl _)
  have hkeep : ((outputsOf r.axis).foldl forceImmediate (Machine.startRecord r false s)).motion
      = (Machine.startRecord r false s).motion := foldl_keeps State.motion forceImmediate_motion _ _
  exact (of_motion (ListChange.foldl .forceImmediate _ _) hkeep).trans (field (fun _ h => h) fun _ => rfl)

theorem beginning_seq (s : State) (r : Record) : (beginning s r).seq = r.seq := by
  unfold beginning formMarks
  split <;> rfl

theorem beginMotion (tag : Nat) (s : State) : Spends 0 s (beginMotion tag s) := by
  unfold Machine.beginMotion
  split
  · exact refl s
  · have hmarks : Spends 0 s (s.onRecord tag (beginning s)) :=
      field (fun r h => (formMarks_tag s r).trans h) (beginning_seq s)
    refine hmarks.trans (ite (fun _ => ?_) fun _ => enterStarting _ _)
    exact (field (f := fun r => { r with state := .prewarn }) (fun _ h => h) fun _ => rfl).trans
      (of_motion (.prewarnRequest _ _ _ _ _) rfl)

/-- A change of the marks of a SEQUENCE. -/
theorem marks {s : State} {tag : Nat} {f : Record → Record} (g : SeqFields → SeqFields)
    (hf : ∀ r, r.tag = tag → (f r).tag = tag) (hq : ∀ r, (f r).seq = r.seq.map g)
    (hg : ∀ q, (g q).number = q.number ∧ (g q).index = q.index) : Spends 0 s (s.onRecord tag f) :=
  record hf (fun h => absurd h (Nat.lt_irrefl 0)) fun r _ => by
    unfold Record.mayOwe
    rw [hq]
    cases r.seq with
    | none => exact ⟨Nat.le_refl _, id⟩
    | some q =>
        obtain ⟨hn, hi⟩ := hg q
        simp only [Option.map_some, hn, hi]
        exact ⟨Nat.le_refl _, id⟩

theorem pauseRecord (tag : Nat) (s : State) : Spends 0 s (pauseRecord tag s) := by
  unfold Machine.pauseRecord
  split
  · exact refl s
  · exact (leaveMotion _ s).trans <| (ite (fun _ => of_motion (.prewarnCancel tag _) rfl) fun _ => refl _).trans
      (marks (fun q => { q with pause := false }) (fun _ h => h) (fun _ => rfl) fun _ => ⟨rfl, rfl⟩)

/-- R105: a SEQUENCE that is left after a step end has a step less before it. -/
theorem stepAdvance {tag : Nat} {s : State} (hs : s.Sequenced tag) (res : Result) :
    Spends 0 s (stepAdvance tag res s)
      ∧ ((Machine.stepAdvance tag res s).find tag ≠ none → Spends 1 s (Machine.stepAdvance tag res s)) := by
  unfold Machine.stepAdvance
  split
  · next hn => exact ⟨refl s, fun h => absurd hn h⟩
  · next r hr =>
    split
    · next hq =>
      have hsome := hs r hr
      rw [hq] at hsome
      cases hsome
    · next q hq =>
      have hfind : (Machine.leaveMotion r s).find tag = some r := by rw [State.find, leaveMotion_motion]; exact hr
      have hbetween : Spends 0 s
          ((Machine.leaveMotion r s).onRecord tag (betweenSteps { q with limited := q.limited || res == .limited })) := by
        refine (leaveMotion r s).trans (record (fun _ h => h) (fun h => absurd h (Nat.lt_irrefl 0)) fun x hx => ?_)
        cases hfind.symm.trans hx
        refine ⟨?_, fun _ => rfl⟩
        rw [Record.mayOwe_of_seq hq, Record.mayOwe_of_seq (r := betweenSteps _ r) rfl]
      have hnow := find_onRecord_self (f := betweenSteps { q with limited := q.limited || res == .limited }) hfind fun _ h => h
      have hsteps : stepsOf ((Machine.leaveMotion r s).onRecord tag
          (betweenSteps { q with limited := q.limited || res == .limited })) q.number = stepsOf s q.number :=
        hbetween.change.stepsOf _
      dsimp only
      split
      · refine ⟨hbetween.trans (endRecord _ _ _), fun h => absurd (endRecord_find _ _ _) h⟩
      · next hmore =>
        have hnext : Spends 1 s (((Machine.leaveMotion r s).onRecord tag
            (betweenSteps { q with limited := q.limited || res == .limited })).onRecord tag (fun r' =>
              { r' with
                lastRefresh := if r.held ∧ r.state = .stopping then s.clock else r'.lastRefresh
                seq := some { q with limited := q.limited || res == .limited, index := q.index + 1, formed := false } })) := by
          have hone := record (n := 1) (s := (Machine.leaveMotion r s).onRecord tag
            (betweenSteps { q with limited := q.limited || res == .limited })) (tag := tag) (f := fun r' =>
              { r' with
                lastRefresh := if r.held ∧ r.state = .stopping then s.clock else r'.lastRefresh
                seq := some { q with limited := q.limited || res == .limited, index := q.index + 1, formed := false } })
            (fun _ h => h) (fun _ => Option.isSome_iff_exists.2 ⟨_, hnow⟩) fun x hx => by
              cases hnow.symm.trans hx
              refine ⟨?_, fun _ => rfl⟩
              rw [Record.mayOwe_of_seq (r := betweenSteps _ r) rfl, Record.mayOwe_of_seq rfl]
              dsimp only
              rw [hsteps]
              omega
          refine ⟨hbetween.change.trans hone.change, ?_, fun t h => hone.sequenced t (hbetween.sequenced t h)⟩
          exact hone.total.trans hbetween.total
        have hall := hnext.trans (ite (p := q.pause = true) (fun _ => pauseRecord tag _) fun _ => refl _)
        refine ⟨⟨hall.change, (Nat.le_add_right _ 1).trans hall.total, hall.sequenced⟩, fun _ => hall⟩

/-- R99: a formed step is a step of the same entry at the same index. -/
theorem formStep_index {s : State} {r r1 : Record} {q : SeqFields} (h : formStep s r q = some r1) :
    ∃ q1, r1.seq = some q1 ∧ q1.number = q.number ∧ q1.index = q.index := by
  unfold formStep at h
  split at h
  · cases h
  · obtain ⟨_, -, rfl⟩ := Option.map_eq_some_iff.1 h
    exact ⟨_, rfl, rfl, rfl⟩

theorem form {s : State} {tag : Nat} {r r1 : Record} {q : SeqFields} (hr : s.find tag = some r) (hq : r.seq = some q)
    (hf : formStep s r q = some r1) : Spends 0 s (s.onRecord tag (fun _ => r1)) :=
  record (fun _ _ => (formStep_tag hf).trans (find_tag hr)) (fun h => absurd h (Nat.lt_irrefl 0)) fun x hx => by
    cases hr.symm.trans hx
    obtain ⟨q1, hq1, hn, hi⟩ := formStep_index hf
    rw [Record.mayOwe_of_seq hq, Record.mayOwe_of_seq hq1, hn, hi, hq1]
    exact ⟨Nat.le_refl _, fun _ => rfl⟩

theorem stepStart : ∀ (fuel tag : Nat) (s : State), Spends 0 s (stepStart fuel tag s)
  | 0, _, s => refl s
  | fuel + 1, tag, s => by
      have hpass (res : Result) (s1 : State) (hs : s1.Sequenced tag) : Spends 0 s1
          (if between (Machine.stepAdvance tag res s1) tag then
            Machine.stepStart fuel tag (Machine.stepAdvance tag res s1)
          else Machine.stepAdvance tag res s1) :=
        (stepAdvance hs res).1.trans (ite (fun _ => stepStart fuel tag _) fun _ => refl _)
      unfold Machine.stepStart
      split
      · exact refl s
      · next r hr =>
        split
        · exact refl s
        · next q hq =>
          split
          · exact endRecord _ _ _
          · next r1 hf =>
            have htag : r1.tag = tag := (formStep_tag hf).trans (find_tag hr)
            obtain ⟨q1, hq1, -⟩ := formStep_index hf
            have hseq : (s.onRecord tag (fun _ => r1)).Sequenced tag := fun x hx => by
              cases (find_onRecord_self (f := fun _ => r1) hr fun _ _ => htag).symm.trans hx
              exact Option.isSome_iff_exists.2 ⟨q1, hq1⟩
            exact (form hr hq hf).trans <| ite (fun _ => endRecord _ _ _) fun _ => ite (fun _ => hpass _ _ hseq) fun _ =>
              ite (fun _ => hpass _ _ hseq) fun _ => ite (fun _ => beginMotion _ _) fun _ => field (fun _ h => h) fun _ => rfl

theorem stepEnd {tag : Nat} {s : State} (hs : s.Sequenced tag) (res : Result) : Spends 0 s (stepEnd tag res s) := by
  obtain ⟨hany, hleft⟩ := stepAdvance hs res
  unfold Machine.stepEnd
  dsimp only
  split
  · exact hany
  · next hr =>
    exact ((hleft (by rw [hr]; exact Option.some_ne_none _)).trans (ite (fun _ => stepStart _ _ _) fun _ => refl _)).owe

/-! The grant attempt (R39 to R42, R102). -/

theorem takeGrant (r : Record) (s : State) : Spends 0 s (takeGrant r s) := by
  rw [Tended.takeGrant_eq]
  have hbank : Spends 0 s (if r.needsBank then s.onMotion (fun m => { m with bank := some r.tag }) else s) :=
    ite (fun _ => (refl s).like (.bank s _) rfl rfl) fun _ => refl s
  exact hbank.trans (marks (fun q => { q with granted := true }) (fun _ h => h) (fun _ => rfl) fun _ => ⟨rfl, rfl⟩)

end Spends

/-- What a scan spends, and that it leaves only SEQUENCE records for their step ends. -/
structure ScanSpends (a b : Scan) : Prop where
  state : Spends 0 a.state b.state
  complete : (∀ x ∈ a.complete, a.state.Sequenced x.1) → ∀ x ∈ b.complete, b.state.Sequenced x.1

namespace ScanSpends

theorem refl (a : Scan) : ScanSpends a a := ⟨.refl _, id⟩

theorem trans {a b c : Scan} (h : ScanSpends a b) (k : ScanSpends b c) : ScanSpends a c :=
  ⟨h.state.trans k.state, fun hs => k.complete (h.complete hs)⟩

theorem of_state {a b : Scan} (h : Spends 0 a.state b.state) (hc : b.complete = a.complete) : ScanSpends a b :=
  ⟨h, fun hs x hx => h.sequenced x.1 (hs x (hc ▸ hx))⟩

theorem scanFormed (sc : Scan) {s : State} {r : Record} (hr : s.find r.tag = some r) :
    ScanSpends { sc with state := s } (scanFormed r sc s) := by
  have hreason (w : WaitReason) : Spends 0 s (s.onRecord r.tag (fun r => { r with waitReason := some w })) :=
    .field (fun _ h => h) fun _ => rfl
  unfold Machine.scanFormed
  split
  · exact of_state (hreason _) rfl
  · split
    · exact of_state (hreason _) rfl
    · split
      · exact of_state (.endRecord _ _ _) rfl
      · unfold grantRecord
        dsimp only
        split
        · split
          · next hq =>
            refine ⟨.takeGrant r s, fun hs x hx => ?_⟩
            obtain hx | hx := List.mem_append.1 hx
            · exact (Spends.takeGrant r s).sequenced x.1 (hs x hx)
            · cases List.mem_singleton.1 hx
              refine (Spends.takeGrant r s).sequenced r.tag fun y hy => ?_
              cases hr.symm.trans hy
              exact hq
          · exact of_state ((Spends.takeGrant r s).trans (.endRecord _ _ _)) rfl
        · exact of_state ((Spends.takeGrant r s).trans (.beginMotion _ _)) rfl

theorem scanRecord (sc : Scan) (tag : Nat) : ScanSpends sc (scanRecord sc tag) := by
  unfold Machine.scanRecord
  split
  · exact refl sc
  · next r hr =>
    split
    · split
      · exact scanFormed sc ((find_tag hr).symm ▸ hr)
      · next q hq =>
        split
        · exact of_state (.endRecord _ _ _) rfl
        · next r1 hf =>
          have htag : r1.tag = tag := (formStep_tag hf).trans (find_tag hr)
          have hnow := find_onRecord_self (f := fun _ => r1) hr fun _ _ => htag
          exact (of_state (b := { sc with state := sc.state.onRecord tag (fun _ => r1) }) (.form hr hq hf) rfl).trans
            (scanFormed sc (htag.symm ▸ hnow))
    · exact refl sc

theorem foldl : ∀ (l : List Nat) (sc : Scan), ScanSpends sc (l.foldl Machine.scanRecord sc)
  | [], sc => refl sc
  | t :: l, sc => (scanRecord sc t).trans (foldl l (Machine.scanRecord sc t))

end ScanSpends

namespace Spends

theorem foldl_stepEnd : ∀ (l : List (Nat × Result)) (s : State), (∀ x ∈ l, s.Sequenced x.1) →
    Spends 0 s (l.foldl (fun s x => Machine.stepEnd x.1 x.2 s) s)
  | [], _, _ => refl _
  | x :: l, _, h =>
      have hx := stepEnd (h x List.mem_cons_self) x.2
      hx.trans (foldl_stepEnd l _ fun y hy => hx.sequenced y.1 (h y (List.mem_cons_of_mem _ hy)))

/-- R39: an attempt that is owed takes one from what is owed in all. -/
theorem grantAttempt {s : State} (h : s.motion.attemptsDue ≠ 0) : Spends 1 s (grantAttempt s) := by
  let s0 := s.onMotion (fun m => { m with attemptsDue := m.attemptsDue - 1 })
  have htake : Spends 1 s s0 := by
    refine ⟨.attemptsDue s _, ?_, fun _ hs => hs⟩
    have h1 : s0.mayOwe = s.mayOwe := rfl
    have h2 : s0.motion.attemptsDue = s.motion.attemptsDue - 1 := rfl
    omega
  have hscan := ScanSpends.foldl s0.tags { state := s0, bankMark := false, budgetMark := false, complete := [] }
  exact htake.trans (hscan.state.trans (foldl_stepEnd _ _ (hscan.complete fun x hx => nomatch hx)))

end Spends

/-- R39: attempts with as much fuel as the list may still owe leave none owed. -/
theorem attempts_due : ∀ (fuel : Nat) (s : State), s.mayOwe + s.motion.attemptsDue ≤ fuel →
    (attempts fuel s).motion.attemptsDue = 0
  | 0, _, h => by
      rw [attempts]
      omega
  | fuel + 1, s, h => by
      rw [attempts]
      split
      · next h0 => exact h0
      · next h0 =>
        have hspent := (Spends.grantAttempt h0).total
        exact attempts_due fuel _ (by omega)

/-- R97: no entry has more than eight steps. -/
abbrev Profile.ShortSequences (p : Profile) : Prop := ∀ e ∈ p.sequences, e.length ≤ 8

theorem stepsOf_length {s : State} (h : s.profile.ShortSequences) (n : Nat) : (stepsOf s n).length ≤ 8 := by
  rw [stepsOf]
  cases hx : s.profile.sequences[n - 1]? with
  | none => exact Nat.zero_le _
  | some e => exact h e (List.mem_of_getElem? hx)

/-- R97: a list may owe at most nine attempts a record. -/
theorem mayOwe_le {s : State} (h : s.profile.ShortSequences) : s.mayOwe ≤ 9 * s.motion.records.length := by
  have hone (tag : Nat) : s.owing tag ≤ 9 := by
    rw [State.owing]
    cases s.find tag with
    | none => exact Nat.zero_le _
    | some r =>
        change r.mayOwe s ≤ 9
        unfold Record.mayOwe
        split
        · omega
        · next q _ =>
          have := stepsOf_length h q.number
          omega
  have hsum := Finset.sum_le_card_nsmul s.tags.toFinset s.owing 9 fun tag _ => hone tag
  have hcard : s.tags.toFinset.card ≤ s.motion.records.length :=
    (List.toFinset_card_le _).trans (List.length_map ..).le
  rw [smul_eq_mul] at hsum
  exact hsum.trans ((Nat.mul_comm _ _).trans_le (Nat.mul_le_mul_left 9 hcard))

/-- R39: the attempts that are owed are made. -/
theorem settle_due {s : State} (h : s.profile.ShortSequences) : (settle s).motion.attemptsDue = 0 := by
  refine attempts_due _ s ?_
  have := mayOwe_le h
  omega

end Sys2Proof.Machine

namespace Sys2Proof.Machine

/-! ### What a grant may give the records of a tag (R28, R100)

A full list of pendant tags leaves a press no free one (R27), so a new record may share its tag with another; the
records of one tag are taken together. -/

/-- Law 8: such a record needs the TARGET permission. -/
abbrev RecordKind.Targets (k : RecordKind) (held : Bool) : Prop := k = .move ∨ k = .sequence ∧ held = false

/-- What bounds the records of a tag: a source, whether any of them needs TARGET, and the axes that they may come to. -/
structure Terms where
  source : Role
  targets : Prop
  axes : Axis → Prop

/-- The record and the steps of its sequence stay within the terms. -/
structure State.Under (s : State) (T : Terms) (r : Record) : Prop where
  source : r.source = T.source
  targets : r.kind.Targets r.held → T.targets
  axis : T.axes r.axis
  sequence : ∀ q ∈ r.seq, (∀ st ∈ stepsOf s q.number, T.axes st.axis) ∧ ∀ a, q.claimed.get a = true → T.axes a

/-- Every record of the tag stays within the terms. -/
abbrev State.Confined (s : State) (tag : Nat) (T : Terms) : Prop := ∀ r ∈ s.motion.records, r.tag = tag → s.Under T r

namespace State.Under

theorem claims {s : State} {T : Terms} {r : Record} (h : s.Under T r) {a : Axis} (ha : r.claims a = true) : T.axes a := by
  unfold Record.claims at ha
  split at ha
  · next q hq => exact (h.sequence q hq).2 a ha
  · rw [← of_decide_eq_true ha]
    exact h.axis

theorem congr {s t : State} {T : Terms} {r : Record} (h : s.Under T r) (hp : t.profile = s.profile) : t.Under T r where
  source := h.source
  targets := h.targets
  axis := h.axis
  sequence q hq := by
    rw [stepsOf, hp]
    exact h.sequence q hq

/-- A change that keeps the owner and the axis, and gives sequence fields that the terms allow. -/
theorem withSeq {s : State} {T : Terms} {x y : Record} {q q' : SeqFields} (h : s.Under T x)
    (hq : (∀ st ∈ stepsOf s q.number, T.axes st.axis) ∧ ∀ a, q.claimed.get a = true → T.axes a)
    (hf : q'.fixed = q.fixed) (hs : y.source = x.source) (hk : y.kind.Targets y.held → x.kind.Targets x.held)
    (ha : y.axis = x.axis) (hy : y.seq = some q') : s.Under T y where
  source := hs.trans h.source
  targets hy := h.targets (hk hy)
  axis := ha ▸ h.axis
  sequence p hp := by
    cases hy.symm.trans hp
    have hn : q'.number = q.number := congrArg (fun p => p.1) hf
    have hc : q'.claimed = q.claimed := congrArg (fun p => p.2.1) hf
    rw [hn, hc]
    exact hq

/-- A change of the marks of the sequence fields. -/
theorem marks {s : State} {T : Terms} {x y : Record} {f : SeqFields → SeqFields} (h : s.Under T x)
    (hf : ∀ q, (f q).fixed = q.fixed) (hs : y.source = x.source) (hk : y.kind.Targets y.held → x.kind.Targets x.held)
    (ha : y.axis = x.axis) (hy : y.seq = x.seq.map f) : s.Under T y := by
  cases hx : x.seq with
  | none =>
      rw [hx] at hy
      exact ⟨hs.trans h.source, fun hy => h.targets (hk hy), ha ▸ h.axis, fun q hq => by rw [hy] at hq; cases hq⟩
  | some q =>
      rw [hx] at hy
      exact h.withSeq (h.sequence q hx) (hf q) hs hk ha hy

end State.Under

/-- t comes from s by changes that leave the records of every tag within what confined them. -/
structure Confines (s t : State) : Prop where
  profile : t.profile = s.profile
  keeps : ∀ tag T, s.Confined tag T → t.Confined tag T

namespace Confines

theorem trans {s t u : State} (h : Confines s u) (k : Confines u t) : Confines s t :=
  ⟨k.profile.trans h.profile, fun tag T hs => k.keeps tag T (h.keeps tag T hs)⟩

/-- A change that leaves no record that was not there. -/
theorem of_subset {s t : State} (hr : t.motion.records ⊆ s.motion.records) (hp : t.profile = s.profile) : Confines s t :=
  ⟨hp, fun _ _ h x hx ht => (h x (hr hx) ht).congr hp⟩

theorem refl (s : State) : Confines s s := of_subset (List.Subset.refl _) rfl

theorem aside {s t : State} (hm : t.motion = s.motion) (hp : t.profile = s.profile) :
    Confines s t :=
  of_subset (by rw [hm]; exact List.Subset.refl _) hp

theorem ite {p : Prop} [Decidable p] {s t u : State} (ht : p → Confines s t) (hu : ¬p → Confines s u) :
    Confines s (if p then t else u) := by
  split
  · next h => exact ht h
  · next h => exact hu h

theorem foldl {α : Type} {f : State → α → State} (h : ∀ s x, Confines s (f s x)) :
    ∀ (l : List α) (s : State), Confines s (l.foldl f s)
  | [], s => refl s
  | x :: l, s => (h s x).trans (foldl h l (f s x))

/-- A change of the records under a tag that leaves them within what confines them all. -/
theorem record (s : State) (tag : Nat) {f : Record → Record} (hf : ∀ r, r.tag = tag → (f r).tag = tag)
    (hu : ∀ T, s.Confined tag T → ∀ x, s.Under T x → s.Under T (f x)) : Confines s (s.onRecord tag f) := by
  refine ⟨rfl, fun tag' T h x hx ht => ?_⟩
  refine State.Under.congr (s := s) ?_ rfl
  obtain ⟨y, hy, hyt, rfl⟩ | ⟨hx', -⟩ := mem_onRecord hx
  · have htt : tag = tag' := (hf y hyt).symm.trans ht
    subst htt
    exact hu T h y (h y hy hyt)
  · exact h x hx' ht

/-- A change of the records under a tag that reaches neither their owner nor their axes. -/
theorem plain (s : State) (tag : Nat) {f : Record → Record}
    (h : ∀ x, (f x).identWith = x.identWith ∧ (f x).seq = x.seq ∧ (f x).axis = x.axis) :
    Confines s (s.onRecord tag f) := by
  have hi (x : Record) : (f x).identWith x.claims = x.identWith x.claims := by rw [(h x).1]
  refine record s tag (fun x hx => (congrArg Ident.tag (hi x)).trans hx) fun T _ x hx => ?_
  have hk : (f x).kind = x.kind := congrArg Ident.kind (hi x)
  have hh : (f x).held = x.held := congrArg Ident.held (hi x)
  exact ⟨(congrArg Ident.source (hi x)).trans hx.source, hk ▸ hh ▸ hx.targets, (h x).2.2 ▸ hx.axis, (h x).2.1 ▸ hx.sequence⟩

theorem leaveMotion (r : Record) (s : State) : Confines s (leaveMotion r s) :=
  aside (leaveMotion_motion r s) (ListChange.leaveMotion r s).profile

theorem oweAttempt (s : State) : Confines s s.oweAttempt := of_subset (List.Subset.refl _) rfl

theorem endRecord (tag : Nat) (res : Result) (s : State) : Confines s (endRecord tag res s) := by
  refine of_subset ?_ (ListChange.endRecord tag res s).profile
  cases hr : s.find tag with
  | none => rw [endRecord_none res hr]; exact List.Subset.refl _
  | some r => rw [endRecord_motion res hr]; exact List.filter_subset_self _

theorem immediateStop (r : Record) (s : State) : Confines s (immediateStop r s) :=
  (foldl (fun s o => aside (s := s) (t := forceImmediate s o) rfl rfl) _ s).trans (plain _ _ fun _ => ⟨rfl, rfl, rfl⟩)

theorem startRecord (r : Record) (reversal : Bool) (s : State) : Confines s (startRecord r reversal s) := by
  have hvalve (s : State) : Confines s (match valveOf r.axis r.dir with
      | some v => Machine.stageOut r.tag 1000 true s v
      | none => s) := by
    split
    · exact aside rfl rfl
    · exact refl s
  have hsync (s : State) : Confines s (synchronise r.axis s) := aside rfl rfl
  unfold Machine.startRecord
  exact (plain s r.tag (by exact fun _ => ⟨rfl, rfl, rfl⟩)).trans <|
    (foldl (fun s o => aside (s := s) (t := claimOut r.tag s o) rfl rfl) _ _).trans <|
    (foldl (fun s o => aside (s := s) (t := stageOut r.tag 0 false s o) rfl rfl) _ _).trans <|
    (hvalve _).trans (hsync _)

theorem enterStarting (r : Record) (s : State) : Confines s (enterStarting r s) :=
  (startRecord r false s).trans <| ite (fun _ => (immediateStop r _).trans (endRecord _ _ _)) fun _ => refl _

theorem prewarnRequest (tag : Nat) (a : Axis) (d : Dir) (time : Nat) (s : State) :
    Confines s (prewarnRequest tag a d time s) := aside rfl (ListChange.prewarnRequest tag a d time s).profile

theorem beginMotion (tag : Nat) (s : State) : Confines s (beginMotion tag s) := by
  unfold Machine.beginMotion
  split
  · exact refl s
  · next r _ =>
    have hmarks : Confines s (s.onRecord tag (fun r => { formMarks s r with waitReason := none })) :=
      plain s tag fun x => by
        unfold formMarks
        split <;> exact ⟨rfl, rfl, rfl⟩
    exact hmarks.trans <|
      ite (fun _ => (plain _ _ (by exact fun _ => ⟨rfl, rfl, rfl⟩)).trans (prewarnRequest _ _ _ _ _)) fun _ => enterStarting r _

theorem pauseRecord (tag : Nat) (s : State) : Confines s (pauseRecord tag s) := by
  unfold Machine.pauseRecord
  split
  · exact refl s
  · next r _ =>
    have hpaused (u : State) : Confines u (u.onRecord tag (fun r =>
        { r with
          state := .paused, waitReason := none, pendingResult := none, pauseSince := s.clock
          stall := none, overload := none, currentSince := none, stripArmed := false
          seq := r.seq.map (fun q => { q with pause := false }) })) :=
      record u tag (fun _ h => h) fun T _ x hx =>
        hx.marks (f := fun q => { q with pause := false }) (fun _ => rfl) rfl id rfl rfl
    have hcancel (u : State) : Confines u (if r.state = .prewarn then prewarnCancel tag u else u) :=
      ite (fun _ => aside rfl rfl) fun _ => refl u
    exact (leaveMotion r s).trans ((hcancel _).trans (hpaused _))

/-- R105: the step left behind and the step taken up are of the one sequence. -/
theorem stepAdvance (tag : Nat) (res : Result) (s : State) : Confines s (stepAdvance tag res s) := by
  unfold Machine.stepAdvance
  split
  · exact refl s
  · next r hr =>
    split
    · exact refl s
    · next q hq =>
      have give {u : State} (hu : Confines s u) {f : Record → Record} (q' : SeqFields) (hf : q'.fixed = q.fixed)
          (hk : ∀ x, (f x).identWith = x.identWith ∧ (f x).axis = x.axis ∧ (f x).seq = some q') : Confines s (u.onRecord tag f) := by
        have hi (x : Record) : (f x).identWith x.claims = x.identWith x.claims := by rw [(hk x).1]
        refine ⟨hu.profile, fun tag' T h x hx ht => ?_⟩
        have huT := hu.keeps tag' T h
        obtain ⟨y, hy, hyt, rfl⟩ | ⟨hx', -⟩ := mem_onRecord hx
        · have htt : tag = tag' := (hyt.symm.trans (congrArg Ident.tag (hi y)).symm).trans ht
          subst htt
          have hkind : (f y).kind = y.kind := congrArg Ident.kind (hi y)
          have hheld : (f y).held = y.held := congrArg Ident.held (hi y)
          have hstand : s.Under T y := (huT y hy hyt).congr hu.profile.symm
          exact (hstand.withSeq ((h r (mem_of_find hr) (find_tag hr)).sequence q hq) hf
            (congrArg Ident.source (hi y)) (by rw [hkind, hheld]; exact id) (hk y).2.1 (hk y).2.2).congr hu.profile
        · exact (huT x hx' ht).congr rfl
      have hfirst := give (leaveMotion r s) (f := fun r =>
          { r with
            state := .waiting, pendingResult := none, waitReason := none, stall := none, overload := none
            currentSince := none, stripArmed := false
            seq := some { q with limited := q.limited || res == .limited } })
          { q with limited := q.limited || res == .limited } rfl (by exact fun _ => ⟨rfl, rfl, rfl⟩)
      dsimp only
      refine ite (fun _ => hfirst.trans (endRecord _ _ _)) fun _ => ?_
      refine Confines.trans (give hfirst ?_ ?_ ?_) (ite (fun _ => pauseRecord _ _) fun _ => refl _)
      · exact { q with limited := q.limited || res == .limited, index := q.index + 1, formed := false }
      · rfl
      · exact fun _ => ⟨rfl, rfl, rfl⟩

/-- R98: the motion that is formed is on the axis of a step. -/
theorem form {s : State} {tag : Nat} {r r1 : Record} {q : SeqFields} (hr : s.find tag = some r) (hq : r.seq = some q)
    (h : formStep s r q = some r1) : Confines s (s.onRecord tag (fun _ => r1)) := by
  refine record s tag (fun _ _ => (formStep_tag h).trans (find_tag hr)) fun T hs x _ => ?_
  have hu := hs r (mem_of_find hr) (find_tag hr)
  unfold formStep at h
  split at h
  · cases h
  · next st hst =>
    obtain ⟨v, -, rfl⟩ := Option.map_eq_some_iff.1 h
    refine ⟨hu.source, hu.targets, (hu.sequence q hq).1 st (List.mem_of_getElem? hst), fun p hp => ?_⟩
    cases hp
    exact hu.sequence q hq

theorem stepStart : ∀ (fuel tag : Nat) (s : State), Confines s (stepStart fuel tag s)
  | 0, _, s => refl s
  | fuel + 1, tag, s => by
      have hpass (res : Result) (s1 : State) : Confines s1
          (if between (Machine.stepAdvance tag res s1) tag then
            Machine.stepStart fuel tag (Machine.stepAdvance tag res s1)
          else Machine.stepAdvance tag res s1) :=
        (stepAdvance tag res s1).trans (ite (fun _ => stepStart fuel tag _) fun _ => refl _)
      unfold Machine.stepStart
      split
      · exact refl s
      · next r hr =>
        split
        · exact refl s
        · next q hq =>
          split
          · exact endRecord _ _ _
          · next r1 hf =>
            exact (form hr hq hf).trans <|
              ite (fun _ => endRecord _ _ _) fun _ => ite (fun _ => hpass _ _) fun _ => ite (fun _ => hpass _ _) fun _ =>
                ite (fun _ => beginMotion _ _) fun _ => plain _ _ fun _ => ⟨rfl, rfl, rfl⟩

theorem stepEnd (tag : Nat) (res : Result) (s : State) : Confines s (stepEnd tag res s) := by
  refine (stepAdvance tag res s).trans ?_
  unfold Machine.stepEnd
  dsimp only
  split
  · exact refl _
  · exact (ite (fun _ => stepStart _ _ _) fun _ => refl _).trans (oweAttempt _)

theorem takeGrant (r : Record) (s : State) : Confines s (takeGrant r s) := by
  have hmarks : Confines s (s.onRecord r.tag (fun r =>
      { r with waitReason := none, seq := r.seq.map (fun q => { q with granted := true }) })) :=
    record s r.tag (fun _ h => h) fun T _ x hx => hx.marks (f := fun q => { q with granted := true })
      (fun _ => rfl) rfl id rfl rfl
  exact hmarks.trans (ite (fun _ => of_subset (List.Subset.refl _) rfl) fun _ => refl _)

theorem grantRecord (r : Record) (sc : Scan) (s : State) : Confines s (grantRecord r sc s).state := by
  refine (takeGrant r s).trans ?_
  unfold Machine.grantRecord
  dsimp only
  split
  · split
    · exact refl _
    · exact endRecord _ _ _
  · exact beginMotion _ _

theorem scanFormed (r : Record) (sc : Scan) (s : State) : Confines s (scanFormed r sc s).state := by
  unfold Machine.scanFormed
  split
  · exact plain s r.tag fun _ => ⟨rfl, rfl, rfl⟩
  · split
    · exact plain s r.tag fun _ => ⟨rfl, rfl, rfl⟩
    · split
      · exact endRecord _ _ _
      · exact grantRecord r sc s

theorem scanRecord (sc : Scan) (tag : Nat) : Confines sc.state (scanRecord sc tag).state := by
  unfold Machine.scanRecord
  split
  · exact refl _
  · next r hr =>
    split
    · split
      · exact scanFormed r sc sc.state
      · next q hq =>
        split
        · exact endRecord _ _ _
        · next r1 hf => exact (form hr hq hf).trans (scanFormed r1 sc _)
    · exact refl _

theorem foldl_scanRecord : ∀ (l : List Nat) (sc : Scan), Confines sc.state (l.foldl Machine.scanRecord sc).state
  | [], _ => refl _
  | t :: l, sc => (scanRecord sc t).trans (foldl_scanRecord l (Machine.scanRecord sc t))

theorem grantAttempt (s : State) : Confines s (grantAttempt s) := by
  have htake : Confines s (s.onMotion (fun m => { m with attemptsDue := m.attemptsDue - 1 })) :=
    of_subset (List.Subset.refl _) rfl
  exact htake.trans <| (foldl_scanRecord _ ⟨_, false, false, []⟩).trans
    (foldl (f := fun s (x : Nat × Result) => Machine.stepEnd x.1 x.2 s) (fun s x => stepEnd x.1 x.2 s) _ _)

theorem attempts : ∀ (fuel : Nat) (s : State), Confines s (attempts fuel s)
  | 0, s => refl s
  | fuel + 1, s => by
      unfold Machine.attempts
      exact ite (fun _ => refl s) fun _ => (grantAttempt s).trans (attempts fuel _)

theorem settle (s : State) : Confines s (settle s) := attempts _ s

theorem refresh (r : Record) (s : State) : Confines s (refresh r s) := by
  refine ite (fun _ => ?_) fun _ => ite (fun _ => plain _ _ fun _ => ⟨rfl, rfl, rfl⟩) fun _ => refl s
  exact (plain s r.tag (by exact fun _ => ⟨rfl, rfl, rfl⟩)).trans <|
    (stepStart _ _ _).trans <| (oweAttempt _).trans (settle _)

end Confines

end Sys2Proof.Machine

namespace Sys2Proof.Machine

/-! ### What a command that accepts no record does to the list (R39)

Every part of the block that changes the list makes the grant attempts that it owes. -/

/-- t comes from s by changes that accept no record and leave no grant attempt owed. -/
structure Lawful (s t : State) : Prop extends TendedIf True s t where
  due : s.profile.ShortSequences → s.motion.attemptsDue = 0 → t.motion.attemptsDue = 0

namespace Lawful

theorem tended {s t : State} (h : Lawful s t) : Tended s t := h.toTendedIf

/-- R39: the attempts that are owed follow the changes. -/
theorem settled {s t : State} (h : Tended s t) : Lawful s (settle t) :=
  ⟨h.trans (.settle t), fun hs _ => settle_due (by rw [h.profile]; exact hs)⟩

theorem trans {s t u : State} (h : Lawful s u) (k : Lawful u t) : Lawful s t :=
  ⟨h.tended.trans k.tended, fun hs hd => k.due (by rw [h.profile]; exact hs) (h.due hs hd)⟩

/-- Changes that the attempts of a later one follow. -/
theorem after {s t u : State} (h : Tended s u) (k : Tended u t) : Lawful s (settle t) := settled (h.trans k)

/-- A change of the list that owes no attempt. -/
theorem of_due {s t : State} (h : Tended s t) (hd : t.motion.attemptsDue = s.motion.attemptsDue) : Lawful s t :=
  ⟨h, fun _ h0 => hd.trans h0⟩

/-- A change beside the list. -/
theorem still {s t : State} (h : t.motion = s.motion ∧ t.profile = s.profile ∧ t.store = s.store) : Lawful s t :=
  of_due (.of_parts h.1 h.2.1 h.2.2) (by rw [h.1])

theorem refl (s : State) : Lawful s s := still ⟨rfl, rfl, rfl⟩

theorem ite {p : Prop} [Decidable p] {s t u : State} (ht : p → Lawful s t) (hu : ¬p → Lawful s u) :
    Lawful s (if p then t else u) := by
  split
  · next h => exact ht h
  · next h => exact hu h

theorem foldl {α : Type} {f : State → α → State} (h : ∀ s x, Lawful s (f s x)) :
    ∀ (l : List α) (s : State), Lawful s (l.foldl f s)
  | [], s => refl s
  | x :: l, s => (h s x).trans (foldl h l (f s x))

/-- A change of the store that begins no commit and no load. -/
theorem store (s : State) (f : Store → Store) (h : (f s.store).Busy → s.store.Busy) :
    Lawful s (s.onStore f) := of_due (.aside rfl rfl rfl rfl h) rfl

theorem notice (n : Notice) (s : State) : Lawful s (appendNotice n s) :=
  of_due (.notice n s) (by rw [appendNotice_motion])

theorem lampOut (s : State) (l : Lamp) (f : LampRecord → LampRecord) : Lawful s (s.onLampOut l f) := still ⟨rfl, rfl, rfl⟩

theorem lamp (s : State) (l : Lamp) (f : Beacon → Beacon) : Lawful s (s.onLamp l f) := still ⟨rfl, rfl, rfl⟩

theorem out (s : State) (o : DriveOut) (f : DriveRecord → DriveRecord) : Lawful s (s.onOut o f) := still ⟨rfl, rfl, rfl⟩

theorem station (s : State) (n : Nat) (f : StationRecord → StationRecord) : Lawful s (s.onStation n f) := still ⟨rfl, rfl, rfl⟩

theorem clock (s : State) (n : Nat) : Lawful s (s.upTo n) := still ⟨rfl, rfl, rfl⟩

/-- A change of the sequencer beside its list. -/
theorem sequencer (s : State) (f : Motion → Motion)
    (h : (f s.motion).records = s.motion.records ∧ (f s.motion).bank = s.motion.bank
      ∧ (f s.motion).budget = s.motion.budget ∧ (f s.motion).attemptsDue = s.motion.attemptsDue) : Lawful s (s.onMotion f) :=
  of_due (.aside h.1 h.2.1 h.2.2.1 rfl id) h.2.2.2

/-! Faults and findings (R127 to R130, R161). -/

theorem driveFinding (o : DriveOut) (k : FaultKind) (s : State) : Lawful s (driveFinding o k s) :=
  settled (.raiseFaults _ _ _ s)

theorem loseRoadMarks (s : State) : Lawful s (loseRoadMarks s) := of_due (.loseRoadMarks s) rfl

theorem lampFinding (l : Lamp) (k : LampFault) (s : State) : Lawful s (lampFinding l k s) :=
  ite (fun _ => refl s) fun _ => (lamp s l _).trans <|
    (ite (fun _ => loseRoadMarks _) fun _ => refl _).trans (notice _ _)

theorem reportOpen (o : Output) (s : State) : Lawful s (reportOpen o s) := by
  cases o with
  | drive o => exact (out s o _).trans (driveFinding o _ _)
  | lamp l => exact (lampOut s l _).trans (lampFinding l _ _)

theorem reportEcho (o : Output) (s : State) : Lawful s (reportEcho o s) := by
  cases o with
  | drive o => exact (out s o _).trans (driveFinding o _ _)
  | lamp l => exact (lampOut s l _).trans (lampFinding l _ _)

theorem reportShort (o : DriveOut) (s : State) : Lawful s (reportShort o s) :=
  (out s o _).trans (driveFinding o _ _)

theorem driveLamp (l : Lamp) (d : Nat) (s : State) : Lawful s (driveLamp l d s) := lampOut s l _

theorem reportLampShort (l : Lamp) (s : State) : Lawful s (reportLampShort l s) :=
  (driveLamp l 0 s).trans <| (lampOut _ l _).trans (lampFinding l _ _)

/-! The Drive Unit's periods (R138 to R148). -/

theorem boundaryOut (s : State) (o : DriveOut) : Lawful s (boundaryOut s o) := out s o _

theorem guardPair (s : State) (a b : DriveOut) : Lawful s (guardPair s a b) := (out s a _).trans (out _ b _)

theorem openCheck (o : DriveOut) (old : DriveRecord) (reading : Nat) (s : State) :
    Lawful s (openCheck o old reading s) :=
  ite (fun _ => ite (fun _ => ite (fun _ => reportOpen _ _) fun _ => out _ _ _) fun _ => out _ _ _) fun _ => out _ _ _

theorem checkDrive (s0 s : State) (x : DriveOut × Sense) : Lawful s (checkDrive s0 s x) := by
  unfold Machine.checkDrive
  dsimp only
  split
  · exact (out s x.1 _).trans (reportShort _ _)
  · exact (out s x.1 _).trans (openCheck _ _ _ _)

/-- A change of one record's watch fields. -/
theorem watch (s : State) (tag : Nat) {f : Record → Record}
    (hf : ∀ x, (f x).ident = x.ident ∧ (f x).seq = x.seq ∧ (f x).axis = x.axis ∧ (f x).state = x.state
      ∧ (f x).draw = x.draw) : Lawful s (s.onRecord tag f) := by
  refine of_due (Tended.record (fun x hx => (congrArg Ident.tag (hf x).1).trans hx) fun x _ => ?_) rfl
  obtain ⟨hi, hq, ha, hs, hd⟩ := hf x
  refine ⟨.plain hi hq ha, Record.granted_congr hs hq, ?_⟩
  rw [Record.load, Record.load, Record.charged, Record.charged, hs, hd]

theorem doorCurrent (o : DriveOut) (reading : Nat) (a : Axis) (s : State) : Lawful s (doorCurrent o reading a s) := by
  unfold Machine.doorCurrent
  split
  · exact refl s
  · next r _ =>
    refine ite (fun _ => ite (fun _ => ?_) fun _ => watch s r.tag fun _ => ⟨rfl, rfl, rfl, rfl, rfl⟩) fun _ => refl s
    split
    · exact watch s r.tag fun _ => ⟨rfl, rfl, rfl, rfl, rfl⟩
    · exact ite (fun _ => settled (.obstruct a s)) fun _ => refl s

theorem judgeDrive (s0 s : State) (x : DriveOut × Sense) : Lawful s (judgeDrive s0 s x) := by
  rw [judgeDrive_eq]
  cases doorOf x.1 with
  | none => exact checkDrive s0 s x
  | some a => exact (checkDrive s0 s x).trans (doorCurrent _ _ _ _)

theorem driveBoundary (xs : List (DriveOut × Sense)) (s : State) : Lawful s (driveBoundary xs s) :=
  (foldl boundaryOut _ s).trans (foldl (judgeDrive s) xs _)

theorem judgeLampReading (base : Nat) (s : State) (x : Lamp × Sense) : Lawful s (judgeLampReading base s x) := by
  unfold Machine.judgeLampReading
  dsimp only
  split
  · split
    · exact (lampOut s x.1 _).trans (reportLampShort _ _)
    · split
      · split
        · exact (lampOut s x.1 _).trans (reportOpen _ _)
        · exact (lampOut s x.1 _).trans (lampOut _ _ _)
      · exact (lampOut s x.1 _).trans (lampOut _ _ _)
  · exact lampOut s x.1 _

theorem compareDrive (t : Nat) (s : State) (x : DriveOut × Bool) : Lawful s (compareDrive t s x) := by
  unfold Machine.compareDrive
  split
  · exact refl s
  · exact out s x.1 _

theorem driveCentre (t : Nat) (xs : List (DriveOut × Bool)) (s : State) : Lawful s (driveCentre t xs s) :=
  (clock s t).trans <| (foldl (compareDrive t) xs _).trans (foldl (fun s o => driveFinding o .echo s) _ _)

theorem lampCentre (t : Nat) (xs : List (Lamp × Bool)) (s : State) : Lawful s (lampCentre t xs s) :=
  (clock s t).trans <| (foldl (fun s x => lampOut s x.1 _) xs _).trans (foldl (fun s l => lampFinding l .echo s) _ _)

/-! Lamps (R150 to R160). -/

theorem judgeLamp (l : Lamp) (s : State) : Lawful s (judgeLamp l s) := (lamp s l _).trans (driveLamp l _ _)

theorem lampBoundary (s : State) (l : Lamp) : Lawful s (lampBoundary s l) :=
  (lamp s l _).trans <| (lamp _ l _).trans (judgeLamp l _)

theorem lampTestDone (s : State) : Lawful s (lampTestDone s) := by
  refine Lawful.trans (still (t := s.onBeacon (fun b => { b with test := .over })) ⟨rfl, rfl, rfl⟩) (store _ _ ?_)
  exact Or.imp_left fun h => by cases h

theorem testBoundary (s : State) : Lawful s (testBoundary s) := by
  unfold Machine.testBoundary
  split
  · exact ite (fun _ => still ⟨rfl, rfl, rfl⟩) fun _ => lampTestDone s
  · exact refl s
  · exact refl s

/-! Samples (R9, R12). -/

theorem goodSnapshot (a : Axis) (s : State) : Lawful s (goodSnapshot a s) := by
  refine of_due (.goodSnapshot a s) ?_
  unfold Machine.goodSnapshot
  split
  · rfl
  · split <;> rfl

theorem takeSample (a : Axis) (sm : Sample) (s : State) : Lawful s (takeSample a sm s) := of_due (.aside rfl rfl rfl rfl id) rfl

theorem deliverAxis (a : Axis) (sm : Sample) (s : State) : Lawful s (deliverAxis a sm s) := by
  refine (takeSample a sm s).trans ?_
  unfold Machine.deliverAxis
  dsimp only
  split
  · exact settled (.raiseFaults _ _ _ _)
  · split
    · exact refl _
    · exact settled (.controlUpdate _ _)
    · exact goodSnapshot _ _

theorem takeFigure (c : Channel) (code : Int) (v : Option Int) (s : State) : Lawful s (takeFigure c code v s) := still ⟨rfl, rfl, rfl⟩

theorem stopEvery (res : Result) (s : State) : Lawful s (settle (stopEvery res s)) := settled (.stopEvery res s)

theorem cutSupply (s : State) : Lawful s (cutSupply s) :=
  (sequencer s _ ⟨rfl, rfl, rfl, rfl⟩).trans <| (notice _ _).trans (stopEvery _ _)

theorem restoreSupply (s : State) : Lawful s (restoreSupply s) := (sequencer s _ ⟨rfl, rfl, rfl, rfl⟩).trans (notice _ _)

theorem judgeSupply (v? : Option Int) (s : State) : Lawful s (judgeSupply v? s) := by
  rcases judgeSupply_cases v? s with ⟨_, _, h⟩ | ⟨-, h⟩ | ⟨-, h⟩
  · rw [h]; exact sequencer s _ ⟨rfl, rfl, rfl, rfl⟩
  · rw [h]; exact cutSupply s
  · rw [h]; exact restoreSupply s

theorem endFailedSteps (s : State) : Lawful s (endFailedSteps s) := by
  refine settled (Tended.foldl (fun s t => ?_) s.tags s)
  split
  · exact Tended.ite (fun _ => .endRecord _ _ _) fun _ => .refl s
  · exact .refl s

/-! Pins (R18 to R21). -/

theorem vehicleStarts (s : State) : Lawful s (vehicleStarts s) := (notice _ s).trans (stopEvery _ _)

theorem holdMoving (s : State) : Lawful s (holdMoving s) := by
  have hedge : Lawful s (s.onPins (fun p => { p with movingEdge := some s.clock })) := still ⟨rfl, rfl, rfl⟩
  exact hedge.trans (ite (fun _ => refl _) fun _ => vehicleStarts _)

theorem rawSpeedEdge (s : State) : Lawful s (rawSpeedEdge s) := by
  have hedge : Lawful s (s.onPins (fun p => { p with rawEdge := some s.clock })) := still ⟨rfl, rfl, rfl⟩
  exact hedge.trans (ite (fun _ => holdMoving _) fun _ => refl _)

theorem stripEvent (a : Axis) (s : State) : Lawful s (stripEvent a s) := by
  unfold Machine.stripEvent
  split
  · exact refl s
  · exact ite (fun _ => settled (.obstruct a s)) fun _ => refl s

theorem inputActive (i : Input) (s : State) : Lawful s (inputActive i s) := by
  cases i with
  | edgeK => exact stripEvent _ s
  | edgeR => exact stripEvent _ s
  | speed => exact holdMoving s
  | park => exact refl s
  | foot => exact refl s
  | night => exact refl s

theorem inputPin (i : Input) (l : Bool) (s : State) : Lawful s (inputPin i l s) := by
  refine ite (fun _ => refl s) fun _ => ?_
  exact Lawful.trans (still (by exact ⟨rfl, rfl, rfl⟩)) (ite (fun _ => rawSpeedEdge _) fun _ => refl _)

theorem emptyList (res : Result) (s : State) : Lawful s (emptyList res s) :=
  settled (.asOneEvent (.foldl (fun s tag => .cutRecord res s tag) s.tags s))

theorem estopForced (c : EstopCause) (s : State) : Lawful s (estopForced c s) := by
  have hm := estopForced_motion c s
  refine of_due (.aside (by rw [hm]) (by rw [hm]) (by rw [hm]) ?_ ?_) (by rw [hm])
  · exact estopForced_keeps State.profile (fun n s => (ListChange.appendNotice n s).profile) (fun _ _ => rfl) c s
  · rw [estopForced_keeps State.store (fun n s => (ListChange.appendNotice n s).store) (fun _ _ => rfl) c s]
    exact id

theorem estopCause (c : EstopCause) (s : State) : Lawful s (estopCause c s) := by
  rw [estopCause_eq]
  exact ite (fun _ => refl s) fun _ => (estopForced c s).trans (emptyList _ _)

theorem estopLow (s : State) : Lawful s (estopLow s) := Lawful.trans (still (by exact ⟨rfl, rfl, rfl⟩)) (estopCause _ _)

theorem assertHoldoff (s : State) : Lawful s (assertHoldoff s) := by
  rw [assertHoldoff_eq]
  exact (still ⟨holdoffForced_motion s, holdoffForced_keeps State.profile (fun _ _ => rfl) (fun _ _ => rfl) s,
    holdoffForced_keeps State.store (fun _ _ => rfl) (fun _ _ => rfl) s⟩).trans (emptyList _ _)

theorem holdoffHigh (s : State) : Lawful s (holdoffHigh s) :=
  Lawful.trans (still (by exact ⟨rfl, rfl, rfl⟩)) (ite (fun _ => refl _) fun _ => assertHoldoff _)

theorem releaseHoldoff (s : State) : Lawful s (releaseHoldoff s) := by
  have hpin : Lawful s (s.onPins (fun p => { p with holdoff := false, holdoffLow := none })) := still ⟨rfl, rfl, rfl⟩
  exact hpin.trans <| (foldl (f := liftHoldoff) (fun s o => out s o _) driveOuts _).trans
    (foldl (f := fun s l => Machine.judgeLamp l s) (fun s l => judgeLamp l s) lamps _)

theorem clearLatch (s : State) : Lawful s (clearLatch s) := (sequencer s _ ⟨rfl, rfl, rfl, rfl⟩).trans (notice _ _)

/-! The store (R193 to R201). -/

theorem setLock (s : State) : Lawful s (setLock s) := store s _ id

theorem endCommit (failed : Option CommitStage) (s : State) : Lawful s (endCommit failed s) :=
  (notice _ s).trans <| (store _ _ (.imp_right fun h => absurd rfl h)).trans (ite (fun _ => setLock _) fun _ => refl _)

/-! The crew bus (R163 to R178). -/

theorem heard (n : Nat) (s : State) : Lawful s (heard n s) := station s n _

/-- R177: a hold lapse of every pendant record. -/
theorem lapsePendants (s : State) : Lawful s (lapsePendants s) := by
  refine settled (.asOneEvent (Tended.foldl (fun s t => ?_) s.tags s))
  split
  · next hr => exact Tended.ite (fun _ => .holdStop (mem_of_find hr) _) fun _ => .refl s
  · exact .refl s

/-- R93, R111. -/
theorem refresh {r : Record} {s : State} (hr : s.find r.tag = some r) : Lawful s (refresh r s) :=
  ite (fun hp => settled (.resumeRecord hr hp)) fun _ => ite (fun _ => watch s r.tag fun _ => ⟨rfl, rfl, rfl, rfl, rfl⟩) fun _ => refl s

theorem of_find {s : State} {t : Nat} {r : Record} (h : s.find t = some r) : s.find r.tag = some r :=
  find_tag h ▸ h

theorem releaseButton (n : Nat) (s : State) (b : Button) : Lawful s (releaseButton n s b) := by
  unfold Machine.releaseButton
  split
  · exact refl s
  · next r hr =>
    obtain ⟨t, -, ht⟩ := Option.bind_eq_some_iff.1 hr
    exact settled (.holdStop (mem_of_find ht) _)

theorem refreshButton (n : Nat) (s : State) (b : Button) : Lawful s (refreshButton n s b) := by
  unfold Machine.refreshButton
  split
  · exact refl s
  · refine ite (fun _ => refl s) fun _ => ?_
    split
    · exact refl s
    · next r hr =>
      obtain ⟨t, -, ht⟩ := Option.bind_eq_some_iff.1 hr
      exact ite (fun _ => refl s) fun _ => refresh (of_find ht)

theorem clearFrom (n : Nat) (s : State) : Lawful s (clearFrom n s) :=
  ite (fun _ => refl s) fun _ => ite (fun _ => clearLatch s) fun _ => station _ _ _

theorem handClear (src dst : BitVec 4) (s : State) : Lawful s (handClear src dst s) := by
  unfold Machine.handClear
  split
  · exact refl s
  · exact ite (fun _ => ite (fun _ => (heard _ s).trans (clearFrom _ _)) fun _ => heard _ s) fun _ => refl s

theorem handHalt (src : BitVec 4) (s : State) : Lawful s (handHalt src s) :=
  ite (fun _ => refl s) fun _ => (heard _ s).trans (estopCause _ _)

end Lawful

end Sys2Proof.Machine

namespace Sys2Proof.Machine

/-! ### What a command keeps of the list (Laws 2, 3 and 8) -/

/-- Law 2 of what stands of the records. -/
abbrev IdentsSound (l : List Ident) : Prop :=
  (l.map Ident.tag).Nodup
    ∧ (∀ a ∈ axes, (l.filter (fun i => i.claims a)).length ≤ 1)
    ∧ (∀ i ∈ l,
        (∃ a ∈ axes, i.claims a = true)
          ∧ (i.station.isNone = true → 1 ≤ i.tag ∧ i.tag ≤ 199)
          ∧ (i.station.isSome = true → 200 ≤ i.tag ∧ i.tag ≤ 255))
    ∧ l.Pairwise (fun x y => y.held = true → x.held = true)

/-- A list is sound as what stands of its records is. -/
theorem listSound_iff (s : State) : s.ListSound ↔ IdentsSound s.idents := by
  have hclaims (a : Axis) : (s.motion.records.filter (fun r => r.claims a)).length =
      (s.idents.filter (fun i => i.claims a)).length := by
    rw [State.idents, List.filter_map, List.length_map]
    rfl
  simp only [State.ListSound, IdentsSound, tags_of_idents, hclaims]
  refine and_congr_right fun _ => and_congr_right fun _ => and_congr ?_ ?_
  · exact ⟨fun h i hi => by obtain ⟨r, hr, rfl⟩ := List.mem_map.1 hi; exact h r hr,
      fun h r hr => h r.ident (List.mem_map_of_mem hr)⟩
  · rw [State.idents, List.pairwise_map]
    rfl

theorem IdentsSound.sublist {l l' : List Ident} (h : IdentsSound l) (hs : l'.Sublist l) : IdentsSound l' := by
  obtain ⟨hn, hc, he, ho⟩ := h
  exact ⟨(hs.map _).nodup hn, fun a ha => ((hs.filter _).length_le).trans (hc a ha), fun i hi => he i (hs.subset hi),
    ho.sublist hs⟩

theorem bankSound_iff (s : State) :
    s.BankSound ↔ s.ListSound ∧ (s.store.Busy → s.motion.records = []) ∧ s.BankRules :=
  ⟨fun ⟨hl, hb, ht, hr⟩ => ⟨hl, hb, hl.1, ht, hr⟩, fun ⟨hl, hb, hr⟩ => ⟨hl, hb, hr.holder, hr.each⟩⟩

/-- Law 8, R28 checks 1 to 7: what a record must find to be accepted. -/
abbrev State.Permits (s : State) (r : Record) : Prop :=
  s.store.mode = .run ∧ s.store.commit = .idle ∧ s.pins.holdoff = false ∧ s.motion.estop = false
    ∧ s.motion.supply = .normal
    ∧ ∀ a ∈ axes, r.claims a = true →
      mayHold s r.source a = true ∧ s.faulted a = false
        ∧ (r.kind.Targets r.held → mayTarget s r.source a = true)

/-- Every record whose tag was free was permitted (Law 8). -/
abbrev Admitted (s t : State) : Prop := ∀ r ∈ t.motion.records, s.find r.tag = none → s.Permits r

/-- What a command that does not reset the block keeps. -/
structure Governed (s t : State) : Prop where
  list : s.ListSound → t.ListSound
  bank : s.BankSound → t.BankSound
  draws : s.ListSound → t.drawSum ≤ t.motion.budget ∨ t.drawSum ≤ s.drawSum
  settled : s.Settled → t.Settled
  profile : s.BankSound → t.profile ≠ s.profile → s.motion.records = []
  admitted : Admitted s t

/-- Two states with the same list, bank, attempts owed and tables. -/
structure Alike (s t : State) : Prop where
  records : t.motion.records = s.motion.records
  bank : t.motion.bank = s.motion.bank
  due : t.motion.attemptsDue = s.motion.attemptsDue
  profile : t.profile = s.profile
  busy : t.store.Busy → s.store.Busy

theorem Alike.refl (s : State) : Alike s s := ⟨rfl, rfl, rfl, rfl, id⟩

/-- R36: the budget may be another before the changes that heed it. -/
theorem Governed.of_alike {s u t : State} (a : Alike s u) (h : Lawful u t) : Governed s t := by
  have hidents : u.idents = s.idents := by rw [State.idents, State.idents, a.records]
  have htags : u.tags = s.tags := by rw [State.tags, State.tags, a.records]
  have hsum : u.drawSum = s.drawSum := by rw [State.drawSum, State.drawSum, a.records]
  have hlist (hs : s.ListSound) : t.ListSound :=
    (listSound_iff t).2 (((listSound_iff s).1 hs).sublist (hidents ▸ h.line (htags ▸ hs.1)))
  have hprofile : t.profile = s.profile := h.profile.trans a.profile
  refine ⟨hlist, fun hs => ?_, fun hs => ?_, fun ⟨hd, hq⟩ => ?_, fun _ hp => absurd hprofile hp, fun r hr hn => ?_⟩
  · obtain ⟨hl, hb, hr⟩ := (bankSound_iff s).1 hs
    have ht : t.BankRules := (h.bank trivial (hr.congr a.records a.bank a.profile)).1
    refine (bankSound_iff t).2 ⟨hlist hl, fun hbt => ?_, ht⟩
    have hempty : u.tags = [] := htags.trans (congrArg (List.map Record.tag) (hb (a.busy (h.busy hbt))))
    exact List.map_eq_nil_iff.1 (List.subset_nil.1 (hempty ▸ h.tags))
  · have hd := h.draws (htags ▸ hs.1)
    rw [h.budget, ← hsum]
    exact le_max_iff.1 hd
  · exact ⟨h.due (by rw [a.profile]; exact hq) (a.due.trans hd), by rw [hprofile]; exact hq⟩
  · exact absurd (htags ▸ h.tags (List.mem_map_of_mem hr)) (find_eq_none_iff.1 hn)

end Sys2Proof.Machine

namespace Sys2Proof.Machine

/-! ### What an acceptance does to the list (R22 to R30) -/

/-- What keeps the rules of the list and of the bank, and raises no draw sum above the budget. -/
structure Preserves (s t : State) : Prop where
  list : s.ListSound → t.ListSound
  bank : s.BankSound → t.BankSound
  draws : s.ListSound → t.drawSum ≤ max s.motion.budget s.drawSum
  budget : t.motion.budget = s.motion.budget
  profile : t.profile = s.profile

namespace Preserves

theorem of_tended {s t : State} (h : Tended s t) : Preserves s t := by
  have hlist (hs : s.ListSound) : t.ListSound :=
    (listSound_iff t).2 (((listSound_iff s).1 hs).sublist (h.line hs.1))
  refine ⟨hlist, fun hs => ?_, fun hs => h.draws hs.1, h.budget, h.profile⟩
  obtain ⟨hl, hb, hr⟩ := (bankSound_iff s).1 hs
  refine (bankSound_iff t).2 ⟨hlist hl, fun hbt => ?_, (h.bank trivial hr).1⟩
  have hempty : s.tags = [] := congrArg (List.map Record.tag) (hb (h.busy hbt))
  exact List.map_eq_nil_iff.1 (List.subset_nil.1 (hempty ▸ h.tags))

theorem trans {s t u : State} (h : Preserves s u) (k : Preserves u t) : Preserves s t where
  list hs := k.list (h.list hs)
  bank hs := k.bank (h.bank hs)
  draws hs := by
    have hu := h.draws hs
    have ht := k.draws (h.list hs)
    rw [h.budget] at ht
    omega
  budget := k.budget.trans h.budget
  profile := k.profile.trans h.profile

end Preserves

/-- R23: a record goes in before the first that is not held if it is held, and else at the end. -/
theorem insertRecord_split (r : Record) : ∀ l : List Record,
    ∃ a b, l = a ++ b ∧ insertRecord r l = a ++ r :: b ∧ (∀ x ∈ a, r.held = true → x.held = true)
      ∧ (b = [] ∨ r.held = true)
  | [] => ⟨[], [], rfl, rfl, fun _ h => (nomatch h), .inl rfl⟩
  | x :: xs => by
      obtain ⟨a, b, hxs, hins, ha, hb⟩ := insertRecord_split r xs
      unfold insertRecord
      by_cases h : (r.held && !x.held) = true
      · rw [if_pos h]
        exact ⟨[], x :: xs, rfl, rfl, fun _ h => (nomatch h), .inr (Bool.and_eq_true_iff.1 h).1⟩
      · rw [if_neg h]
        refine ⟨x :: a, b, by rw [hxs]; rfl, by rw [hins]; rfl, fun y hy hr => ?_, hb⟩
        obtain rfl | hy := List.mem_cons.1 hy
        · rw [hr, Bool.true_and] at h
          rw [Bool.not_eq_true, Bool.not_eq_false'] at h
          exact h
        · exact ha y hy hr

theorem insertRecord_perm (r : Record) (l : List Record) : (insertRecord r l).Perm (r :: l) := by
  obtain ⟨a, b, hl, hins, -, -⟩ := insertRecord_split r l
  rw [hins, hl]
  exact List.perm_middle

/-- What the checks before it and its own making give a record that is accepted (R23, R25, R28, R100). -/
structure State.Acceptable (s : State) (x : Record) : Prop where
  idle : ¬s.store.Busy
  fresh : s.ListSound → x.tag ∉ s.tags
  range : (x.station.isNone = true → 1 ≤ x.tag ∧ x.tag ≤ 199) ∧ (x.station.isSome = true → 200 ≤ x.tag ∧ x.tag ≤ 255)
  apart : ∀ y ∈ s.motion.records, ∀ a, y.claims a = true → x.claims a = false
  claims : x.claims x.axis = true
  waiting : x.state = .waiting
  sequence : ∀ q ∈ x.seq, q.granted = false
    ∧ (∀ st ∈ stepsOf s q.number, q.claimed.get st.axis = true ∧ (isHydraulic st.axis = true → q.needsBank = true))
    ∧ q.claimed.get x.axis = true ∧ (isHydraulic x.axis = true → q.needsBank = true)

theorem State.Acceptable.not_granted {s : State} {x : Record} (h : s.Acceptable x) : ¬x.Granted := by
  rintro (hw | ⟨q, hq, hg⟩)
  · exact hw h.waiting
  · exact Bool.false_ne_true ((h.sequence q hq).1.symm.trans hg)

/-- R23: held records stand before the others as the record goes in. -/
theorem insertRecord_pairwise {x : Record} {l : List Record}
    (h : l.Pairwise (fun x y => y.held = true → x.held = true)) :
    (insertRecord x l).Pairwise (fun x y => y.held = true → x.held = true) := by
  obtain ⟨a, b, hl, hins, ha, hb⟩ := insertRecord_split x l
  rw [hl] at h
  rw [hins]
  obtain ⟨hpa, hpb, hab⟩ := List.pairwise_append.1 h
  refine List.pairwise_append.2 ⟨hpa, List.pairwise_cons.2 ⟨fun y hy _ => ?_, hpb⟩, fun y hy z hz => ?_⟩
  · exact hb.resolve_left (List.ne_nil_of_mem hy)
  · obtain rfl | hz := List.mem_cons.1 hz
    · exact ha y hy
    · exact hab y hy z hz

/-- R22 to R29: a record that may be accepted joins a list whose rules stand. -/
theorem Preserves.acceptRecord {s : State} {x : Record} (h : s.Acceptable x) : Preserves s (acceptRecord x s) := by
  have hrecords : (Machine.acceptRecord x s).motion.records = insertRecord x s.motion.records := rfl
  have hperm := insertRecord_perm x s.motion.records
  have hlist (hs : s.ListSound) : (Machine.acceptRecord x s).ListSound := by
    have hfresh := h.fresh hs
    obtain ⟨hn, hc, he, ho⟩ := hs
    refine ⟨?_, fun a ha => ?_, fun r hr => ?_, insertRecord_pairwise ho⟩
    · exact ((hperm.map Record.tag).nodup_iff).2 (List.nodup_cons.2 ⟨hfresh, hn⟩)
    · rw [hrecords, (hperm.filter _).length_eq]
      by_cases hx : x.claims a = true
      · have hnone : s.motion.records.filter (fun r => r.claims a) = [] :=
          List.filter_eq_nil_iff.2 fun y hy hya => Bool.false_ne_true ((h.apart y hy a hya).symm.trans hx)
        rw [List.filter_cons_of_pos (p := fun r : Record => r.claims a) hx, hnone]
        exact Nat.le_refl _
      · rw [List.filter_cons_of_neg (p := fun r : Record => r.claims a) hx]
        exact hc a ha
    · obtain rfl | hr := (mem_insertRecord x r _).1 hr
      · exact ⟨⟨r.axis, mem_axes _, h.claims⟩, h.range⟩
      · exact he r hr
  refine ⟨hlist, fun hs => ?_, fun _ => ?_, rfl, rfl⟩
  · obtain ⟨hl, -, hn, ht, hr⟩ := (bankSound_iff s).1 hs
    refine (bankSound_iff _).2 ⟨hlist hl, fun hb => absurd hb h.idle, (hlist hl).1, fun t htb => ?_, fun r hr' => ?_⟩
    · obtain ⟨r, hr, hrt⟩ := ht t htb
      exact ⟨r, (mem_insertRecord x r _).2 (.inr hr), hrt⟩
    · obtain rfl | hr' := (mem_insertRecord x r _).1 hr'
      · exact ⟨fun q hq => (h.sequence q hq).2, fun _ hg => absurd hg h.not_granted⟩
      · exact hr r hr'
  · have hload : x.load = 0 := Record.load_of_uncharged (Record.charged_of_waiting h.waiting)
    rw [drawSum_eq, drawSum_eq, hrecords, (hperm.map Record.load).sum_eq, List.map_cons, List.sum_cons, hload, Nat.zero_add]
    exact Nat.le_max_right _ _

/-! What the judgement makes sure of. -/

/-- R28 checks 1 to 5. -/
theorem conditionRefusal_none {s : State} (h : conditionRefusal s = none) :
    s.store.mode = .run ∧ s.store.commit = .idle ∧ s.pins.holdoff = false ∧ s.motion.estop = false
      ∧ s.motion.supply = .normal := by
  unfold conditionRefusal at h
  have hsupply : s.motion.supply = .cut ∨ s.motion.supply = .normal := by cases s.motion.supply <;> simp
  grind

/-- A JOG, or a SEQUENCE that is held (R23). -/
def Demand.Holds : Demand → Prop
  | .move _ _ _ => False
  | .jog _ _ _ => True
  | .sequence _ held => held = true

/-- R23, R31, R100: what a record is as it is formed. -/
structure State.Newborn (s : State) (rq : Request) (r : Record) : Prop where
  tag : r.tag = rq.tag.getD 0
  source : r.source = rq.source
  station : r.station = rq.station
  waiting : r.state = .waiting
  held : rq.demand.Holds → ¬r.kind.Targets r.held
  claims : r.claims r.axis = true
  sequence : ∀ q ∈ r.seq, q.granted = false
    ∧ (∀ st ∈ stepsOf s q.number, q.claimed.get st.axis = true ∧ (isHydraulic st.axis = true → q.needsBank = true))
    ∧ q.claimed.get r.axis = true ∧ (isHydraulic r.axis = true → q.needsBank = true)

/-- R100: a SEQUENCE claims the axes of its steps, and needs the bank if one of them is hydraulic. -/
theorem seqFields_covers (n : Nat) {steps : List Step} {st : Step} (h : st ∈ steps) :
    (seqFields n steps).claimed.get st.axis = true
      ∧ (isHydraulic st.axis = true → (seqFields n steps).needsBank = true) := by
  refine ⟨?_, fun hh => List.any_eq_true.2 ⟨st, h, hh⟩⟩
  rw [seqFields, PerAxis.get_ofFn]
  exact List.any_eq_true.2 ⟨st, h, beq_self_eq_true _⟩

/-- A SEQUENCE whose axis is that of one of its steps. -/
theorem newborn_sequence {s : State} {rq : Request} {r : Record} {n : Nat} {q : SeqFields} (hq : r.seq = some q)
    (hf : q.fixed = (seqFields n (stepsOf s n)).fixed) (hg : q.granted = false)
    (ha : ∃ st ∈ stepsOf s n, r.axis = st.axis) (ht : r.tag = rq.tag.getD 0) (hs : r.source = rq.source)
    (hst : r.station = rq.station) (hw : r.state = .waiting) (hh : rq.demand.Holds → ¬r.kind.Targets r.held) :
    s.Newborn rq r := by
  have hnumber : q.number = n := congrArg (fun p => p.1) hf
  have hclaimed : q.claimed = (seqFields n (stepsOf s n)).claimed := congrArg (fun p => p.2.1) hf
  have hneeds : q.needsBank = (seqFields n (stepsOf s n)).needsBank := congrArg (fun p => p.2.2) hf
  obtain ⟨st0, hst0, haxis⟩ := ha
  refine ⟨ht, hs, hst, hw, hh, ?_, fun p hp => ?_⟩
  · rw [claims_of_seq hq, hclaimed, haxis]
    exact (seqFields_covers n hst0).1
  · cases hq.symm.trans hp
    rw [hnumber, hclaimed, hneeds, haxis]
    exact ⟨hg, fun st h => seqFields_covers n h, seqFields_covers n hst0⟩

theorem formRequest_newborn {s : State} {rq : Request} {f : Formed} (h : formRequest s rq = some f) :
    s.Newborn rq f.record := by
  unfold formRequest at h
  split at h
  · next hd =>
    cases h
    exact ⟨rfl, rfl, rfl, rfl, fun hh => by rw [hd] at hh; exact hh.elim, decide_eq_true rfl, fun _ hq => nomatch hq⟩
  · cases h
    refine ⟨rfl, rfl, rfl, rfl, fun _ ht => ?_, decide_eq_true rfl, fun _ hq => nomatch hq⟩
    exact ht.elim (fun ht => by cases ht) fun ht => by cases ht.1
  · next n held hd =>
    have hheld (hh : rq.demand.Holds) : ¬RecordKind.sequence.Targets held := by
      rw [hd] at hh
      rintro (ht | ⟨-, ht⟩)
      · cases ht
      · exact Bool.false_ne_true (ht.symm.trans hh)
    split at h
    · cases h
    · next first rest hsteps =>
      have hfirst : first ∈ stepsOf s n := hsteps ▸ List.mem_cons_self
      cases h
      unfold formSequence
      dsimp only
      split
      · next r1 hr1 =>
        unfold formStep at hr1
        split at hr1
        · cases hr1
        · next st hst =>
          obtain ⟨v, -, rfl⟩ := Option.map_eq_some_iff.1 hr1
          exact newborn_sequence (n := n) rfl rfl rfl ⟨st, List.mem_of_getElem? hst, rfl⟩ rfl rfl rfl rfl hheld
      · exact newborn_sequence (n := n) rfl rfl rfl ⟨first, hfirst, rfl⟩ rfl rfl rfl rfl hheld

/-- R28: what an accepted request found. -/
structure State.Accepted (s : State) (rq : Request) (r : Record) : Prop where
  newborn : s.Newborn rq r
  permits : s.Permits r
  apart : ∀ y ∈ s.motion.records, ∀ a, y.claims a = true → r.claims a = false
  tagFree : ∀ t ∈ rq.tag, s.find t = none

theorem permitted_mayHold {s : State} {r : Record} (h : permitted s r = true) {a : Axis} (ha : r.claims a = true) :
    mayHold s r.source a = true ∧ (r.kind.Targets r.held → mayTarget s r.source a = true) := by
  have hp := List.all_eq_true.1 h a (mem_axes a)
  rw [ha, Bool.not_true, Bool.false_or] at hp
  have hold (ht : mayTarget s r.source a = true) : mayHold s r.source a = true := by
    rw [mayTarget, beq_iff_eq] at ht
    rw [mayHold, ht]
    rfl
  cases hk : r.kind with
  | move =>
      rw [hk] at hp
      exact ⟨hold hp, fun _ => hp⟩
  | jog =>
      rw [hk] at hp
      exact ⟨hp, fun ht => by rcases ht with ht | ⟨ht, -⟩ <;> cases ht⟩
  | sequence =>
      rw [hk] at hp
      dsimp only at hp
      split at hp
      · next hh =>
        refine ⟨hp, fun ht => ?_⟩
        rcases ht with ht | ⟨-, ht⟩
        · cases ht
        · rw [hh] at ht
          cases ht
      · exact ⟨hold hp, fun _ => hp⟩

theorem judgeRequest_accepted {s : State} {rq : Request} {r : Record} (h : judgeRequest s rq = .accept r) :
    s.Accepted rq r := by
  unfold judgeRequest at h
  split at h
  · cases h
  · next f hf =>
    obtain ⟨hcond, hperm, hdup, hfault, hrivals, -, -, rfl⟩ := judgeFormed_accept h
    obtain ⟨hmode, hcommit, hholdoff, hestop, hsupply⟩ := conditionRefusal_none hcond
    refine ⟨formRequest_newborn hf, ⟨hmode, hcommit, hholdoff, hestop, hsupply, fun a _ ha => ?_⟩, fun y hy a hya => ?_,
      fun t ht => ?_⟩
    · obtain ⟨hh, ht⟩ := permitted_mayHold hperm ha
      refine ⟨hh, ?_, ht⟩
      have hna := List.any_eq_false.1 hfault a (mem_axes a)
      rw [ha, Bool.true_and] at hna
      exact Bool.eq_false_iff.2 hna
    · have hny := List.filter_eq_nil_iff.1 hrivals y hy
      refine Bool.eq_false_iff.2 fun hra => hny (List.any_eq_true.2 ⟨a, mem_axes a, ?_⟩)
      rw [hya, hra]
      rfl
    · unfold tagHeld at hdup
      rw [Option.mem_def.1 ht] at hdup
      exact Option.isSome_eq_false_iff.1 hdup |> Option.isNone_iff_eq_none.1

/-- The accepted record under its tag may join the list. -/
theorem State.Accepted.acceptable {s : State} {rq : Request} {r : Record} (h : s.Accepted rq r) (t : Nat)
    (hfresh : s.ListSound → t ∉ s.tags)
    (hrange : (rq.station.isNone = true → 1 ≤ t ∧ t ≤ 199) ∧ (rq.station.isSome = true → 200 ≤ t ∧ t ≤ 255)) :
    s.Acceptable { r with tag := t } where
  idle hb := by
    obtain ⟨hmode, hcommit, -⟩ := h.permits
    rcases hb with hb | hb
    · rw [hmode] at hb
      cases hb
    · exact hb hcommit
  fresh := hfresh
  range := h.newborn.station ▸ hrange
  apart := h.apart
  claims := h.newborn.claims
  waiting := h.newborn.waiting
  sequence := h.newborn.sequence

/-- R27: the pendant tags from a pointer are 56. -/
theorem pendantTags_nodup (p : Nat) : (pendantTags p).Nodup := by
  refine List.Nodup.map_on (fun x hx y hy h => ?_) List.nodup_range
  rw [List.mem_range] at hx hy
  omega

/-- R27: a sound list leaves a pendant tag free. -/
theorem freeTag_free {s : State} (h : s.ListSound) : freeTag s ∉ s.tags := by
  unfold freeTag
  cases hf : (pendantTags s.motion.nextTag).find? (fun t => (s.find t).isNone) with
  | some t =>
      have hnone := List.find?_some (p := fun t => (s.find t).isNone) hf
      exact find_eq_none_iff.1 (Option.isNone_iff_eq_none.1 hnone)
  | none =>
      have hall : pendantTags s.motion.nextTag ⊆ s.tags := fun t ht => by
        by_contra hn
        exact List.find?_eq_none.1 hf t ht (Option.isNone_iff_eq_none.2 (find_eq_none_iff.2 hn))
      have hlen := ((pendantTags_nodup s.motion.nextTag).subperm hall).length_le
      rw [pendantTags, List.length_map, List.length_range, State.tags, List.length_map] at hlen
      have hfive := State.ListSound.length_le h
      omega

end Sys2Proof.Machine

namespace Sys2Proof.Machine

/-! ### Requests that accept a record (R28, R171, R187) -/

/-- Law 8: the terms under which a source finds its records accepted. -/
def State.terms (s : State) (source : Role) (targets : Prop) : Terms where
  source := source
  targets := targets
  axes a := (s.store.mode = .run ∧ s.store.commit = .idle ∧ s.pins.holdoff = false ∧ s.motion.estop = false
    ∧ s.motion.supply = .normal) ∧ mayHold s source a = true ∧ s.faulted a = false
    ∧ (targets → mayTarget s source a = true)

theorem State.Under.permits {s t : State} {source : Role} {targets : Prop} {r : Record}
    (h : t.Under (s.terms source targets) r) : s.Permits r := by
  obtain ⟨⟨hmode, hcommit, hholdoff, hestop, hsupply⟩, -⟩ := h.axis
  refine ⟨hmode, hcommit, hholdoff, hestop, hsupply, fun a _ ha => ?_⟩
  obtain ⟨-, hh, hf, ht⟩ := h.claims ha
  have hsource : r.source = source := h.source
  rw [hsource]
  exact ⟨hh, hf, fun hk => ht (h.targets hk)⟩

/-- The record of an accepted request is under the terms of its source. -/
theorem State.Accepted.under {s : State} {rq : Request} {r : Record} (h : s.Accepted rq r) (t : Nat) {targets : Prop}
    (ht : r.kind.Targets r.held ↔ targets) : s.Under (s.terms rq.source targets) { r with tag := t } := by
  obtain ⟨hmode, hcommit, hholdoff, hestop, hsupply, hclaims⟩ := h.permits
  have haxis (a : Axis) (ha : r.claims a = true) : (s.terms rq.source targets).axes a := by
    obtain ⟨hh, hf, hg⟩ := hclaims a (mem_axes a) ha
    rw [h.newborn.source] at hh hg
    exact ⟨⟨hmode, hcommit, hholdoff, hestop, hsupply⟩, hh, hf, fun hk => hg (ht.2 hk)⟩
  refine ⟨h.newborn.source, ht.1, haxis _ h.newborn.claims, fun q hq => ?_⟩
  have hget : r.claims = q.claimed.get := claims_of_seq hq
  obtain ⟨-, hsteps, -⟩ := h.newborn.sequence q hq
  exact ⟨fun st hst => haxis _ (hget ▸ (hsteps st hst).1), fun a ha => haxis a (hget ▸ ha)⟩

/-- A record under the terms joins the list. -/
theorem confined_acceptRecord {s : State} {tag : Nat} {T : Terms} {x : Record} (h : s.Confined tag T) (hx : s.Under T x) :
    (acceptRecord x s).Confined tag T := fun r hr ht => by
  obtain rfl | hr := (mem_insertRecord x r _).1 hr
  · exact hx.congr rfl
  · exact (h r hr ht).congr rfl

/-- What keeps the rules of the list and leaves no grant attempt owed. -/
structure Upholds (s t : State) : Prop extends Preserves s t where
  due : s.profile.ShortSequences → s.motion.attemptsDue = 0 → t.motion.attemptsDue = 0

namespace Upholds

theorem preserves {s t : State} (h : Upholds s t) : Preserves s t := h.toPreserves

theorem trans {s t u : State} (h : Upholds s u) (k : Upholds u t) : Upholds s t :=
  ⟨h.preserves.trans k.preserves, fun hs hd => k.due (by rw [h.profile]; exact hs) (h.due hs hd)⟩

theorem of_lawful {s t : State} (h : Lawful s t) : Upholds s t := ⟨.of_tended h.tended, h.due⟩

/-- R39: the attempts follow the acceptance. -/
theorem settled {s t : State} (h : Preserves s t) : Upholds s (settle t) :=
  ⟨h.trans (.of_tended (.settle t)), fun hs _ => settle_due (by rw [h.profile]; exact hs)⟩

end Upholds

namespace Governed

theorem of_lawful {s t : State} (h : Lawful s t) : Governed s t := of_alike (.refl s) h

theorem of_upholds {s t : State} (h : Upholds s t) (ha : Admitted s t) : Governed s t where
  list := h.list
  bank := h.bank
  draws hs := by
    rw [h.budget]
    exact le_max_iff.1 (h.draws hs)
  settled hs := ⟨h.due hs.2 hs.1, h.profile ▸ hs.2⟩
  profile _ hp := absurd h.profile hp
  admitted := ha

/-- What is governed after a change that none of the rules see. -/
theorem behind {s u t : State} (h : Governed u t)
    (hu : u.motion = s.motion ∧ u.pins = s.pins ∧ u.store = s.store ∧ u.profile = s.profile) : Governed s t := by
  obtain ⟨motion, pins, store, profile⟩ := hu
  cases s
  cases u
  cases motion
  cases pins
  cases store
  cases profile
  exact ⟨h.list, h.bank, h.draws, h.settled, h.profile, h.admitted⟩

theorem ite {p : Prop} [Decidable p] {s t u : State} (ht : p → Governed s t) (hu : ¬p → Governed s u) :
    Governed s (if p then t else u) := by
  split
  · next h => exact ht h
  · next h => exact hu h

end Governed

theorem lastChecks_amend {s : State} {f : Formed} {j : Judgement} {old r : Record} (h : lastChecks s f j = .amend old r) :
    j = .amend old r := by
  unfold lastChecks at h
  split at h
  · cases h
  · split at h
    · cases h
    · exact h

/-- R28 check 10, R30: an amendment finds the record that it amends in WAITING, on an axis of its own. -/
theorem judgeFormed_amend {s : State} {rq : Request} {f : Formed} {old r : Record}
    (h : judgeFormed s rq f = .amend old r) : old ∈ rivals s f.record ∧ old.state = .waiting ∧ r = f.record := by
  unfold judgeFormed at h
  split at h
  · cases h
  · split at h
    · cases h
    · split at h
      · cases h
      · split at h
        · cases h
        · split at h
          · cases h
          · split at h
            · cases lastChecks_amend h
            · next x _ hx =>
              split at h
              · next ham =>
                cases lastChecks_amend h
                rw [amendable, Bool.and_eq_true_iff, Bool.and_eq_true_iff] at ham
                exact ⟨hx ▸ List.mem_cons_self, eq_of_beq ham.1.2, rfl⟩
              · cases h

theorem judgeRequest_amend {s : State} {rq : Request} {old r : Record} (h : judgeRequest s rq = .amend old r) :
    old ∈ s.motion.records ∧ old.state = .waiting := by
  unfold judgeRequest at h
  split at h
  · cases h
  · obtain ⟨hmem, hw, -⟩ := judgeFormed_amend h
    exact ⟨(List.mem_filter.1 hmem).1, hw⟩

/-- R28 to R30, R187: a CAB motion request. -/
theorem Governed.doMotion (kind : Byte) {tag : Byte} (ht : hostTag tag = true) (d : Demand) (s : State) :
    Governed s (doMotion kind tag d s) := by
  unfold Machine.doMotion
  split
  · exact .of_lawful (.still ⟨rfl, rfl, rfl⟩)
  · next r hj =>
    refine Governed.behind (u := pushReply ⟨kind, tag, .ok, motionContent kind r⟩ s) ?_ ⟨rfl, rfl, rfl, rfl⟩
    have ha := judgeRequest_accepted hj
    have hr : { r with tag := tag.toNat } = r := by rw [← show r.tag = tag.toNat from ha.newborn.tag]
    have hok : s.Acceptable r := hr ▸ ha.acceptable tag.toNat
      (fun _ => find_eq_none_iff.1 (ha.tagFree _ rfl))
      ⟨fun _ => by simpa [hostTag] using ht, fun h => by cases h⟩
    have hunder : s.Under (s.terms .cab (r.kind.Targets r.held)) r := hr ▸ ha.under tag.toNat Iff.rfl
    refine .of_upholds (.settled (.acceptRecord (s := pushReply _ s) ?_)) fun x hx hnone => ?_
    · exact ⟨hok.idle, hok.fresh, hok.range, hok.apart, hok.claims, hok.waiting, hok.sequence⟩
    · have hfree : s.Confined x.tag (s.terms .cab (r.kind.Targets r.held)) := fun y hy hyt =>
        absurd (hyt ▸ List.mem_map_of_mem hy) (find_eq_none_iff.1 hnone)
      have hjoined := (Confines.settle _).keeps x.tag _
        (confined_acceptRecord (s := pushReply ⟨kind, tag, .ok, motionContent kind r⟩ s)
          (fun y hy hyt => (hfree y hy hyt).congr rfl) (hunder.congr rfl))
      exact State.Under.permits (s := s) (hjoined x hx rfl)
  · next old r hj =>
    obtain ⟨hold, hw⟩ := judgeRequest_amend hj
    refine Governed.behind (u := pushReply ⟨kind, tag, .amended, motionContent kind r⟩ s) ?_ ⟨rfl, rfl, rfl, rfl⟩
    have hamend := Tended.amendRecord (s := pushReply ⟨kind, tag, .amended, motionContent kind r⟩ s) hold hw r
    exact .of_lawful (.settled hamend)

/-! ### Presses (R169, R171) -/

/-- What a record must find stands: the store, the pins, the tables, the faults and the latch. -/
structure Steady (s t : State) : Prop where
  store : t.store = s.store
  pins : t.pins = s.pins
  profile : t.profile = s.profile
  axis : t.motion.axis = s.motion.axis
  estop : t.motion.estop = s.motion.estop
  supply : t.motion.supply = s.motion.supply

namespace Steady

theorem of_change {s t : State} (h : ListChange s t) : Steady s t :=
  ⟨h.store, h.pins, h.profile, h.axis, h.estop, h.supply⟩

theorem trans {s t u : State} (h : Steady s u) (k : Steady u t) : Steady s t :=
  ⟨k.store.trans h.store, k.pins.trans h.pins, k.profile.trans h.profile, k.axis.trans h.axis, k.estop.trans h.estop,
    k.supply.trans h.supply⟩

theorem terms {s t : State} (h : Steady s t) : t.terms = s.terms := by
  funext source targets
  simp only [State.terms, mayHold, mayTarget, permission, State.faulted, h.store, h.pins, h.profile, h.axis, h.estop,
    h.supply]

end Steady

/-- The addresses and roles of the enabled stations (R164, R167). -/
def State.roles (s : State) : List (Nat × Role) := s.crew.stations.map (fun st => (st.address, st.role))

theorem station_role {s : State} {n : Nat} {st : StationRecord} (h : s.station n = some st) :
    (s.roles.find? (fun p => p.1 = n)).map Prod.snd = some st.role := by
  rw [State.roles, List.find?_map]
  have hf : s.crew.stations.find? ((fun p : Nat × Role => decide (p.1 = n)) ∘ fun st => (st.address, st.role)) = some st := h
  rw [hf]
  rfl

theorem roles_onStation (s : State) (n : Nat) {f : StationRecord → StationRecord}
    (hf : ∀ st, (f st).address = st.address ∧ (f st).role = st.role) :
    (s.onStation n f).roles = s.roles := by
  rw [State.roles, State.roles, State.onStation_crew, List.map_map]
  refine List.map_congr_left fun st _ => ?_
  change ((if st.address = n then f st else st).address, (if st.address = n then f st else st).role) = _
  split
  · exact Prod.ext (hf st).1 (hf st).2
  · rfl

theorem GrantEffect.roles {s t : State} (h : GrantEffect s t) : t.roles = s.roles := by
  cases h with
  | buttons tag =>
      rw [State.roles, State.roles, clearButtonTags]
      exact List.map_map ..
  | notice n =>
      rw [State.roles, State.roles, appendNotice_crew]
  | _ => rfl

theorem GrantEffects.roles {s t : State} (h : GrantEffects s t) : t.roles = s.roles := by
  induction h with
  | refl => rfl
  | tail _ hk ih => exact hk.roles.trans ih

/-- t comes from s by changes that keep the rules of the list, and what a press must find, and that leave records which
the terms confine confined by them. -/
structure Attends (T : Terms) (s t : State) : Prop where
  upholds : Upholds s t
  steady : Steady s t
  roles : t.roles = s.roles
  confined : ∀ tag, s.Confined tag T → t.Confined tag T

namespace Attends

variable {T : Terms}

theorem trans {s t u : State} (h : Attends T s u) (k : Attends T u t) : Attends T s t :=
  ⟨h.upholds.trans k.upholds, h.steady.trans k.steady, k.roles.trans h.roles, fun tag hs => k.confined tag (h.confined tag hs)⟩

theorem of_grants {s t : State} (hl : Lawful s t) (hg : GrantEffects s t) (hc : Confines s t) : Attends T s t :=
  ⟨.of_lawful hl, .of_change hg.listChange, hg.roles, fun tag hs => hc.keeps tag T hs⟩

theorem refl (s : State) : Attends T s s := of_grants (.refl s) .refl (.refl s)

theorem station (s : State) (n : Nat) {f : StationRecord → StationRecord}
    (hf : ∀ st, (f st).address = st.address ∧ (f st).role = st.role) :
    Attends T s (s.onStation n f) :=
  ⟨.of_lawful (.station s n f), ⟨rfl, rfl, rfl, rfl, rfl, rfl⟩, roles_onStation s n hf,
    fun tag h => (Confines.aside (s := s) (t := s.onStation n f) rfl rfl).keeps tag T h⟩

theorem refresh {r : Record} {s : State} (hr : s.find r.tag = some r) : Attends T s (refresh r s) :=
  of_grants (.refresh hr)
    (GrantEffects.ite (fun _ => (GrantEffects.resumeRecord r.tag s).trans (GrantEffects.settle _)) fun _ =>
      GrantEffects.ite (fun _ => .record s r.tag) fun _ => .refl)
    (.refresh r s)

theorem ite {p : Prop} [Decidable p] {s t u : State} (ht : p → Attends T s t) (hu : ¬p → Attends T s u) :
    Attends T s (if p then t else u) := by
  split
  · next h => exact ht h
  · next h => exact hu h

end Attends

/-- The terms are those of the station's role, for records that are held. -/
structure State.Listens (s : State) (n : Nat) (T : Terms) : Prop where
  terms : s.terms T.source False = T
  role : ∀ st, s.station n = some st → st.role = T.source

theorem State.Listens.after {s t : State} {n : Nat} {T : Terms} (h : s.Listens n T) (k : Attends T s t) : t.Listens n T := by
  refine ⟨by rw [k.steady.terms]; exact h.terms, fun st hst => ?_⟩
  have hrole := station_role hst
  rw [k.roles] at hrole
  cases hs : s.station n with
  | none =>
      have hnone : s.roles.find? (fun p => p.1 = n) = none := by
        rw [State.roles, List.find?_map]
        exact Option.map_eq_none_iff.2 hs
      rw [hnone] at hrole
      cases hrole
  | some st' =>
      have hst' := (station_role hs).symm.trans hrole
      rw [← Option.some.inj hst']
      exact h.role st' hs

/-- R27, R171: the list once the press is accepted, before the attempt that follows. -/
def pressed (n : Nat) (b : Button) (r : Record) (s : State) : State :=
  (acceptRecord { r with tag := freeTag s } (takeTag (freeTag s) s)).onStation n (fun st =>
    { st with tags := st.tags.set b (some (freeTag s)), refused := st.refused.set b false })

theorem acceptPress_eq (n : Nat) (b : Button) (r : Record) (s : State) :
    acceptPress n b r s = settle (pressed n b r s) := rfl

theorem acceptRecord_steady (x : Record) (s : State) : Steady s (acceptRecord x s) := ⟨rfl, rfl, rfl, rfl, rfl, rfl⟩

theorem takeTag_steady (t : Nat) (s : State) : Steady s (takeTag t s) := ⟨rfl, rfl, rfl, rfl, rfl, rfl⟩

theorem onStation_steady (n : Nat) (f : StationRecord → StationRecord) (s : State) : Steady s (s.onStation n f) :=
  ⟨rfl, rfl, rfl, rfl, rfl, rfl⟩

theorem pressed_steady (n : Nat) (b : Button) (r : Record) (s : State) : Steady s (pressed n b r s) :=
  (takeTag_steady _ s).trans ((acceptRecord_steady _ _).trans (onStation_steady n _ _))

theorem pressed_roles (n : Nat) (b : Button) (r : Record) (s : State) : (pressed n b r s).roles = s.roles :=
  roles_onStation (acceptRecord { r with tag := freeTag s } (takeTag (freeTag s) s)) n (by exact fun _ => ⟨rfl, rfl⟩)

theorem pressed_confined {n : Nat} {b : Button} {r : Record} {s : State} {tag : Nat} {T : Terms} (h : s.Confined tag T)
    (hr : s.Under T { r with tag := freeTag s }) : (pressed n b r s).Confined tag T := by
  have htake : Confines s (takeTag (freeTag s) s) := .of_subset (List.Subset.refl _) rfl
  have hmark (u : State) (f : StationRecord → StationRecord) : Confines u (u.onStation n f) := .aside rfl rfl
  exact (hmark _ _).keeps tag T (confined_acceptRecord (htake.keeps tag T h) (State.Under.congr hr htake.profile))

theorem pressed_preserves (n : Nat) (b : Button) {r : Record} {s : State} (h : s.Acceptable { r with tag := freeTag s }) :
    Preserves s (pressed n b r s) := by
  have htake : Preserves s (takeTag (freeTag s) s) := .of_tended (.aside rfl rfl rfl rfl id)
  have hmark (u : State) (f : StationRecord → StationRecord) : Preserves u (u.onStation n f) :=
    .of_tended (.aside rfl rfl rfl rfl id)
  have htaken : (takeTag (freeTag s) s).Acceptable { r with tag := freeTag s } :=
    ⟨h.idle, h.fresh, h.range, h.apart, h.claims, h.waiting, h.sequence⟩
  exact htake.trans ((Preserves.acceptRecord htaken).trans (hmark _ _))

/-- R27, R171: a press that is accepted. -/
theorem Attends.acceptPress {s : State} {n : Nat} {T : Terms} {rq : Request} {r : Record} (hl : s.Listens n T)
    (hs : rq.source = T.source) (hst : rq.station.isSome = true) (hd : rq.demand.Holds)
    (hj : judgeRequest s rq = .accept r) (b : Button) (m : Nat) : Attends T s (acceptPress m b r s) := by
  have ha := judgeRequest_accepted hj
  have hok := ha.acceptable (freeTag s) (fun h => freeTag_free h)
    ⟨fun h => absurd (Option.isSome_iff_ne_none.1 hst) (fun hn => hn (Option.isNone_iff_eq_none.1 h)), fun _ => freeTag_range s⟩
  have hunder : s.Under T { r with tag := freeTag s } := by
    rw [← hl.terms, ← hs]
    exact ha.under (freeTag s) (iff_false_intro (ha.newborn.held hd))
  have hg := GrantEffects.settle (pressed m b r s)
  rw [acceptPress_eq]
  exact ⟨.settled (pressed_preserves m b hok), (pressed_steady m b r s).trans (.of_change hg.listChange),
    hg.roles.trans (pressed_roles m b r s), fun tag hs => (Confines.settle _).keeps tag T (pressed_confined hs hunder)⟩

theorem buttonDemand_holds {f : ButtonFunction} {d : Demand} (h : buttonDemand f = some d) : d.Holds := by
  cases f with
  | jog _ _ _ => cases h; trivial
  | seq _ => cases h; rfl
  | unused => cases h
  | stop => cases h

namespace Attends

theorem pressButton {s : State} {n : Nat} {T : Terms} (hl : s.Listens n T) (set : PerButton Bool) (b : Button) :
    Attends T s (pressButton n set s b) := by
  unfold Machine.pressButton
  split
  · exact refl s
  · next st hst =>
    split
    · exact refl s
    · next d hd =>
      split
      · next r hr =>
        refine ite (fun _ => station s n fun _ => ⟨rfl, rfl⟩) fun _ => refresh ?_
        unfold pausedRecord at hr
        split at hr
        · next hf =>
          obtain ⟨t, -, ht⟩ := Option.bind_eq_some_iff.1 hf
          obtain ⟨-, hr⟩ := Option.ite_none_right_eq_some.1 hr
          cases hr
          exact Lawful.of_find ht
        · cases hr
      · refine ite (fun _ => station s n fun _ => ⟨rfl, rfl⟩) fun _ => ?_
        unfold pressDemand
        split
        · next hj => exact acceptPress hl (hl.role st hst) rfl (buttonDemand_holds hd) hj b st.address
        · exact station s _ fun _ => ⟨rfl, rfl⟩
        · exact station s _ fun _ => ⟨rfl, rfl⟩

theorem foldl_pressButton {n : Nat} {T : Terms} (set : PerButton Bool) : ∀ (l : List Button) (s : State), s.Listens n T →
    Attends T s (l.foldl (Machine.pressButton n set) s)
  | [], s, _ => refl s
  | b :: l, _, hl =>
      have hb := pressButton hl set b
      hb.trans (foldl_pressButton set l _ (hl.after hb))

end Attends

/-- What a frame's releases, refreshes and STOP button do. -/
structure Quits (s t : State) : Prop where
  lawful : Lawful s t
  change : ListChange s t

namespace Quits

theorem refl (s : State) : Quits s s := ⟨.refl s, .refl s⟩

theorem trans {s t u : State} (h : Quits s u) (k : Quits u t) : Quits s t :=
  ⟨h.lawful.trans k.lawful, h.change.trans k.change⟩

theorem foldl {α : Type} {f : State → α → State} (h : ∀ s x, Quits s (f s x)) :
    ∀ (l : List α) (s : State), Quits s (l.foldl f s)
  | [], s => refl s
  | x :: l, s => (h s x).trans (foldl h l (f s x))

theorem ite {p : Prop} [Decidable p] {s t u : State} (ht : p → Quits s t) (hu : ¬p → Quits s u) :
    Quits s (if p then t else u) := by
  split
  · next h => exact ht h
  · next h => exact hu h

theorem stopEvery (res : Result) (s : State) : Quits s (settle (stopEvery res s)) :=
  ⟨.stopEvery _ _, (ListEffects.stopEvery _ _).listChange.trans (.settle _)⟩

theorem releaseButton (n : Nat) (s : State) (b : Button) : Quits s (releaseButton n s b) := by
  refine ⟨.releaseButton n s b, ?_⟩
  unfold Machine.releaseButton
  split
  · exact .refl s
  · exact (ListEffects.holdStop _ _ s).listChange.trans (.settle _)

theorem refreshButton (n : Nat) (s : State) (b : Button) : Quits s (refreshButton n s b) := by
  refine ⟨.refreshButton n s b, ?_⟩
  unfold Machine.refreshButton
  split
  · exact .refl s
  · split
    · exact .refl s
    · split
      · exact .refl s
      · split
        · exact .refl s
        · exact (ListEffects.refresh _ s).listChange

end Quits

/-- R169 stages 1 to 4: the state in which a frame's presses are judged. -/
def beforePresses (st : StationRecord) (n : PerButton Bool) (s : State) : State :=
  let s1 := (buttons.filter (fun b => st.lastSet.get b && !n.get b)).foldl (releaseButton st.address) s
  let s2 := (buttons.filter (paired st.function n)).foldl (releaseButton st.address) s1
  let s3 := (buttons.filter (fun b => n.get b && st.lastSet.get b && !paired st.function n b)).foldl
    (refreshButton st.address) s2
  if buttons.any (fun b => n.get b && !st.lastSet.get b && st.function.get b == .stop) then
    settle (stopEvery .stopped s3) else s3

theorem holdDecode_eq (st : StationRecord) (n : PerButton Bool) (s : State) :
    holdDecode st n s = ((buttons.filter (fun b => n.get b && !st.lastSet.get b)).foldl (pressButton st.address n)
      (beforePresses st n s)).onStation st.address (newSet n) := rfl

theorem Quits.beforePresses (st : StationRecord) (n : PerButton Bool) (s : State) : Quits s (beforePresses st n s) := by
  unfold Machine.beforePresses
  exact (foldl (releaseButton _) _ s).trans <| (foldl (releaseButton _) _ _).trans <|
    (foldl (refreshButton _) _ _).trans <| ite (fun _ => stopEvery _ _) fun _ => refl _

/-- R169: the decode of a HOLD frame, whose presses follow the rest. -/
theorem Governed.holdDecode (st : StationRecord) (n : PerButton Bool) (s : State) : Governed s (holdDecode st n s) := by
  rw [holdDecode_eq]
  have hquit := Quits.beforePresses st n s
  generalize beforePresses st n s = u at hquit ⊢
  obtain ⟨T, hl⟩ : ∃ T, u.Listens st.address T :=
    ⟨u.terms (((u.station st.address).map StationRecord.role).getD .cab) False, rfl, fun st' h => by
      rw [h]
      rfl⟩
  have hpress := (Attends.foldl_pressButton n (buttons.filter fun b => n.get b && !st.lastSet.get b) u hl).trans
    (.station _ st.address (f := newSet n) fun _ => ⟨rfl, rfl⟩)
  refine .of_upholds ((Upholds.of_lawful hquit.lawful).trans hpress.upholds) fun r hr hnone => ?_
  have hfree : r.tag ∉ u.tags := fun h => find_eq_none_iff.1 hnone (hquit.change.tags.subset h)
  have hunder := hpress.confined r.tag (fun x hx ht => absurd (ht ▸ List.mem_map_of_mem hx) hfree) r hr rfl
  rw [← hl.terms, (Steady.of_change hquit.change).terms] at hunder
  exact hunder.permits

end Sys2Proof.Machine

namespace Sys2Proof.Machine

/-! ### Host requests (R182 to R201) -/

/-- An outcome whose next state, if it has one, keeps what a command must keep. -/
abbrev Heeds (s : State) (o : Host.Outcome State Fault Refusal) : Prop := ∀ t, o = .next t → Governed s t

namespace Heeds

theorem next {s t : State} (h : Governed s t) : Heeds s (.next t) := by
  rintro _ ⟨⟩
  exact h

theorem lawful {s t : State} (h : Lawful s t) : Heeds s (.next t) := next (.of_lawful h)

theorem refl (s : State) : Heeds s (.next s) := lawful (.refl s)

theorem fault (s : State) (f : Fault) : Heeds s (.fault f) := by
  rintro _ ⟨⟩

theorem ite {p : Prop} [Decidable p] {s : State} {o o' : Host.Outcome State Fault Refusal} (h : p → Heeds s o)
    (h' : ¬p → Heeds s o') : Heeds s (if p then o else o') := by
  split
  · next hp => exact h hp
  · next hp => exact h' hp

end Heeds

namespace Lawful

theorem reply (r : Reply) (s : State) : Lawful s (pushReply r s) := still ⟨rfl, rfl, rfl⟩

theorem answer (kind tag : Byte) (st : Status) (s : State) : Lawful s (answer kind tag st s) := still ⟨rfl, rfl, rfl⟩

theorem clearFault (a : Axis) (s : State) : Lawful s (clearFault a s) := by
  have hlift (s : State) (o : DriveOut) : Lawful s (liftHold s o) := ite (fun _ => refl s) fun _ => out s o _
  have haxis : Lawful s (s.onAxis a (fun x => { x with fault := none })) := sequencer s _ ⟨rfl, rfl, rfl, rfl⟩
  exact haxis.trans <| (foldl hlift _ _).trans <| ite (fun _ => settled (.oweAttempt _)) fun _ => refl _

theorem clearLampFault (l : Lamp) (s : State) : Lawful s (clearLampFault l s) := still ⟨rfl, rfl, rfl⟩

theorem doJogRefresh (tag : Byte) (s : State) : Lawful s (doJogRefresh tag s) := by
  unfold Machine.doJogRefresh
  split
  · next r hr =>
    exact ite (fun _ => (answer _ _ _ s).trans (refresh (s := Machine.answer 0x06 tag .ok s) (of_find hr)))
      fun _ => answer _ _ _ s
  · exact answer _ _ _ s

theorem stopTag (tag : Byte) (n : Nat) (s : State) : Lawful s (stopTag tag n s) := by
  unfold Machine.stopTag
  split
  · exact answer _ _ _ s
  · next r hr =>
    have hm : r ∈ (Machine.answer 0x08 tag .ok s).motion.records := mem_of_find hr
    refine ite (fun _ => answer _ _ _ s) fun _ => (answer 0x08 tag .ok s).trans (settled ?_)
    exact Tended.ite (fun _ => .holdStop hm _) fun _ => .stopProper hm _

theorem stopAxis (tag : Byte) (a : Axis) (s : State) : Lawful s (stopAxis tag a s) := by
  unfold Machine.stopAxis
  split
  · exact answer _ _ _ s
  · next r hr =>
    exact ite (fun _ => answer _ _ _ s) fun _ => (answer 0x08 tag .ok s).trans
      (settled (.stopProper (s := Machine.answer 0x08 tag .ok s) (mem_of_claimant hr) _))

theorem doStop (tag axis recordTag : Byte) (s : State) : Lawful s (doStop tag axis recordTag s) := by
  unfold Machine.doStop
  refine ite (fun _ => ite (fun _ => answer _ _ _ s) fun _ => stopTag _ _ s) fun _ => ?_
  split
  · exact ite (fun _ => stopAxis _ _ s) fun _ => answer _ _ _ s
  · exact answer _ _ _ s

theorem doStopAll (tag : Byte) (s : State) : Lawful s (doStopAll tag s) := (answer _ _ _ s).trans (stopEvery _ _)

theorem doEstop (tag : Byte) (s : State) : Lawful s (doEstop tag s) := (answer _ _ _ s).trans (estopCause _ _)

theorem doEstopClear (tag : Byte) (s : State) : Lawful s (doEstopClear tag s) :=
  ite (fun _ => answer _ _ _ s) fun _ => ite (fun _ => (answer _ _ _ s).trans (clearLatch _)) fun _ => answer _ _ _ s

theorem doFaultClear (tag axis channel : Byte) (s : State) : Lawful s (doFaultClear tag axis channel s) := by
  unfold Machine.doFaultClear
  refine ite (fun _ => ?_) fun _ => ?_
  · split
    · exact ite (fun _ => answer _ _ _ s) fun _ =>
        ite (fun _ => (answer _ _ _ s).trans (clearLampFault _ _)) fun _ => answer _ _ _ s
    · exact answer _ _ _ s
  · split
    · exact ite (fun _ => ite (fun _ => answer _ _ _ s) fun _ =>
        ite (fun _ => (answer _ _ _ s).trans (clearFault _ _)) fun _ => answer _ _ _ s) fun _ => answer _ _ _ s
    · exact answer _ _ _ s

theorem doBeaconOverride (tag channel pattern : Byte) (seconds : Half) (s : State) :
    Lawful s (doBeaconOverride tag channel pattern seconds s) := by
  unfold Machine.doBeaconOverride
  split
  · exact ite (fun _ => (answer _ _ _ s).trans (lamp _ _ _)) fun _ => answer _ _ _ s
  · exact answer _ _ _ s

theorem doProfileDiscard (tag : Byte) (s : State) : Lawful s (doProfileDiscard tag s) :=
  ite (fun _ => answer _ _ _ s) fun _ => (answer _ _ _ s).trans (store _ _ (by split <;> exact fun h => h))

theorem doLockEnvelopes (tag : Byte) (s : State) : Lawful s (doLockEnvelopes tag s) :=
  ite (fun _ => answer _ _ _ s) fun _ => (answer _ _ _ s).trans <|
    ite (fun _ => refl _) fun _ => ite (fun _ => setLock _) fun _ => store _ _ id

theorem doRestart (tag : Byte) (s : State) : Lawful s (doRestart tag s) :=
  ite (fun _ => answer _ _ _ s) fun _ => still ⟨rfl, rfl, rfl⟩

theorem doQueryAxis (tag axis : Byte) (s : State) : Lawful s (doQueryAxis tag axis s) := by
  unfold Machine.doQueryAxis
  split
  · exact reply _ s
  · exact answer _ _ _ s

theorem dropFrame (s : State) : Lawful s (dropFrame s) := still ⟨rfl, rfl, rfl⟩

theorem huntCharacter (c : Byte) (b : Bool) (s : State) : Lawful s (huntCharacter c b s) :=
  ite (fun _ => still ⟨rfl, rfl, rfl⟩) fun _ => refl s

theorem badCheck (s : State) : Lawful s (badCheck s) := by
  unfold Machine.badCheck
  split <;> exact still ⟨rfl, rfl, rfl⟩

end Lawful

namespace Governed

theorem doMove (tag axis : Byte) (target : Half) (speed : Byte) (s : State) : Governed s (doMove tag axis target speed s) := by
  unfold Machine.doMove
  split
  · next ht _ _ => exact doMotion _ ht _ s
  · exact of_lawful (.answer _ _ _ s)

theorem doJog (tag axis dir speed : Byte) (s : State) : Governed s (doJog tag axis dir speed s) := by
  unfold Machine.doJog
  split
  · next ht _ _ _ => exact doMotion _ ht _ s
  · exact of_lawful (.answer _ _ _ s)

theorem doRunSequence (tag seq held : Byte) (s : State) : Governed s (doRunSequence tag seq held s) := by
  refine ite (fun h => doMotion _ ?_ _ s) fun _ => of_lawful (.answer _ _ _ s)
  rw [Bool.and_eq_true_iff, Bool.and_eq_true_iff, Bool.and_eq_true_iff] at h
  exact h.1.1.1

/-- The list, the bank, the attempts owed and the budget stand, and the list is empty where they might be asked for. -/
theorem of_idle {s t : State} (records : t.motion.records = s.motion.records) (bank : t.motion.bank = s.motion.bank)
    (due : t.motion.attemptsDue = s.motion.attemptsDue) (empty : s.BankSound → s.motion.records = [])
    (short : s.profile.ShortSequences → t.profile.ShortSequences) : Governed s t := by
  have hidents : t.idents = s.idents := by rw [State.idents, State.idents, records]
  have hlist (hs : s.ListSound) : t.ListSound := (listSound_iff t).2 (hidents ▸ (listSound_iff s).1 hs)
  refine ⟨hlist, fun hs => ?_, fun _ => .inr (by rw [State.drawSum, State.drawSum, records]),
    fun ⟨hd, hq⟩ => ⟨due.trans hd, short hq⟩, fun hs _ => empty hs, fun r hr hnone => ?_⟩
  · have he := records.trans (empty hs)
    obtain ⟨hl, -, -, hholder, -⟩ := (bankSound_iff s).1 hs
    refine (bankSound_iff t).2 ⟨hlist hl, fun _ => he, (hlist hl).1, fun tag htag => ?_, fun r hr => ?_⟩
    · obtain ⟨r, hr, -⟩ := hholder tag (bank ▸ htag)
      exact absurd (empty hs ▸ hr) List.not_mem_nil
    · exact absurd (he ▸ hr) List.not_mem_nil
  · exact absurd (List.mem_map_of_mem (records ▸ hr)) (find_eq_none_iff.1 hnone)

/-- R199: a commit begins on an empty list. -/
theorem doProfileCommit (tag : Byte) (s : State) : Governed s (doProfileCommit tag s) := by
  unfold Machine.doProfileCommit
  refine ite (fun _ => of_lawful (.answer _ _ _ s)) fun _ => ite (fun _ => of_lawful (.answer _ _ _ s)) fun _ =>
    ite (fun _ => of_lawful (.answer _ _ _ s)) fun h => ?_
  split
  · exact of_lawful (.reply _ s)
  · exact of_idle rfl rfl rfl (fun _ => List.isEmpty_iff.1 (by simpa using h)) id

theorem goodFrame {k : State → State} (hk : ∀ s : State, Governed s (k s)) (s : State) : Governed s (goodFrame k s) :=
  ite (fun _ => of_lawful (.still ⟨rfl, rfl, rfl⟩)) fun _ => ite (fun _ => of_lawful (.still ⟨rfl, rfl, rfl⟩)) fun _ => behind (hk (countGood s)) ⟨rfl, rfl, rfl, rfl⟩

end Governed

namespace Heeds

theorem doProfileRead (tag region : Byte) (offset : Half) (length : Byte) (s : State) :
    Heeds s (doProfileRead tag region offset length s) := by
  unfold Machine.doProfileRead
  refine ite (fun _ => lawful (.answer _ _ _ s)) fun _ => ?_
  split
  · exact ite (fun _ => lawful (.reply _ s)) fun _ => fault s _
  · exact lawful (.answer _ _ _ s)

theorem doProfileStage (tag region : Byte) (offset : Half) (bytes : List Byte) (s : State) :
    Heeds s (doProfileStage tag region offset bytes s) := by
  unfold Machine.doProfileStage
  refine ite (fun _ => lawful (.answer _ _ _ s)) fun _ => ?_
  split
  · exact lawful (.answer _ _ _ s)
  · exact ite (fun _ => lawful ((Lawful.answer _ _ _ s).trans (Lawful.store _ _ id))) fun _ => fault s _
  · exact lawful (.answer _ _ _ s)

theorem dispatch (kind tag : Byte) (payload : List Byte) (s : State) : Heeds s (dispatch kind tag payload s) := by
  have other (st : Status) : Heeds s (.next (answer kind tag st s)) := lawful (.answer _ _ _ s)
  unfold Machine.dispatch
  generalize kind.toNat = k
  by_cases hk : 0x14 < k
  · obtain ⟨n, rfl⟩ := Nat.exists_eq_add_of_lt hk
    rw [Nat.add_comm _ n]
    exact other _
  interval_cases k
  · exact other _
  · exact match payload with | [] => lawful (.still ⟨rfl, rfl, rfl⟩) | _ :: _ => other _
  · exact match payload with | [_] => lawful (.doQueryAxis _ _ s) | [] | _ :: _ :: _ => other _
  · exact match payload with | [] => lawful (.reply _ s) | _ :: _ => other _
  · exact match payload with
      | [_, _, _, _] => next (.doMove _ _ _ _ s)
      | [] | [_] | [_, _] | [_, _, _] | _ :: _ :: _ :: _ :: _ :: _ => other _
  · exact match payload with
      | [_, _, _] => next (.doJog _ _ _ _ s)
      | [] | [_] | [_, _] | _ :: _ :: _ :: _ :: _ => other _
  · exact match payload with | [] => lawful (.doJogRefresh _ s) | _ :: _ => other _
  · exact match payload with
      | [_, _] => next (.doRunSequence _ _ _ s)
      | [] | [_] | _ :: _ :: _ :: _ => other _
  · exact match payload with | [_, _] => lawful (.doStop _ _ _ s) | [] | [_] | _ :: _ :: _ :: _ => other _
  · exact match payload with | [] => lawful (.doStopAll _ s) | _ :: _ => other _
  · exact match payload with | [] => lawful (.doEstop _ s) | _ :: _ => other _
  · exact match payload with | [] => lawful (.doEstopClear _ s) | _ :: _ => other _
  · exact match payload with | [_, _] => lawful (.doFaultClear _ _ _ s) | [] | [_] | _ :: _ :: _ :: _ => other _
  · exact match payload with
      | [_, _, _, _] => lawful (.doBeaconOverride _ _ _ _ s)
      | [] | [_] | [_, _] | [_, _, _] | _ :: _ :: _ :: _ :: _ :: _ => other _
  · exact match payload with | [] => lawful (.still ⟨rfl, rfl, rfl⟩) | _ :: _ => other _
  · exact match payload with
      | [_, _, _, _] => doProfileRead _ _ _ _ s
      | [] | [_] | [_, _] | [_, _, _] | _ :: _ :: _ :: _ :: _ :: _ => other _
  · exact match payload with
      | _ :: _ :: _ :: _ :: _ => ite (fun _ => doProfileStage _ _ _ _ s) fun _ => lawful (.answer _ _ _ s)
      | [] | [_] | [_, _] | [_, _, _] => other _
  · exact match payload with | [] => lawful (.doProfileDiscard _ s) | _ :: _ => other _
  · exact match payload with | [] => next (.doProfileCommit _ s) | _ :: _ => other _
  · exact match payload with | [] => lawful (.doLockEnvelopes _ s) | _ :: _ => other _
  · exact match payload with | [] => lawful (.doRestart _ s) | _ :: _ => other _

theorem goodFrameOutcome {k : State → Host.Outcome State Fault Refusal} (hk : ∀ s : State, Heeds s (k s)) (s : State) :
    Heeds s (goodFrameOutcome k s) :=
  ite (fun _ => lawful (.still ⟨rfl, rfl, rfl⟩)) fun _ => ite (fun _ => lawful (.still ⟨rfl, rfl, rfl⟩)) fun _ t ht =>
    Governed.behind (hk (countGood s) t ht) ⟨rfl, rfl, rfl, rfl⟩

theorem hostCharacter (c : Byte) (b : Bool) (s : State) : Heeds s (execHostCharacterReceived c b s) := by
  unfold execHostCharacterReceived
  split
  · exact lawful (.huntCharacter _ _ s)
  · refine ite (fun _ => lawful ((Lawful.dropFrame s).trans (.huntCharacter _ _ _))) fun _ =>
      ite (fun _ => ?_) fun _ => lawful (.dropFrame s)
    unfold takeCharacter
    split
    · exact ite (fun _ => lawful (.still ⟨rfl, rfl, rfl⟩)) fun _ => lawful (.still ⟨rfl, rfl, rfl⟩)
    · refine ite (fun _ => lawful (.still ⟨rfl, rfl, rfl⟩)) fun _ => ?_
      unfold takeFrame
      refine ite (fun _ => ?_) fun _ => lawful (.badCheck s)
      split
      · exact goodFrameOutcome (dispatch _ _ _) s
      · exact lawful (.still ⟨rfl, rfl, rfl⟩)

end Heeds

end Sys2Proof.Machine

namespace Sys2Proof.Machine

/-! ### The rows of the events -/

/-- R97: an entry of the table has eight slots. -/
theorem Image.profile_short (m : Image) : m.profile.ShortSequences := by
  intro e he
  obtain ⟨k, -, rfl⟩ := List.mem_map.1 he
  rw [List.length_map]
  exact (List.takeWhile_sublist _).length_le

namespace Lawful

theorem prewarnEvent (tag : Nat) (t : PrewarnTimer) (s : State) : Lawful s (prewarnEvent tag t s) := by
  unfold Machine.prewarnEvent
  split
  · exact refl s
  · next hr => exact ite (fun h => settled (.prewarnComplete (of_find hr) h.1)) fun _ => refl s

end Lawful

namespace Governed

/-- R36: the budget is worked out again before anything is granted. -/
theorem deliverBattery (v : Option Int) (s : State) : Governed s (deliverBattery v s) := by
  cases v with
  | none => exact of_lawful (.judgeSupply none s)
  | some v =>
      refine of_alike (u := s.onMotion (fun m => { m with budget := budgetFor s.profile.limits v }))
        ⟨rfl, rfl, rfl, rfl, id⟩ ?_
      exact (Lawful.settled (.oweAttempt _)).trans <| (Lawful.endFailedSteps _).trans (Lawful.judgeSupply _ _)

theorem deliverFigure (c : Channel) (code : Int) (s : State) : Governed s (deliverFigure c code s) := by
  refine behind (u := takeFigure c code (figureOf s c code) s) ?_ ⟨rfl, rfl, rfl, rfl⟩
  cases c with
  | battery => exact deliverBattery _ _
  | pressure => exact of_lawful (.settled (.judgeOverload _ _))
  | pitch => exact of_lawful (.refl _)
  | axis a => exact of_lawful (.refl _)

theorem deliver (c : Channel) (cv : Conversion) (primary : Int) (alternate : Option Int) (s : State) :
    Governed s (deliver c cv primary alternate s) := by
  cases c with
  | axis a => exact of_lawful (.deliverAxis a _ s)
  | pitch => exact deliverFigure .pitch primary s
  | pressure => exact deliverFigure .pressure primary s
  | battery => exact deliverFigure .battery primary s

/-- R195: a block that leaves LOADING has an empty list. -/
theorem leaveLoading {s u : State} (hm : u.motion = s.motion) (hp : u.profile = s.profile)
    (hmode : u.store.mode = s.store.mode) (hc : u.store.commit = s.store.commit) : Governed s (leaveLoading u) := by
  have hmotion := (leaveLoading_keeps u).2.1.trans hm
  rcases leaveLoading_cases u with h | ⟨m, hload, -, h⟩
  · rw [h]
    exact of_lawful (.of_due (.aside (by rw [hm]) (by rw [hm]) (by rw [hm]) hp (by rw [Store.Busy, hmode, hc]; exact id))
      (by rw [hm]))
  · refine of_idle (by rw [hmotion]) (by rw [hmotion]) (by rw [hmotion])
      (fun hs => hs.2.1 (.inl (hmode ▸ hload))) fun _ => ?_
    rw [h]
    rcases startLampTest_cases (startCrew (startConversions (handOut m u))) with h | h
    · rw [h]
      exact m.profile_short
    · rw [h]
      exact m.profile_short

theorem endLoad (m : Image) (source : Source) (s : State) : Governed s (endLoad m source s) := leaveLoading rfl rfl rfl rfl

theorem takeStrap (s : State) : Governed s (takeStrap s) := leaveLoading rfl rfl rfl rfl

theorem judgeLoad (bytes : List Byte) (s : State) : Governed s (judgeLoad bytes s) := by
  unfold Machine.judgeLoad
  split
  · exact endLoad _ _ s
  · split
    · exact endLoad _ _ s
    · exact endLoad _ _ s

/-- R200: a committed image is adopted on an empty list. -/
theorem verifyCommit {s : State} (hc : s.store.commit = .verify) (bytes : List Byte) : Governed s (verifyCommit bytes s) := by
  have hbusy : s.store.commit ≠ .idle := by rw [hc]; decide
  unfold Machine.verifyCommit
  split
  · next m _ =>
    refine ite (fun _ => ?_) fun _ => of_lawful (.endCommit _ s)
    refine of_idle ?_ ?_ ?_ (fun hs => hs.2.1 (.inr hbusy)) fun _ => ?_
    all_goals unfold Machine.endCommit; dsimp only
    · split <;> rfl
    · split <;> rfl
    · split <;> rfl
    · split <;> exact m.profile_short
  · exact of_lawful (.endCommit _ s)

theorem atStop (bytes : List Byte) {f : State → State} (hf : ∀ s, Governed s (f s)) (s : State) :
    Governed s (atStop bytes f s) :=
  ite (fun _ => behind (hf (frameStop bytes s)) ⟨rfl, rfl, rfl, rfl⟩) fun _ => of_lawful (.refl s)

theorem handHold (src dst : BitVec 4) (data : Byte) (s : State) : Governed s (handHold src dst data s) := by
  unfold Machine.handHold
  split
  · exact of_lawful (.refl s)
  · exact ite (fun _ => behind (holdDecode _ _ (heard src.toNat s)) ⟨rfl, rfl, rfl, rfl⟩) fun _ => of_lawful (.refl s)

theorem handBytes (bytes : List Byte) (s : State) : Governed s (handBytes bytes s) := by
  unfold Machine.handBytes
  split
  · unfold Machine.handOn
    split
    · exact handHold _ _ _ s
    · exact of_lawful (.handClear _ _ s)
    · exact of_lawful (.handHalt _ s)
    · exact of_lawful (.refl s)
  · exact of_lawful (.refl s)

end Governed

namespace Heeds

theorem debounce (i : Input) (s : State) : Heeds s (execDebounceStateChange i s) := by
  unfold execDebounceStateChange
  dsimp only
  split
  · exact refl s
  · refine ite (fun _ => refl s) fun _ => lawful ?_
    exact Lawful.trans (.still (by exact ⟨rfl, rfl, rfl⟩)) (Lawful.ite (fun _ => .inputActive i _) fun _ => .refl _)

theorem vehicleMovingExpiry (s : State) : Heeds s (execVehicleMovingExpiry s) := by
  unfold execVehicleMovingExpiry
  split
  · exact refl s
  · exact lawful (.still ⟨rfl, rfl, rfl⟩)

theorem freeRunTimerExpiry (c : Channel) (s : State) : Heeds s (execFreeRunTimerExpiry c s) := by
  unfold execFreeRunTimerExpiry
  split
  · exact refl s
  · exact lawful (.still ⟨rfl, rfl, rfl⟩)

theorem controlIntervalEvent (a : Axis) (s : State) : Heeds s (execControlIntervalEvent a s) := by
  unfold execControlIntervalEvent triggerSynchronised
  dsimp only
  refine lawful (Lawful.trans (.still (by exact ⟨rfl, rfl, rfl⟩)) (Lawful.ite (fun _ => .still (by exact ⟨rfl, rfl, rfl⟩)) fun _ => .refl _))

theorem dualTrackPrimaryComplete (c : Channel) (code : RawCode) (s : State) :
    Heeds s (execDualTrackPrimaryComplete c code s) := by
  unfold execDualTrackPrimaryComplete
  split
  · split
    · exact refl s
    · exact lawful (.still ⟨rfl, rfl, rfl⟩)
  · exact refl s

theorem conversionComplete (c : Channel) (code : RawCode) (s : State) : Heeds s (execConversionComplete c code s) := by
  unfold execConversionComplete
  split
  · exact refl s
  · next cv _ =>
    split
    · exact next (.behind (.deliver c cv _ _ (s.upTo (cv.began + Config.conversionTime))) ⟨rfl, rfl, rfl, rfl⟩)
    · exact next (.behind (.deliver c cv _ _ (s.upTo (cv.began + 2 * Config.conversionTime))) ⟨rfl, rfl, rfl, rfl⟩)
    · exact refl s

theorem stall (a : Axis) (s : State) : Heeds s (execStall a s) := by
  unfold execStall
  split
  · exact refl s
  · refine ite (fun _ => ?_) fun _ => refl s
    split
    · exact lawful ((Lawful.clock s _).trans (.settled (.raiseFaults _ _ _ _)))
    · exact lawful (.settled (.raiseFaults _ _ _ _))

theorem overload (s : State) : Heeds s (execOverload s) := by
  unfold execOverload
  split
  · exact refl s
  · next r hr =>
    refine ite (fun _ => ?_) fun _ => refl s
    have hc := Record.charged_of_inMotion (inMotion_of_mover hr)
    split
    · exact lawful ((Lawful.clock s _).trans (.settled (.enterStopping (s := s.upTo _) (mem_of_mover hr) hc _ _)))
    · exact lawful (.settled (.enterStopping (mem_of_mover hr) hc _ _))

theorem sensorDisagree (c : Channel) (s : State) : Heeds s (execSensorDisagree c s) := by
  have hcount (a : Axis) : Heeds s (.next (execSensorDisagree.disagreed a s)) :=
    lawful (Lawful.trans (.still (by exact ⟨rfl, rfl, rfl⟩)) (.settled (.raiseFaults _ _ _ _)))
  unfold execSensorDisagree
  split
  · exact hcount .lift
  · exact hcount .tilt
  all_goals exact refl s

theorem supplyCut (s : State) : Heeds s (execSupplyCut s) := by
  unfold execSupplyCut
  split
  · split
    · exact lawful ((Lawful.clock s _).trans (.cutSupply _))
    · exact lawful (.cutSupply s)
  · exact refl s

theorem supplyRecover (s : State) : Heeds s (execSupplyRecover s) := by
  unfold execSupplyRecover
  split
  · split
    · exact lawful ((Lawful.clock s _).trans (.restoreSupply _))
    · exact lawful (.restoreSupply s)
  · exact refl s

theorem pinChange (p : Pin) (l : Bool) (s : State) : Heeds s (execDiscretePinChange p l s) := by
  unfold execDiscretePinChange
  split
  · exact lawful (.inputPin _ _ s)
  · exact lawful (.still ⟨rfl, rfl, rfl⟩)
  · exact lawful (.estopLow s)
  · exact lawful (.holdoffHigh s)
  · exact lawful (.still ⟨rfl, rfl, rfl⟩)
  · exact lawful (.still ⟨rfl, rfl, rfl⟩)

/-! Timers of records. -/

theorem waitTimerExpiry (tag : Nat) (s : State) : Heeds s (execWaitTimerExpiry tag s) := by
  unfold execWaitTimerExpiry
  split
  · exact refl s
  · exact ite (fun _ => lawful ((Lawful.clock s _).trans (.settled (.endRecord _ _ _)))) fun _ => refl s

theorem holdTimerExpiry (tag : Nat) (s : State) : Heeds s (execHoldTimerExpiry tag s) := by
  unfold execHoldTimerExpiry
  split
  · exact refl s
  · next hr =>
    exact ite (fun _ => lawful ((Lawful.clock s _).trans (.settled (.holdStop (s := s.upTo _) (mem_of_find hr) _))))
      fun _ => refl s

theorem pauseWindowExpiry (tag : Nat) (s : State) : Heeds s (execPauseWindowExpiry tag s) := by
  unfold execPauseWindowExpiry
  split
  · exact refl s
  · exact ite (fun _ => lawful ((Lawful.clock s _).trans (.settled (.endRecord _ _ _)))) fun _ => refl s

theorem prewarnTimerExpiry (tag : Nat) (s : State) : Heeds s (execPrewarnTimerExpiry tag s) := by
  unfold execPrewarnTimerExpiry
  split
  · exact refl s
  · exact lawful (Lawful.trans (.still (by exact ⟨rfl, rfl, rfl⟩)) (.prewarnEvent _ _ _))

/-! The Drive Unit's and the Beacon Unit's rows. -/

theorem periodBoundary (r : Readings) (s : State) : Heeds s (execPeriodBoundary r s) := by
  unfold execPeriodBoundary
  split
  · exact lawful (Lawful.trans (.still (by exact ⟨rfl, rfl, rfl⟩)) (.driveBoundary _ _))
  · exact lawful (Lawful.trans (.still (by exact ⟨rfl, rfl, rfl⟩)) (.driveBoundary _ _))
  · exact lawful (Lawful.trans (.still (by exact ⟨rfl, rfl, rfl⟩)) <| (Lawful.guardPair _ _ _).trans <| (Lawful.guardPair _ _ _).trans (.driveBoundary _ _))
  · exact lawful (Lawful.trans (.still (by exact ⟨rfl, rfl, rfl⟩)) (Lawful.foldl (Lawful.judgeLampReading _) _ _))

theorem hitPhaseEnd (o : DriveOut) (s : State) : Heeds s (execHitPhaseEnd o s) :=
  ite (fun _ => lawful (.still ⟨rfl, rfl, rfl⟩)) fun _ => refl s

theorem doorCurrentObstruction (a : Axis) (s : State) : Heeds s (execDoorCurrentObstruction a s) := by
  unfold execDoorCurrentObstruction
  split
  · exact refl s
  · refine ite (fun _ => ?_) fun _ => refl s
    split
    · exact lawful ((Lawful.clock s _).trans (.settled (.obstruct a _)))
    · exact lawful (.settled (.obstruct a s))

theorem periodCentre (l : Levels) (s : State) : Heeds s (execPeriodCentre l s) := by
  unfold execPeriodCentre
  split
  · exact lawful (.driveCentre _ _ s)
  · exact lawful (.driveCentre _ _ s)
  · exact lawful (.driveCentre _ _ s)
  · exact lawful (.lampCentre _ _ s)

theorem lampBoundary (s : State) : Heeds s (execLampBoundary s) :=
  lawful (Lawful.trans (.still (by exact ⟨rfl, rfl, rfl⟩)) ((Lawful.testBoundary _).trans (Lawful.foldl Lawful.lampBoundary _ _)))

theorem lampTestComplete (s : State) : Heeds s (execLampTestComplete s) := by
  unfold execLampTestComplete
  split
  · exact lawful (.lampTestDone s)
  · exact refl s
  · exact refl s

theorem overrideExpiry (l : Lamp) (s : State) : Heeds s (execOverrideExpiry l s) := by
  unfold execOverrideExpiry
  split
  · exact lawful (.still ⟨rfl, rfl, rfl⟩)
  · exact refl s
  · exact refl s

/-! The crew bus. -/

theorem crewFrameDiscard (frame : HeardFrame) (s : State) : Heeds s (execCrewFrameDiscard frame s) := by
  refine next (.atStop _ (fun u => ?_) s)
  split
  · exact .handBytes _ u
  · exact .of_lawful (.refl u)

theorem crewFrameStart (s : State) : Heeds s (execCrewFrameStart s) := by
  unfold execCrewFrameStart
  split
  · exact lawful (.still ⟨rfl, rfl, rfl⟩)
  · exact lawful (.still ⟨rfl, rfl, rfl⟩)
  · exact lawful (.still ⟨rfl, rfl, rfl⟩)
  · exact refl s
  · exact refl s

theorem silenceTimerExpiry (n : Nat) (s : State) : Heeds s (execSilenceTimerExpiry n s) := by
  unfold execSilenceTimerExpiry
  split
  · exact refl s
  · exact lawful (.still ⟨rfl, rfl, rfl⟩)

theorem clearRefusedTimerExpiry (n : Nat) (s : State) : Heeds s (execClearRefusedTimerExpiry n s) := by
  unfold execClearRefusedTimerExpiry
  split
  · exact refl s
  · exact lawful (.still ⟨rfl, rfl, rfl⟩)

theorem lampsTimer (s : State) : Heeds s (execLampsTimer s) := by
  unfold execLampsTimer
  split
  · exact refl s
  · exact lawful (Lawful.ite (fun _ => .still ⟨rfl, rfl, rfl⟩) fun _ => .still ⟨rfl, rfl, rfl⟩)

theorem lampsFrameStart (s : State) : Heeds s (execLampsFrameStart s) := by
  unfold execLampsFrameStart
  split
  · exact lawful (.still ⟨rfl, rfl, rfl⟩)
  · exact refl s

theorem arbitrationLost (s : State) : Heeds s (execArbitrationLost s) := by
  unfold execArbitrationLost
  split
  · exact lawful (.still ⟨rfl, rfl, rfl⟩)
  · exact refl s

theorem busStuck (s : State) : Heeds s (execBusStuck s) :=
  ite (fun _ => refl s) fun _ => lawful (Lawful.trans (.still (by exact ⟨rfl, rfl, rfl⟩)) (.lapsePendants _))

/-! The store. -/

theorem commitEraseDone (s : State) : Heeds s (execCommitEraseDone s) := by
  unfold execCommitEraseDone
  split
  · next hc => exact ite (fun _ => lawful (.store s _ fun _ => .inr (by rw [hc]; decide))) fun _ => lawful (.endCommit _ s)
  all_goals exact refl s

theorem commitPageDone (s : State) : Heeds s (execCommitPageDone s) := by
  unfold execCommitPageDone
  split
  · next n hc =>
    exact ite (fun _ => lawful (.store s _ fun _ => .inr (by rw [hc]; nofun))) fun _ => lawful (.endCommit _ s)
  all_goals exact refl s

theorem commitVerifyDone (bytes : List Byte) (s : State) : Heeds s (execCommitVerifyDone bytes s) := by
  unfold execCommitVerifyDone
  split
  · next hc => exact next (.verifyCommit hc bytes)
  all_goals exact refl s

theorem commitStepTimeout (s : State) : Heeds s (execCommitStepTimeout s) := by
  unfold execCommitStepTimeout
  split
  · exact refl s
  · exact lawful ((Lawful.clock s _).trans (.endCommit _ _))

/-! The host's line. -/

theorem hostFrameBad (why : BadFrame) (s : State) : Heeds s (execHostFrameBad why s) := by
  unfold execHostFrameBad
  split
  · exact ite (fun _ => refl s) fun _ => lawful (.still ⟨rfl, rfl, rfl⟩)
  · exact lawful (.badCheck s)
  · unfold framingError
    split
    · exact refl s
    · exact lawful (.still ⟨rfl, rfl, rfl⟩)

theorem hostGapTimeout (s : State) : Heeds s (execHostGapTimeout s) := by
  unfold execHostGapTimeout
  split
  · exact refl s
  · exact lawful (.still ⟨rfl, rfl, rfl⟩)

theorem holdoffReleased (s : State) : Heeds s (execHoldoffReleased s) := by
  unfold execHoldoffReleased
  split
  · exact ite (fun _ => lawful ((Lawful.clock s _).trans (.releaseHoldoff _))) fun _ => refl s
  · exact refl s

end Heeds

end Sys2Proof.Machine

namespace Sys2Proof.Machine

/-! ### What every command keeps of the list -/

/-- A reset leaves an empty list under every rule (R188, R202). -/
theorem resetRelease_sound (s : State) :
    (resetRelease s).motion.records = [] ∧ (resetRelease s).BankSound ∧ (resetRelease s).Settled := by
  have step {u v : State} (h : Lawful u v) (hu : u.motion.records = [] ∧ u.BankSound ∧ u.Settled) :
      v.motion.records = [] ∧ v.BankSound ∧ v.Settled := by
    obtain ⟨hr, hb, hs⟩ := hu
    have hg := Governed.of_lawful h
    have htags : u.tags = [] := congrArg (List.map Record.tag) hr
    exact ⟨List.map_eq_nil_iff.1 (List.subset_nil.1 (htags ▸ h.tags)), hg.bank hb, hg.settled hs⟩
  refine resetRelease_holds (p := fun u => u.motion.records = [] ∧ u.BankSound ∧ u.Settled) s ?_
    (fun _ => step (.assertHoldoff _)) fun _ => step (.estopCause _ _)
  obtain ⟨-, -, -, -, hbank, hsettled, -⟩ := resetMeetsTheInvariants
  exact ⟨rfl, hbank, hsettled⟩

/-- R188: the restart takes effect, or nothing more happens. -/
theorem takeRestart_governed {c : Instr} (hc : Resets c) {s u : State} (h : Governed s u) (hp : u.pins = s.pins)
    (hq : u.pending = s.pending) : Governed s (takeRestart u) ∨ (Resets c ∧ takeRestart u = resetRelease s) := by
  unfold takeRestart
  split
  · refine .inr ⟨hc, ?_⟩
    unfold resetRelease
    rw [hp, hq]
  · exact .inl h

theorem replySent_governed {s t : State} (h : execReplySent s = .next t) :
    Governed s t ∨ (Resets .replySent ∧ t = resetRelease s) := by
  unfold execReplySent at h
  split at h
  · cases h
    exact .inl (.of_lawful (.refl s))
  · next rest _ =>
    cases h
    have hl : Lawful s (s.onLink (fun l => { l with fifo := rest })) := .still ⟨rfl, rfl, rfl⟩
    split
    · exact takeRestart_governed (.inr (.inr rfl)) (.of_lawful hl) rfl rfl
    · exact .inl (.of_lawful hl)

theorem restartTakesEffect_governed {s t : State} (h : execRestartTakesEffect s = .next t) :
    Governed s t ∨ (Resets .restartTakesEffect ∧ t = resetRelease s) := by
  unfold execRestartTakesEffect at h
  split at h
  · cases h
    exact takeRestart_governed (.inr (.inl rfl)) (.of_lawful (.refl s)) rfl rfl
  · cases h
    exact .inl (.of_lawful (.refl s))
  · cases h
    exact .inl (.of_lawful (.refl s))

/-- What a command does, one case for each: it keeps the rules of the list, or takes the block to its reset values. -/
theorem exec_governed {c : Instr} {s t : State} (h : exec c s = .next t) :
    Governed s t ∨ (Resets c ∧ t = resetRelease s) := by
  have served {o : Host.Outcome State Fault Refusal} (ho : Heeds s o) (h : o = .next t) :
      Governed s t ∨ (Resets c ∧ t = resetRelease s) := .inl (ho t h)
  cases c with
  | powerOnReset => cases h; exact .inr ⟨.inl rfl, rfl⟩
  | profileLoadEnd image => exact served (.ite (fun _ => .next (.judgeLoad image s)) fun _ => .refl s) h
  | loadReadTimeout =>
      exact served (.ite (fun _ => .next (.behind (.endLoad _ _ (s.upTo Config.loadReadLimit)) ⟨rfl, rfl, rfl, rfl⟩)) fun _ => .refl s) h
  | strapSample =>
      exact served (.ite (fun _ => .refl s) fun _ => .next (.behind (.takeStrap (s.upTo Config.filterTime)) ⟨rfl, rfl, rfl, rfl⟩)) h
  | lampTestComplete => exact served (.lampTestComplete s) h
  | estopPinLow => exact served (.lawful (.estopLow s)) h
  | holdoffAsserted => exact served (.lawful (.holdoffHigh s)) h
  | holdoffReleased => exact served (.holdoffReleased s) h
  | debounceStateChange i => exact served (.debounce i s) h
  | vehicleMoving => exact served (.ite (fun _ => .refl s) fun _ => .lawful (.holdMoving s)) h
  | vehicleMovingExpiry => exact served (.vehicleMovingExpiry s) h
  | freeRunTimerExpiry c => exact served (.freeRunTimerExpiry c s) h
  | controlIntervalEvent a => exact served (.controlIntervalEvent a s) h
  | dualTrackPrimaryComplete c code => exact served (.dualTrackPrimaryComplete c code s) h
  | conversionComplete c code => exact served (.conversionComplete c code s) h
  | stall a => exact served (.stall a s) h
  | overload => exact served (.overload s) h
  | sensorDisagree c => exact served (.sensorDisagree c s) h
  | supplyCut => exact served (.supplyCut s) h
  | supplyRecover => exact served (.supplyRecover s) h
  | waitTimerExpiry tag => exact served (.waitTimerExpiry tag s) h
  | holdTimerExpiry tag => exact served (.holdTimerExpiry tag s) h
  | pauseWindowExpiry tag => exact served (.pauseWindowExpiry tag s) h
  | prewarnTimerExpiry tag => exact served (.prewarnTimerExpiry tag s) h
  | periodBoundary r => exact served (.periodBoundary r s) h
  | hitPhaseEnd o => exact served (.hitPhaseEnd o s) h
  | openFinding o => exact served (.lawful (.reportOpen o s)) h
  | doorCurrentObstruction a => exact served (.doorCurrentObstruction a s) h
  | periodCentre l => exact served (.periodCentre l s) h
  | echoFinding o => exact served (.lawful (.reportEcho o s)) h
  | lampBoundary => exact served (.lampBoundary s) h
  | stretchTimerExpiry l => exact served (.ite (fun _ => .lawful (.still (by exact ⟨rfl, rfl, rfl⟩))) fun _ => .refl s) h
  | overridePulseExpiry l => exact served (.ite (fun _ => .lawful (.still (by exact ⟨rfl, rfl, rfl⟩))) fun _ => .refl s) h
  | overrideExpiry l => exact served (.overrideExpiry l s) h
  | holdFrame src dst data => exact served (.next (.atStop _ (fun _ => .handHold _ _ _ _) s)) h
  | clearFrame src dst => exact served (.next (.atStop _ (fun _ => .of_lawful (.handClear _ _ _)) s)) h
  | haltFrame src => exact served (.next (.atStop _ (fun _ => .of_lawful (.handHalt _ _)) s)) h
  | crewFrameDiscard frame => exact served (.crewFrameDiscard frame s) h
  | crewFrameTimeout => exact served (.ite (fun _ => .lawful (.still (by exact ⟨rfl, rfl, rfl⟩))) fun _ => .refl s) h
  | silenceTimerExpiry n => exact served (.silenceTimerExpiry n s) h
  | clearRefusedTimerExpiry n => exact served (.clearRefusedTimerExpiry n s) h
  | lampsTimer => exact served (.lampsTimer s) h
  | lampsFrameStart => exact served (.lampsFrameStart s) h
  | lampsFrameSent => exact served (.ite (fun _ => .lawful (.still (by exact ⟨rfl, rfl, rfl⟩))) fun _ => .refl s) h
  | lampsNotAcknowledged => exact served (.ite (fun _ => .lawful (.still (by exact ⟨rfl, rfl, rfl⟩))) fun _ => .refl s) h
  | arbitrationLost => exact served (.arbitrationLost s) h
  | backoffEnd => exact served (.ite (fun _ => .lawful (.still (by exact ⟨rfl, rfl, rfl⟩))) fun _ => .refl s) h
  | busStuck => exact served (.busStuck s) h
  | busRecover => exact served (.ite (fun _ => .lawful (.still (by exact ⟨rfl, rfl, rfl⟩))) fun _ => .refl s) h
  | hostFrameBad why => exact served (.hostFrameBad why s) h
  | hostGapTimeout => exact served (.hostGapTimeout s) h
  | frameOverrun =>
      exact served (.ite (fun _ => .next (.goodFrame (fun _ => .of_lawful (.refl _)) s)) fun _ => .refl s) h
  | unknownKind kind tag =>
      exact served (.ite (fun _ => .refl s) fun _ => .next (.goodFrame (fun _ => .of_lawful (.answer _ _ _ _)) s)) h
  | replySent => exact replySent_governed h
  | status tag => exact served (.next (.goodFrame (fun _ => .of_lawful (.still (by exact ⟨rfl, rfl, rfl⟩))) s)) h
  | queryAxis tag axis => exact served (.next (.goodFrame (fun _ => .of_lawful (.doQueryAxis _ _ _)) s)) h
  | queryList tag => exact served (.next (.goodFrame (fun _ => .of_lawful (.reply _ _)) s)) h
  | move tag axis target speed => exact served (.next (.goodFrame (fun _ => .doMove _ _ _ _ _) s)) h
  | jog tag axis dir speed => exact served (.next (.goodFrame (fun _ => .doJog _ _ _ _ _) s)) h
  | jogRefresh tag => exact served (.next (.goodFrame (fun _ => .of_lawful (.doJogRefresh _ _)) s)) h
  | runSequence tag seq held => exact served (.next (.goodFrame (fun _ => .doRunSequence _ _ _ _) s)) h
  | stop tag axis recordTag => exact served (.next (.goodFrame (fun _ => .of_lawful (.doStop _ _ _ _)) s)) h
  | stopAll tag => exact served (.next (.goodFrame (fun _ => .of_lawful (.doStopAll _ _)) s)) h
  | estop tag => exact served (.next (.goodFrame (fun _ => .of_lawful (.doEstop _ _)) s)) h
  | estopClear tag => exact served (.next (.goodFrame (fun _ => .of_lawful (.doEstopClear _ _)) s)) h
  | faultClear tag axis channel => exact served (.next (.goodFrame (fun _ => .of_lawful (.doFaultClear _ _ _ _)) s)) h
  | beaconOverride tag channel pattern seconds =>
      exact served (.next (.goodFrame (fun _ => .of_lawful (.doBeaconOverride _ _ _ _ _)) s)) h
  | readNotices tag => exact served (.next (.goodFrame (fun _ => .of_lawful (.still (by exact ⟨rfl, rfl, rfl⟩))) s)) h
  | profileRead tag region offset length => exact served (.goodFrameOutcome (.doProfileRead _ _ _ _) s) h
  | profileStage tag region offset bytes => exact served (.goodFrameOutcome (.doProfileStage _ _ _ _) s) h
  | profileDiscard tag => exact served (.next (.goodFrame (fun _ => .of_lawful (.doProfileDiscard _ _)) s)) h
  | profileCommit tag => exact served (.next (.goodFrame (fun _ => .doProfileCommit _ _) s)) h
  | lockEnvelopes tag => exact served (.next (.goodFrame (fun _ => .of_lawful (.doLockEnvelopes _ _)) s)) h
  | restart tag => exact served (.next (.goodFrame (fun _ => .of_lawful (.doRestart _ _)) s)) h
  | restartTakesEffect => exact restartTakesEffect_governed h
  | commitEraseDone => exact served (.commitEraseDone s) h
  | commitPageDone => exact served (.commitPageDone s) h
  | commitVerifyDone bytes => exact served (.commitVerifyDone bytes s) h
  | commitStepTimeout => exact served (.commitStepTimeout s) h
  | discretePinChange p l => exact served (.pinChange p l s) h
  | crewFrameStart => exact served (.crewFrameStart s) h
  | crewFrameIgnored bytes => exact served (.next (.atStop _ (fun _ => .handBytes _ _) s)) h
  | hostCharacterReceived c b => exact served (.hostCharacter c b s) h

/-- The state of a step's command differs from the state of the step in the queue alone. -/
theorem step_governed {s t : State} (h : step s = .next t) :
    Governed s t ∨ (t.motion.records = [] ∧ t.BankSound ∧ t.Settled) := by
  rcases step_cases h with ⟨-, rfl⟩ | ⟨c, rest, -, hc⟩
  · exact .inl (.of_lawful (.still (by exact ⟨rfl, rfl, rfl⟩)))
  · rcases exec_governed hc with hg | ⟨-, rfl⟩
    · exact .inl (.behind hg ⟨rfl, rfl, rfl, rfl⟩)
    · exact .inr (resetRelease_sound _)

/-- Settles O8. -/
theorem stepKeepsTheListSound : Obligations.StepKeepsTheListSound := by
  intro s t hs h
  rcases step_governed h with hg | ⟨-, hb, -⟩
  · exact hg.list hs
  · exact hb.1

/-- Settles O9. -/
theorem stepKeepsTheBankSound : Obligations.StepKeepsTheBankSound := by
  intro s t hs h
  rcases step_governed h with hg | ⟨-, hb, -⟩
  · exact hg.bank hs
  · exact hb

/-- Settles O11. -/
theorem stepLeavesNoAttemptOwed : Obligations.StepLeavesNoAttemptOwed := by
  intro s t hs h
  rcases step_governed h with hg | ⟨-, -, ht⟩
  · exact hg.settled hs
  · exact ht

/-- Settles O17. -/
theorem newRecordsWerePermitted : Obligations.NewRecordsWerePermitted := by
  refine ⟨fun c s t hs h hp => ?_, fun c s t h r hr hnone => ?_⟩
  · rcases exec_governed h with hg | ⟨hc, -⟩
    · exact .inl (hg.profile hs hp)
    · exact .inr hc
  · rcases exec_governed h with hg | ⟨-, rfl⟩
    · exact hg.admitted r hr hnone
    · exact absurd ((resetRelease_sound s).1 ▸ hr) List.not_mem_nil

/-- Settles O18. -/
theorem grantsKeepTheBudget : Obligations.GrantsKeepTheBudget := by
  intro c s t hs h
  rcases exec_governed h with hg | ⟨-, rfl⟩
  · exact hg.draws hs
  · left
    rw [State.drawSum, (resetRelease_sound s).1]
    exact Nat.zero_le _

end Sys2Proof.Machine

namespace Sys2Proof.Machine

/-! ### The checks of a request, one after another (R28) -/

/-- R32: what check 6 asks of one axis. -/
def permittedOn (s : State) (r : Record) (a : Axis) : Bool :=
  match r.kind with
  | .move => mayTarget s r.source a
  | .jog => mayHold s r.source a
  | .sequence => if r.held then mayHold s r.source a else mayTarget s r.source a

theorem permitted_iff {s : State} {r : Record} :
    permitted s r = true ↔ ∀ a, r.claims a = true → permittedOn s r a = true := by
  have hone (a : Axis) : (!r.claims a || permittedOn s r a) = true ↔ (r.claims a = true → permittedOn s r a = true) := by
    cases r.claims a <;> simp
  exact List.all_eq_true.trans ⟨fun h a => (hone a).1 (h a (mem_axes a)), fun h a _ => (hone a).2 (h a)⟩

theorem mem_rivals {s : State} {r x : Record} :
    x ∈ rivals s r ↔ x ∈ s.motion.records ∧ ∃ a, r.claims a = true ∧ x.claims a = true := by
  rw [rivals, List.mem_filter, List.any_eq_true]
  refine and_congr_right fun _ => ⟨?_, ?_⟩
  · rintro ⟨a, -, ha⟩
    obtain ⟨hx, hr⟩ := Bool.and_eq_true_iff.1 ha
    exact ⟨a, hr, hx⟩
  · rintro ⟨a, hr, hx⟩
    exact ⟨a, mem_axes a, Bool.and_eq_true_iff.2 ⟨hx, hr⟩⟩

/-- A record that claims one axis has the claimant of that axis as its first rival. -/
theorem rivals_head? {s : State} {r : Record} {a : Axis} (h : ∀ b, r.claims b = true ↔ b = a) :
    (rivals s r).head? = s.claimant a := by
  have hp (x : Record) : (axes.any fun b => x.claims b && r.claims b) = x.claims a := by
    refine Bool.eq_iff_iff.2 ⟨fun hx => ?_, fun hx => ?_⟩
    · obtain ⟨b, -, hb⟩ := List.any_eq_true.1 hx
      obtain ⟨hxb, hrb⟩ := Bool.and_eq_true_iff.1 hb
      exact (h b).1 hrb ▸ hxb
    · exact List.any_eq_true.2 ⟨a, mem_axes a, Bool.and_eq_true_iff.2 ⟨hx, (h a).2 rfl⟩⟩
  rw [rivals, List.head?_filter, State.claimant]
  exact congrArg (List.find? · s.motion.records) (funext hp)

/-- R28 checks 1 to 5, in their order. -/
theorem conditionRefusal_eq (s : State) :
    (s.store.mode ≠ .run → conditionRefusal s = some .starting)
      ∧ (s.store.mode = .run → s.store.commit ≠ .idle → conditionRefusal s = some .profileBusy)
      ∧ (s.store.mode = .run → s.store.commit = .idle →
        (s.pins.holdoff = true → conditionRefusal s = some .holdoff)
          ∧ (s.pins.holdoff = false → s.motion.estop = true → conditionRefusal s = some .estopActive)
          ∧ (s.pins.holdoff = false → s.motion.estop = false → s.motion.supply = .cut →
            conditionRefusal s = some .supplyLow)
          ∧ (s.pins.holdoff = false → s.motion.estop = false → s.motion.supply = .normal →
            conditionRefusal s = none)) := by
  refine ⟨fun hm => if_pos hm, fun hm hc => ?_, fun hm hc => ⟨fun hh => ?_, fun hh he => ?_, fun hh he hs => ?_, fun hh he hs => ?_⟩⟩
    <;> simp [conditionRefusal, *]

theorem judgeFormed_condition {s : State} {e : Status} (h : conditionRefusal s = some e) (rq : Request) (f : Formed) :
    judgeFormed s rq f = .refuse e := by
  rw [judgeFormed, h]

/-- R28 checks 11 and 12. -/
theorem lastChecks_eq (s : State) (f : Formed) (j : Judgement) :
    (firstInterlocks s f = false → lastChecks s f j = .refuse .interlock)
      ∧ (firstInterlocks s f = true → firstBlocked s f = true → lastChecks s f j = .refuse .envelope)
      ∧ (firstInterlocks s f = true → firstBlocked s f = false → lastChecks s f j = j) := by
  refine ⟨fun hi => ?_, fun hi hb => ?_, fun hi hb => ?_⟩
  · simp [lastChecks, hi]
  · simp [lastChecks, hi, hb]
  · simp [lastChecks, hi, hb]

/-- R28 checks 10 to 12: by the record that claims an axis first, if one does. -/
def claimChecks (s : State) (f : Formed) : Judgement :=
  match rivals s f.record with
  | [] => lastChecks s f (.accept f.record)
  | x :: _ => if amendable x f.record then lastChecks s f (.amend x f.record) else .refuse .committed

section Checks

variable {s : State} {rq : Request} {f : Formed} (hready : conditionRefusal s = none)

include hready

/-- R28 check 6. -/
theorem judgeFormed_notPermitted (h : ∃ a, f.record.claims a = true ∧ permittedOn s f.record a = false) :
    judgeFormed s rq f = .refuse .notPermitted := by
  obtain ⟨a, ha, hp⟩ := h
  have hno : permitted s f.record = false :=
    Bool.eq_false_iff.2 fun hall => Bool.false_ne_true (hp.symm.trans (permitted_iff.1 hall a ha))
  rw [judgeFormed, hready]
  exact if_pos (congrArg (!·) hno)

variable (hperm : ∀ a, f.record.claims a = true → permittedOn s f.record a = true)

include hperm

/-- R28 check 7. -/
theorem judgeFormed_faulted (h : ∃ a, f.record.claims a = true ∧ s.faulted a = true) :
    judgeFormed s rq f = .refuse .faulted := by
  obtain ⟨a, ha, hf⟩ := h
  have hany : (axes.any fun a => f.record.claims a && s.faulted a) = true :=
    List.any_eq_true.2 ⟨a, mem_axes a, Bool.and_eq_true_iff.2 ⟨ha, hf⟩⟩
  simp [judgeFormed, hready, permitted_iff.2 hperm, hany]

variable (hsound : ∀ a, f.record.claims a = true → s.faulted a = false)

include hsound

/-- R28 checks 8 to 10, where those before them pass. -/
theorem judgeFormed_unfaulted : judgeFormed s rq f =
    if tagHeld s rq then .refuse .dupTag
    else if (rivals s f.record).any (fun x => !sameOwner x f.record) then .refuse .owned
    else claimChecks s f := by
  have hnone : (axes.any fun a => f.record.claims a && s.faulted a) = false :=
    List.any_eq_false.2 fun a _ h => by
      obtain ⟨ha, hf⟩ := Bool.and_eq_true_iff.1 h
      exact Bool.false_ne_true ((hsound a ha).symm.trans hf)
  rw [judgeFormed, hready]
  simp only [permitted_iff.2 hperm, hnone, Bool.not_true, Bool.false_eq_true, if_false]
  rfl

/-- R28 check 8. -/
theorem judgeFormed_dupTag (h : tagHeld s rq = true) : judgeFormed s rq f = .refuse .dupTag := by
  rw [judgeFormed_unfaulted hready hperm hsound, if_pos h]

variable (hfree : tagHeld s rq = false)

include hfree

/-- R28 check 9. -/
theorem judgeFormed_owned
    (h : ∃ x ∈ s.motion.records, (∃ a, f.record.claims a = true ∧ x.claims a = true) ∧ x.station ≠ f.record.station) :
    judgeFormed s rq f = .refuse .owned := by
  obtain ⟨x, hx, hcl, hst⟩ := h
  have hany : (rivals s f.record).any (fun x => !sameOwner x f.record) = true :=
    List.any_eq_true.2 ⟨x, mem_rivals.2 ⟨hx, hcl⟩, by simpa [sameOwner] using hst⟩
  rw [judgeFormed_unfaulted hready hperm hsound, hfree, hany]
  rfl

variable (hown : ∀ x ∈ s.motion.records, (∃ a, f.record.claims a = true ∧ x.claims a = true) → x.station = f.record.station)

include hown

/-- R28 check 10, and what follows where it passes. -/
theorem judgeFormed_unowned : judgeFormed s rq f =
    match (rivals s f.record).head? with
    | none => lastChecks s f (.accept f.record)
    | some x => if amendable x f.record then lastChecks s f (.amend x f.record) else .refuse .committed := by
  have hnone : (rivals s f.record).any (fun x => !sameOwner x f.record) = false :=
    List.any_eq_false.2 fun x hx => by
      obtain ⟨hx, hcl⟩ := mem_rivals.1 hx
      simp [sameOwner, hown x hx hcl]
  rw [judgeFormed_unfaulted hready hperm hsound, hfree, hnone]
  change claimChecks s f = _
  rw [claimChecks]
  cases rivals s f.record <;> rfl

end Checks

end Sys2Proof.Machine

namespace Sys2Proof.Machine

/-! ### What a CAB motion request is refused with (R28, R187) -/

/-- A CAB request, as the Host Link hands it on (R187). -/
def cabRequest (tag : Byte) (d : Demand) : Request :=
  { tag := some tag.toNat, source := .cab, station := none, demand := d }

theorem tagHeld_cabRequest (s : State) (tag : Byte) (d : Demand) :
    tagHeld s (cabRequest tag d) = (s.find tag.toNat).isSome := rfl

/-! The judgement of a MOVE or a JOG. -/

/-- The record of a MOVE or a JOG claims its axis only. -/
theorem claims_iff_of_unsequenced {r : Record} (h : r.seq = none) (b : Axis) : r.claims b = true ↔ b = r.axis := by
  rw [Record.claims, h]
  exact decide_eq_true_iff.trans eq_comm

/-- R28 checks 6 to 12 for a first motion that is the whole request. -/
theorem judgeFormed_oneMotion {s : State} {tag : Byte} {d : Demand} {f : Formed} {a : Axis} {allowed : Bool}
    {amends : Record → Prop} (hready : conditionRefusal s = none) (hseq : f.record.seq = none) (haxis : f.record.axis = a)
    (hstation : f.record.station = none) (hformable : f.formable = true) (hallowed : permittedOn s f.record a = allowed)
    (hamends : ∀ x, amendable x f.record = true ↔ amends x) :
    let rq := cabRequest tag d
    let r := f.record
    let judged (e : Status) : Prop := judgeFormed s rq f = .refuse e
    (allowed = false → judged .notPermitted)
      ∧ (allowed = true → s.faulted a = true → judged .faulted)
      ∧ (allowed = true → s.faulted a = false →
        ((s.find tag.toNat).isSome = true → judged .dupTag)
          ∧ (s.find tag.toNat = none →
            ((∃ x ∈ s.motion.records, x.claims a = true ∧ x.station.isSome = true) → judged .owned)
              ∧ ((∀ x ∈ s.motion.records, x.claims a = true → x.station = none) →
                (∀ x ∈ s.claimant a, ¬amends x → judged .committed)
                  ∧ ((∀ x ∈ s.claimant a, amends x) →
                    (interlocks s a r.dir r.source = false → judged .interlock)
                      ∧ (interlocks s a r.dir r.source = true → envelopeBlocked s a r.dir = true → judged .envelope)
                      ∧ (interlocks s a r.dir r.source = true → envelopeBlocked s a r.dir = false →
                        (s.claimant a = none → ∃ x, judgeFormed s rq f = .accept x ∧ x.axis = a ∧ x.dir = r.dir)
                          ∧ ∀ x ∈ s.claimant a, ∃ y, judgeFormed s rq f = .amend x y ∧ y.axis = a ∧ y.dir = r.dir))))) := by
  intro rq r judged
  have hcl (b : Axis) : r.claims b = true ↔ b = a := haxis ▸ claims_iff_of_unsequenced hseq b
  have hself : r.claims a = true := (hcl a).2 rfl
  have honly {p : Axis → Prop} (h : p a) (b : Axis) (hb : r.claims b = true) : p b := (hcl b).1 hb ▸ h
  refine ⟨fun hno => judgeFormed_notPermitted hready ⟨a, hself, hallowed.trans hno⟩, fun hal hfault => ?_, fun hal hsound => ?_⟩
  · exact judgeFormed_faulted hready (honly (hallowed.trans hal)) ⟨a, hself, hfault⟩
  have hperm := honly (p := fun b => permittedOn s r b = true) (hallowed.trans hal)
  have hsound' := honly (p := fun b => s.faulted b = false) hsound
  refine ⟨fun hdup => judgeFormed_dupTag hready hperm hsound' hdup, fun hfind => ?_⟩
  have hfree : tagHeld s rq = false := by rw [tagHeld_cabRequest, hfind]; rfl
  refine ⟨?_, fun hown => ?_⟩
  · rintro ⟨x, hx, hxa, hst⟩
    refine judgeFormed_owned hready hperm hsound' hfree ⟨x, hx, ⟨a, hself, hxa⟩, fun heq => ?_⟩
    rw [heq, hstation] at hst
    cases hst
  have hjudged := judgeFormed_unowned (rq := rq) hready hperm hsound' hfree fun x hx ⟨b, hb, hxb⟩ =>
    (hown x hx ((hcl b).1 hb ▸ hxb)).trans hstation.symm
  rw [rivals_head? hcl] at hjudged
  refine ⟨fun x hx hno => ?_, fun ham => ?_⟩
  · rw [Option.mem_def.1 hx] at hjudged
    exact hjudged.trans (if_neg fun h => hno ((hamends x).1 h))
  have hlast : (s.claimant a = none → judgeFormed s rq f = lastChecks s f (.accept r))
      ∧ ∀ x ∈ s.claimant a, judgeFormed s rq f = lastChecks s f (.amend x r) := by
    refine ⟨fun hnone => by rw [hjudged, hnone], fun x hx => ?_⟩
    rw [Option.mem_def.1 hx] at hjudged
    exact hjudged.trans (if_pos ((hamends x).2 (ham x hx)))
  have hany : ∃ j, judgeFormed s rq f = lastChecks s f j := by
    cases hc : s.claimant a with
    | none => exact ⟨_, hlast.1 hc⟩
    | some x => exact ⟨_, hlast.2 x hc⟩
  obtain ⟨j, hj⟩ := hany
  have hfirst : firstInterlocks s f = interlocks s a r.dir r.source := by
    rw [firstInterlocks, if_pos hformable, haxis]
  have hblocked : firstBlocked s f = envelopeBlocked s a r.dir := by
    rw [firstBlocked, hformable, haxis, Bool.true_and]
  refine ⟨fun hi => ?_, fun hi hb => ?_, fun hi hb => ?_⟩
  · exact hj.trans ((lastChecks_eq s f j).1 (hfirst.trans hi))
  · exact hj.trans ((lastChecks_eq s f j).2.1 (hfirst.trans hi) (hblocked.trans hb))
  · have hpass (j' : Judgement) : lastChecks s f j' = j' :=
      (lastChecks_eq s f j').2.2 (hfirst.trans hi) (hblocked.trans hb)
    exact ⟨fun hnone => ⟨r, (hlast.1 hnone).trans (hpass _), haxis, rfl⟩,
      fun x hx => ⟨r, (hlast.2 x hx).trans (hpass _), haxis, rfl⟩⟩

/-! The judgement of a SEQUENCE. -/

/-- R100, R101: the record of a SEQUENCE whose first step has been formed, or cannot be. -/
structure FirstStep (s : State) (rq : Request) (n : Nat) (held : Bool) (first : Step) (f : Formed) : Prop where
  kind : f.record.kind = .sequence
  held : f.record.held = held
  station : f.record.station = rq.station
  source : f.record.source = rq.source
  axis : f.record.axis = first.axis
  seq : f.record.seq = some { seqFields n (stepsOf s n) with formed := f.formable }
  unformable : requestedTarget s first = none → f.formable = false
  formed : ∀ v ∈ requestedTarget s first,
    f.formable = true ∧ f.record.dir = stepDir s first.axis (travelClamp s first.axis v) .inc

theorem formSequence_firstStep {s : State} {n : Nat} {first : Step} {rest : List Step} (h : stepsOf s n = first :: rest)
    (rq : Request) (held : Bool) : FirstStep s rq n held first (formSequence s rq n held first) := by
  have hstep : (stepsOf s n)[0]? = some first := by rw [h]; rfl
  have hform (r0 : Record) : formStep s r0 (seqFields n (stepsOf s n)) =
      (requestedTarget s first).map (formWith s r0 (seqFields n (stepsOf s n)) first) := by
    rw [formStep]
    exact congrArg (fun o : Option Step => match o with
      | none => none
      | some st => (requestedTarget s st).map (formWith s r0 (seqFields n (stepsOf s n)) st)) hstep
  rw [formSequence]
  dsimp only
  rw [hform]
  cases hreq : requestedTarget s first with
  | none => exact ⟨rfl, rfl, rfl, rfl, rfl, rfl, fun _ => rfl, fun v hv => nomatch hreq.symm.trans hv⟩
  | some v =>
      refine ⟨rfl, rfl, rfl, rfl, rfl, rfl, fun hnone => (nomatch hreq.symm.trans hnone), fun w hw => ?_⟩
      cases hreq.symm.trans hw
      exact ⟨rfl, rfl⟩

theorem seqFields_claims (n : Nat) (steps : List Step) (a : Axis) :
    (seqFields n steps).claimed.get a = true ↔ ∃ st ∈ steps, st.axis = a := by
  rw [seqFields, PerAxis.get_ofFn, List.any_eq_true]
  exact exists_congr fun st => and_congr_right fun _ => beq_iff_eq

theorem FirstStep.claims_iff {s : State} {rq : Request} {n : Nat} {held : Bool} {first : Step} {f : Formed}
    (h : FirstStep s rq n held first f) (a : Axis) : f.record.claims a = true ↔ ∃ st ∈ stepsOf s n, st.axis = a := by
  rw [claims_of_seq h.seq]
  exact seqFields_claims n (stepsOf s n) a

/-- R28 checks 11 and 12, R101: by the first motion, or in both directions and by no limit where it cannot be formed. -/
theorem FirstStep.lastChecks {s : State} {tag : Byte} {n : Nat} {held : Bool} {first : Step} {f : Formed}
    (h : FirstStep s (cabRequest tag (.sequence n held)) n held first f) :
    let free (dir : Dir) : Bool := interlocks s first.axis dir .cab
    let judgement := lastChecks s f (.accept f.record)
    (requestedTarget s first = none →
      (free .inc = false ∨ free .dec = false → judgement = .refuse .interlock)
        ∧ (free .inc = true → free .dec = true → ∃ r, judgement = .accept r ∧ r.axis = first.axis))
      ∧ ∀ v ∈ requestedTarget s first,
        let dir := stepDir s first.axis (travelClamp s first.axis v) .inc
        (free dir = false → judgement = .refuse .interlock)
          ∧ (free dir = true → envelopeBlocked s first.axis dir = true → judgement = .refuse .envelope)
          ∧ (free dir = true → envelopeBlocked s first.axis dir = false →
            ∃ r, judgement = .accept r ∧ r.axis = first.axis ∧ r.dir = dir) := by
  intro free judgement
  obtain ⟨hinter, henv, hpass⟩ := lastChecks_eq s f (.accept f.record)
  have hsource : f.record.source = .cab := h.source
  refine ⟨fun hnone => ?_, fun v hv => ?_⟩
  · have hformable := h.unformable hnone
    have hfirst : firstInterlocks s f = (free .inc && free .dec) := by
      rw [firstInterlocks, hformable, h.axis, hsource]
      rfl
    have hblocked : firstBlocked s f = false := by rw [firstBlocked, hformable, Bool.false_and]
    refine ⟨fun hno => hinter (hfirst.trans (Bool.and_eq_false_iff.2 hno)), fun hi hd => ?_⟩
    exact ⟨f.record, hpass (hfirst.trans (Bool.and_eq_true_iff.2 ⟨hi, hd⟩)) hblocked, h.axis⟩
  · obtain ⟨hformable, hdir⟩ := h.formed v hv
    intro dir
    have hfirst : firstInterlocks s f = free dir := by
      rw [firstInterlocks, if_pos hformable, h.axis, hsource, hdir]
    have hblocked : firstBlocked s f = envelopeBlocked s first.axis dir := by
      rw [firstBlocked, hformable, h.axis, hdir, Bool.true_and]
    refine ⟨fun hi => hinter (hfirst.trans hi), fun hi hb => henv (hfirst.trans hi) (hblocked.trans hb), fun hi hb => ?_⟩
    exact ⟨f.record, hpass (hfirst.trans hi) (hblocked.trans hb), h.axis, hdir⟩

/-- R28 checks 6 to 12, R101: a SEQUENCE is judged on the axes of all its steps, and by its first motion. -/
theorem judgeFormed_sequence {s : State} {tag : Byte} {n : Nat} {held : Bool} {first : Step} {f : Formed}
    (hready : conditionRefusal s = none) (hf : FirstStep s (cabRequest tag (.sequence n held)) n held first f) :
    let rq := cabRequest tag (.sequence n held)
    let judged (e : Status) : Prop := judgeFormed s rq f = .refuse e
    let on (a : Axis) : Prop := ∃ st ∈ stepsOf s n, st.axis = a
    let allowed (a : Axis) : Bool := if held then mayHold s .cab a else mayTarget s .cab a
    ((∃ a, on a ∧ allowed a = false) → judged .notPermitted)
      ∧ ((∀ a, on a → allowed a = true) →
        ((∃ a, on a ∧ s.faulted a = true) → judged .faulted)
          ∧ ((∀ a, on a → s.faulted a = false) →
            ((s.find tag.toNat).isSome = true → judged .dupTag)
              ∧ (s.find tag.toNat = none →
                ((∃ x ∈ s.motion.records, (∃ a, on a ∧ x.claims a = true) ∧ x.station.isSome = true) → judged .owned)
                  ∧ ((∀ x ∈ s.motion.records, (∃ a, on a ∧ x.claims a = true) → x.station = none) →
                    ((∃ x ∈ s.motion.records, ∃ a, on a ∧ x.claims a = true) → judged .committed)
                      ∧ ((∀ x ∈ s.motion.records, ∀ a, on a → x.claims a = false) →
                        judgeFormed s rq f = lastChecks s f (.accept f.record)))))) := by
  intro rq judged on allowed
  have hon (a : Axis) : f.record.claims a = true ↔ on a := hf.claims_iff a
  have hallowed (a : Axis) : permittedOn s f.record a = allowed a := by
    rw [permittedOn, hf.kind, hf.held, hf.source]
    rfl
  have hmeets (x : Record) : (∃ a, f.record.claims a = true ∧ x.claims a = true) ↔ ∃ a, on a ∧ x.claims a = true :=
    exists_congr fun a => and_congr_left fun _ => hon a
  refine ⟨fun ⟨a, ha, hno⟩ => judgeFormed_notPermitted hready ⟨a, (hon a).2 ha, (hallowed a).trans hno⟩, fun hal => ?_⟩
  have hperm (a : Axis) (ha : f.record.claims a = true) : permittedOn s f.record a = true :=
    (hallowed a).trans (hal a ((hon a).1 ha))
  refine ⟨fun ⟨a, ha, hfault⟩ => judgeFormed_faulted hready hperm ⟨a, (hon a).2 ha, hfault⟩, fun hsound => ?_⟩
  have hsound' (a : Axis) (ha : f.record.claims a = true) : s.faulted a = false := hsound a ((hon a).1 ha)
  refine ⟨fun hdup => judgeFormed_dupTag hready hperm hsound' hdup, fun hfind => ?_⟩
  have hfree : tagHeld s rq = false := by rw [tagHeld_cabRequest, hfind]; rfl
  refine ⟨?_, fun hown => ?_⟩
  · rintro ⟨x, hx, hxa, hst⟩
    refine judgeFormed_owned hready hperm hsound' hfree ⟨x, hx, (hmeets x).2 hxa, fun heq => ?_⟩
    rw [heq, hf.station] at hst
    cases hst
  have hjudged := judgeFormed_unowned (rq := rq) hready hperm hsound' hfree fun x hx hxa =>
    (hown x hx ((hmeets x).1 hxa)).trans hf.station.symm
  refine ⟨?_, fun hapart => ?_⟩
  · rintro ⟨x, hx, hxa⟩
    obtain ⟨y, l, hl⟩ := List.exists_cons_of_ne_nil (List.ne_nil_of_mem (mem_rivals.2 ⟨hx, (hmeets x).2 hxa⟩))
    rw [hl] at hjudged
    refine hjudged.trans (if_neg ?_)
    rw [amendable, hf.kind]
    simp
  have hnil : rivals s f.record = [] := List.eq_nil_iff_forall_not_mem.2 fun x hx => by
    obtain ⟨hxr, hmeet⟩ := mem_rivals.1 hx
    obtain ⟨a, ha, hxa⟩ := (hmeets x).1 hmeet
    exact Bool.false_ne_true ((hapart x hxr a ha).symm.trans hxa)
  rw [hnil] at hjudged
  exact hjudged

/-! The three requests. -/

theorem hostTag_iff (tag : Byte) : hostTag tag = true ↔ ¬(tag = 0 ∨ 199 < tag.toNat) := by
  have hzero : tag = 0 ↔ tag.toNat = 0 := ⟨fun h => h ▸ rfl, fun h => BitVec.eq_of_toNat_eq h⟩
  rw [hostTag, Bool.and_eq_true, decide_eq_true_iff, decide_eq_true_iff, hzero]
  omega

theorem hostTag_eq_false {tag : Byte} (h : tag = 0 ∨ 199 < tag.toNat) : hostTag tag = false :=
  Bool.eq_false_iff.2 fun ht => (hostTag_iff tag).1 ht h

section Requests

variable {s : State} (h : s.Hears)

include h

theorem exec_move (tag axis speed : Byte) (target : Half) :
    exec (.move tag axis target speed) s = .next (doMove tag axis target speed (countGood s)) :=
  congrArg Host.Outcome.next (goodFrame_heard (doMove tag axis target speed) h.1 h.2)

theorem exec_jog (tag axis dir speed : Byte) :
    exec (.jog tag axis dir speed) s = .next (doJog tag axis dir speed (countGood s)) :=
  congrArg Host.Outcome.next (goodFrame_heard (doJog tag axis dir speed) h.1 h.2)

theorem exec_runSequence (tag seq held : Byte) :
    exec (.runSequence tag seq held) s = .next (doRunSequence tag seq held (countGood s)) :=
  congrArg Host.Outcome.next (goodFrame_heard (doRunSequence tag seq held) h.1 h.2)

end Requests

/-- A refused request is answered with its status and does nothing else. -/
theorem doMotion_refused {s : State} {kind tag : Byte} {d : Demand} {e : Status}
    (h : judgeRequest s (cabRequest tag d) = .refuse e) : doMotion kind tag d (countGood s) = s.answered ⟨kind, tag, e, []⟩ := by
  have h' : judgeRequest (countGood s) (cabRequest tag d) = .refuse e := h
  have hd : doMotion kind tag d (countGood s) = match judgeRequest (countGood s) (cabRequest tag d) with
      | .refuse st => answer kind tag st (countGood s)
      | .accept r => settle (acceptRecord r (pushReply ⟨kind, tag, .ok, motionContent kind r⟩ (countGood s)))
      | .amend old r =>
          settle (amendRecord old r (pushReply ⟨kind, tag, .amended, motionContent kind r⟩ (countGood s))) := rfl
  rw [hd, h']
  rfl

theorem doMove_wellFormed {s : State} {tag axis speed : Byte} {target : Half} {a : Axis} {sp : Speed}
    (ht : hostTag tag = true) (ha : axisOf axis.toNat = some a) (hs : speedOf speed.toNat = some sp) :
    doMove tag axis target speed s = doMotion 0x04 tag (.move a target.toInt sp) s := by
  rw [doMove, ht, ha, hs]

theorem doJog_wellFormed {s : State} {tag axis dir speed : Byte} {a : Axis} {d : Dir} {sp : Speed}
    (ht : hostTag tag = true) (ha : axisOf axis.toNat = some a) (hd : dirOf dir.toNat = some d)
    (hs : speedOf speed.toNat = some sp) : doJog tag axis dir speed s = doMotion 0x05 tag (.jog a d sp) s := by
  rw [doJog, ht, ha, hd, hs]

theorem doRunSequence_wellFormed {s : State} {tag seq held : Byte} (ht : hostTag tag = true) (hlow : 1 ≤ seq.toNat)
    (hhigh : seq.toNat ≤ 6) (hh : held.toNat ≤ 1) :
    doRunSequence tag seq held s = doMotion 0x07 tag (.sequence seq.toNat (held = 1)) s := by
  rw [doRunSequence, ht, decide_eq_true hlow, decide_eq_true hhigh, decide_eq_true hh]
  rfl

theorem doMove_malformed {s : State} {tag axis speed : Byte} {target : Half}
    (h : (tag = 0 ∨ 199 < tag.toNat) ∨ axisOf axis.toNat = none ∨ speedOf speed.toNat = none) :
    doMove tag axis target speed s = answer 0x04 tag .badField s := by
  unfold doMove
  split
  · next ht ha hs =>
    rcases h with h | h | h
    · exact absurd h ((hostTag_iff tag).1 ht)
    · exact nomatch h.symm.trans ha
    · exact nomatch h.symm.trans hs
  · rfl

theorem doJog_malformed {s : State} {tag axis dir speed : Byte}
    (h : (tag = 0 ∨ 199 < tag.toNat) ∨ axisOf axis.toNat = none ∨ dirOf dir.toNat = none ∨ speedOf speed.toNat = none) :
    doJog tag axis dir speed s = answer 0x05 tag .badField s := by
  unfold doJog
  split
  · next ht ha hd hs =>
    rcases h with h | h | h | h
    · exact absurd h ((hostTag_iff tag).1 ht)
    · exact nomatch h.symm.trans ha
    · exact nomatch h.symm.trans hd
    · exact nomatch h.symm.trans hs
  · rfl

theorem doRunSequence_malformed {s : State} {tag seq held : Byte}
    (h : (tag = 0 ∨ 199 < tag.toNat) ∨ seq = 0 ∨ 6 < seq.toNat ∨ 1 < held.toNat) :
    doRunSequence tag seq held s = answer 0x07 tag .badField s := by
  refine if_neg fun hall => ?_
  simp only [Bool.and_eq_true, decide_eq_true_iff] at hall
  obtain ⟨⟨⟨ht, hlow⟩, hhigh⟩, hheld⟩ := hall
  rcases h with h | rfl | h | h
  · exact absurd h ((hostTag_iff tag).1 ht)
  · exact absurd hlow (by decide)
  · omega
  · omega

/-- R28: every request but one for a sequence with no steps forms a record, and its checks begin with the conditions. -/
theorem judgeRequest_condition {s : State} {d : Demand} {e : Status} (hd : ∀ n held, d = .sequence n held → stepsOf s n ≠ [])
    (hc : conditionRefusal s = some e) (tag : Byte) : judgeRequest s (cabRequest tag d) = .refuse e := by
  have hform : ∃ f, formRequest s (cabRequest tag d) = some f := by
    cases d with
    | move a target sp => exact ⟨_, rfl⟩
    | jog a dir sp => exact ⟨_, rfl⟩
    | sequence n held =>
        obtain ⟨first, rest, hsteps⟩ := List.exists_cons_of_ne_nil (hd n held rfl)
        refine ⟨formSequence s (cabRequest tag (.sequence n held)) n held first, ?_⟩
        rw [formRequest]
        dsimp only [cabRequest]
        rw [hsteps]
  obtain ⟨f, hf⟩ := hform
  rw [judgeRequest, hf]
  exact judgeFormed_condition hc _ f

theorem judgeRequest_sequence {s : State} {n : Nat} {first : Step} {rest : List Step} (hsteps : stepsOf s n = first :: rest)
    (tag : Byte) (held : Bool) :
    let rq := cabRequest tag (.sequence n held)
    judgeRequest s rq = judgeFormed s rq (formSequence s rq n held first) := by
  intro rq
  rw [judgeRequest, formRequest]
  dsimp only [rq, cabRequest]
  rw [hsteps]

theorem conditionRefusal_ready {s : State} (h : s.store.mode = .run ∧ s.store.commit = .idle ∧ s.pins.holdoff = false
    ∧ s.motion.estop = false ∧ s.motion.supply = .normal) : conditionRefusal s = none := by
  obtain ⟨hmode, hcommit, hholdoff, hestop, hsupply⟩ := h
  exact ((conditionRefusal_eq s).2.2 hmode hcommit).2.2.2 hholdoff hestop hsupply

/-- Settles O56: by the checks one after another, on the one axis of a MOVE or a JOG and on the axes of a SEQUENCE. -/
theorem motionRequestsAreJudged : Obligations.MotionRequestsAreJudged := by
  unfold Obligations.MotionRequestsAreJudged
  intro s tag hears cab judged badTag ready
  have hok (h : ¬badTag) : hostTag tag = true := (hostTag_iff tag).2 h
  refine ⟨fun axis speed target => ⟨fun hbad => ?_, fun a sp e ht ha hs hj => ?_⟩,
    fun axis dir speed => ⟨fun hbad => ?_, fun a d sp e ht ha hd hs hj => ?_⟩,
    fun seq held => ⟨fun hbad => ?_, fun e ht hlow hhigh hh hj => ?_⟩, fun n held hnil => ?_, fun d hd => ?_,
    fun a d sp dir hready hcase => ?_, fun n held first rest hready hsteps => ?_⟩
  · rw [exec_move hears, doMove_malformed hbad]
    rfl
  · rw [exec_move hears, doMove_wellFormed (hok ht) ha hs, doMotion_refused hj]
  · rw [exec_jog hears, doJog_malformed hbad]
    rfl
  · rw [exec_jog hears, doJog_wellFormed (hok ht) ha hd hs, doMotion_refused hj]
  · rw [exec_runSequence hears, doRunSequence_malformed hbad]
    rfl
  · rw [exec_runSequence hears, doRunSequence_wellFormed (hok ht) hlow hhigh hh, doMotion_refused hj]
  · show judgeRequest s (cab (.sequence n held)) = .refuse .badField
    rw [judgeRequest, formRequest]
    dsimp only [cab]
    rw [hnil]
  · obtain ⟨hmode, hcommit, hrest⟩ := conditionRefusal_eq s
    refine ⟨fun hm => judgeRequest_condition hd (hmode hm) tag, fun hm hc => judgeRequest_condition hd (hcommit hm hc) tag,
      fun hm hc => ?_⟩
    obtain ⟨hholdoff, hestop, hsupply, -⟩ := hrest hm hc
    exact ⟨fun hh => judgeRequest_condition hd (hholdoff hh) tag, fun hh he => judgeRequest_condition hd (hestop hh he) tag,
      fun hh he hs => judgeRequest_condition hd (hsupply hh he hs) tag⟩
  · rcases hcase with ⟨target, rfl, rfl⟩ | rfl
    · exact judgeFormed_oneMotion (f :=
          ⟨(blankRecord s (cab (.move a target sp)) .move a (moveDir s a target) sp false).withTarget s target, true⟩)
        (conditionRefusal_ready hready) rfl rfl rfl rfl rfl fun x => by simp [amendable, Record.withTarget, blankRecord]
    · exact judgeFormed_oneMotion (f :=
          ⟨(blankRecord s (cab (.jog a dir sp)) .jog a dir sp true).withTarget s (travelEnd s a dir), true⟩)
        (conditionRefusal_ready hready) rfl rfl rfl rfl (if_pos rfl).symm fun x => by
          simp [amendable, Record.withTarget, blankRecord]
  · intro d on allowed free
    have hf := formSequence_firstStep hsteps (cab d) held
    have hjudge : judgeRequest s (cab d) = judgeFormed s (cab d) (formSequence s (cab d) n held first) :=
      judgeRequest_sequence hsteps tag held
    obtain ⟨hperm, hafter⟩ := judgeFormed_sequence (tag := tag) (conditionRefusal_ready hready) hf
    refine ⟨fun h => hjudge.trans (hperm h), fun hal => ?_⟩
    obtain ⟨hfault, hafter⟩ := hafter hal
    refine ⟨fun h => hjudge.trans (hfault h), fun hsound => ?_⟩
    obtain ⟨hdup, hafter⟩ := hafter hsound
    refine ⟨fun h => hjudge.trans (hdup h), fun hfind => ?_⟩
    obtain ⟨howned, hafter⟩ := hafter hfind
    refine ⟨fun h => hjudge.trans (howned h), fun hown => ?_⟩
    obtain ⟨hcommitted, hafter⟩ := hafter hown
    refine ⟨fun h => hjudge.trans (hcommitted h), fun hapart => ?_⟩
    have hlast := hf.lastChecks (tag := tag)
    rw [← hjudge.trans (hafter hapart)] at hlast
    exact hlast

end Sys2Proof.Machine

namespace Sys2Proof.Machine

/-! ### What a change under one tag leaves of the records of another

A grant attempt changes records that wait, and the sequence steps that it finds complete. -/

/-- t comes from s by changes that rewrite no record of the tag. -/
def Spares (tag : Nat) (s t : State) : Prop := ∀ x ∈ t.motion.records, x.tag = tag → x ∈ s.motion.records

namespace Spares

variable {tag other : Nat}

theorem trans {s t u : State} (h : Spares tag s t) (k : Spares tag t u) : Spares tag s u :=
  fun x hx ht => h x (k x hx ht) ht

theorem aside {s t : State} (hm : t.motion.records = s.motion.records) : Spares tag s t := fun _ hx _ => hm ▸ hx

theorem refl (s : State) : Spares tag s s := aside rfl

theorem ite {p : Prop} [Decidable p] {s t u : State} (ht : Spares tag s t) (hu : Spares tag s u) :
    Spares tag s (if p then t else u) := by
  split
  · exact ht
  · exact hu

theorem foldl {α : Type} {f : State → α → State} :
    ∀ (l : List α) (s : State), (∀ a ∈ l, ∀ u, Spares tag u (f u a)) → Spares tag s (l.foldl f s)
  | [], s, _ => refl s
  | a :: l, s, h => (h a List.mem_cons_self s).trans (foldl l (f s a) fun b hb => h b (List.mem_cons_of_mem a hb))

theorem endRecord (other : Nat) (res : Result) (s : State) : Spares tag s (endRecord other res s) :=
  fun _ hx _ => (mem_endRecord hx).1

theorem leaveMotion (r : Record) (s : State) : Spares tag s (leaveMotion r s) :=
  aside (congrArg Motion.records (leaveMotion_motion r s))

section Other

variable (ho : other ≠ tag)

include ho

theorem onRecord (s : State) {f : Record → Record} (hf : ∀ r, r.tag = other → (f r).tag = other) :
    Spares tag s (s.onRecord other f) := fun x hx ht => by
  obtain ⟨y, -, hy, rfl⟩ | ⟨hx, -⟩ := mem_onRecord hx
  · exact absurd ((hf y hy).symm.trans ht) ho
  · exact hx

theorem startRecord {r : Record} (hr : r.tag = other) (reversal : Bool) (s : State) :
    Spares tag s (startRecord r reversal s) := by
  subst hr
  have hvalve (u : State) : Spares tag u (match valveOf r.axis r.dir with
      | some v => Machine.stageOut r.tag 1000 true u v
      | none => u) := by
    split
    · exact aside rfl
    · exact refl u
  have hsync (u : State) : Spares tag u (synchronise r.axis u) := aside rfl
  unfold Machine.startRecord
  exact (onRecord ho s (by exact fun _ h => h)).trans <|
    (foldl (f := claimOut r.tag) _ _ fun _ _ _ => aside rfl).trans <|
    (foldl (f := stageOut r.tag 0 false) _ _ fun _ _ _ => aside rfl).trans <| (hvalve _).trans (hsync _)

theorem enterStarting {r : Record} (hr : r.tag = other) (s : State) : Spares tag s (enterStarting r s) := by
  have hstop (u : State) : Spares tag u (immediateStop r u) :=
    (foldl (f := forceImmediate) _ _ fun _ _ _ => aside rfl).trans (onRecord (hr ▸ ho) _ fun _ h => h)
  exact (startRecord ho hr false s).trans (ite ((hstop _).trans (endRecord _ _ _)) (refl _))

theorem beginMotion (s : State) : Spares tag s (beginMotion other s) := by
  unfold Machine.beginMotion
  split
  · exact refl s
  · next r hr =>
    have hmarks : Spares tag s (s.onRecord other (fun r => { formMarks s r with waitReason := none })) :=
      onRecord ho s fun x hx => by
        unfold formMarks
        split <;> exact hx
    have hprewarn (u : State) : Spares tag u (prewarnRequest other r.axis r.dir (s.limits r.axis).prewarn
        (u.onRecord other (fun r => { r with state := .prewarn }))) := (onRecord ho u (by exact fun _ h => h)).trans (aside rfl)
    exact hmarks.trans (ite (hprewarn _) (enterStarting ho (find_tag hr) _))

theorem pauseRecord (s : State) : Spares tag s (pauseRecord other s) := by
  cases hf : s.find other with
  | none =>
      rw [Machine.pauseRecord, hf]
      exact refl s
  | some r =>
      obtain ⟨u, hu, hm, -⟩ := pauseRecord_eq hf
      rw [hu]
      exact (aside (congrArg Motion.records hm)).trans (onRecord ho u fun _ h => h)

theorem stepAdvance (res : Result) (s : State) : Spares tag s (stepAdvance other res s) := by
  unfold Machine.stepAdvance
  split
  · exact refl s
  · next r _ =>
    split
    · exact refl s
    · next q _ =>
      have hbetween : Spares tag s ((Machine.leaveMotion r s).onRecord other (fun r =>
          { r with
            state := .waiting, pendingResult := none, waitReason := none, stall := none, overload := none
            currentSince := none, stripArmed := false
            seq := some { q with limited := q.limited || res == .limited } })) :=
        (leaveMotion r s).trans (onRecord ho _ fun _ h => h)
      exact ite (hbetween.trans (endRecord _ _ _))
        ((hbetween.trans (onRecord ho _ (by exact fun _ h => h))).trans (ite (pauseRecord ho _) (refl _)))

theorem stepStart : ∀ (fuel : Nat) (s : State), Spares tag s (stepStart fuel other s)
  | 0, s => refl s
  | fuel + 1, s => by
      have hpass (res : Result) (u : State) : Spares tag u
          (if between (Machine.stepAdvance other res u) other then
            Machine.stepStart fuel other (Machine.stepAdvance other res u)
          else Machine.stepAdvance other res u) :=
        (stepAdvance ho res u).trans (ite (stepStart fuel _) (refl _))
      unfold Machine.stepStart
      split
      · exact refl s
      · next r hr =>
        split
        · exact refl s
        · split
          · exact endRecord _ _ _
          · next r1 hform =>
            have hformed : Spares tag s (s.onRecord other (fun _ => r1)) :=
              onRecord ho s fun _ _ => (formStep_tag hform).trans (find_tag hr)
            exact hformed.trans <| ite (endRecord _ _ _) <| ite (hpass _ _) <| ite (hpass _ _) <|
              ite (beginMotion ho _) (onRecord ho _ fun _ h => h)

theorem stepEnd (res : Result) (s : State) : Spares tag s (stepEnd other res s) := by
  refine (stepAdvance ho res s).trans ?_
  have howe (u : State) : Spares tag u u.oweAttempt := aside rfl
  unfold Machine.stepEnd
  dsimp only
  split
  · exact refl _
  · exact (ite (stepStart ho _ _) (refl _)).trans (howe _)

end Other

/-- A scan that rewrites no record of the tag, and finds no step of it complete. -/
structure Scanned (tag : Nat) (sc sc' : Scan) : Prop where
  spares : Spares tag sc.state sc'.state
  complete : ∀ p ∈ sc'.complete, p ∈ sc.complete ∨ p.1 ≠ tag

theorem Scanned.of_state {sc sc' : Scan} (h : Spares tag sc.state sc'.state) (hc : sc'.complete = sc.complete) :
    Scanned tag sc sc' := ⟨h, fun _ hp => .inl (hc ▸ hp)⟩

theorem grantRecord {r : Record} (ho : r.tag ≠ tag) (sc : Scan) {s : State} (hs : Spares tag sc.state s) :
    Scanned tag sc (grantRecord r sc s) := by
  have htake : Spares tag s (takeGrant r s) := (onRecord ho s (by exact fun _ h => h)).trans (ite (aside rfl) (refl _))
  unfold Machine.grantRecord
  dsimp only
  split
  · next res _ =>
    split
    · refine ⟨hs.trans htake, fun p hp => ?_⟩
      obtain hp | hp := List.mem_append.1 hp
      · exact .inl hp
      · exact .inr (by rw [List.mem_singleton.1 hp]; exact ho)
    · exact .of_state ((hs.trans htake).trans (endRecord _ _ _)) rfl
  · exact .of_state ((hs.trans htake).trans (beginMotion ho _)) rfl

theorem scanFormed {r : Record} (ho : r.tag ≠ tag) (sc : Scan) {s : State} (hs : Spares tag sc.state s) :
    Scanned tag sc (scanFormed r sc s) := by
  unfold Machine.scanFormed
  split
  · exact .of_state (hs.trans (onRecord ho s fun _ h => h)) rfl
  · split
    · exact .of_state (hs.trans (onRecord ho s fun _ h => h)) rfl
    · split
      · exact .of_state (hs.trans (endRecord _ _ _)) rfl
      · exact grantRecord ho sc hs

/-- R40: the scan passes over a record that does not wait. -/
theorem scanRecord {sc : Scan} (h : ∀ x ∈ sc.state.motion.records, x.tag = tag → x.state ≠ .waiting) (t : Nat) :
    Scanned tag sc (scanRecord sc t) := by
  unfold Machine.scanRecord
  split
  · exact .of_state (refl _) rfl
  · next r hr =>
    split
    · next hwait =>
      have hrt : r.tag = t := find_tag hr
      have ho : r.tag ≠ tag := fun heq => h r (mem_of_find hr) heq hwait
      split
      · exact scanFormed ho sc (refl _)
      · split
        · exact .of_state (endRecord _ _ _) rfl
        · next r1 hform =>
          have hr1 : r1.tag = r.tag := formStep_tag hform
          exact scanFormed (hr1 ▸ ho) sc (onRecord (hrt ▸ ho) _ fun _ _ => hr1.trans hrt)
    · exact .of_state (refl _) rfl

theorem foldl_scanRecord : ∀ (l : List Nat) {sc : Scan},
    (∀ x ∈ sc.state.motion.records, x.tag = tag → x.state ≠ .waiting) → Scanned tag sc (l.foldl Machine.scanRecord sc)
  | [], _, _ => .of_state (refl _) rfl
  | t :: l, sc, h => by
      have h1 := scanRecord h t
      have h2 := foldl_scanRecord l (sc := Machine.scanRecord sc t) fun x hx ht => h x (h1.spares x hx ht) ht
      exact ⟨h1.spares.trans h2.spares, fun p hp => (h2.complete p hp).elim (h1.complete p) .inr⟩

theorem grantAttempt {s : State} (h : ∀ x ∈ s.motion.records, x.tag = tag → x.state ≠ .waiting) :
    Spares tag s (grantAttempt s) := by
  let s0 := s.onMotion (fun m => { m with attemptsDue := m.attemptsDue - 1 })
  have hscan := foldl_scanRecord s0.tags (sc := ⟨s0, false, false, []⟩) h
  refine hscan.spares.trans (foldl (f := fun s (x : Nat × Result) => Machine.stepEnd x.1 x.2 s) _ _ fun p hp u => ?_)
  exact stepEnd ((hscan.complete p hp).resolve_left fun h => nomatch h) p.2 u

theorem attempts : ∀ (fuel : Nat) {s : State}, (∀ x ∈ s.motion.records, x.tag = tag → x.state ≠ .waiting) →
    Spares tag s (attempts fuel s)
  | 0, s, _ => refl s
  | fuel + 1, s, h => by
      have h1 := grantAttempt h
      exact ite (refl s) (h1.trans (attempts fuel fun x hx ht => h x (h1 x hx ht) ht))

/-- R39: the attempts that are owed leave the records of a tag of which none waits. -/
theorem settle {s : State} (h : ∀ x ∈ s.motion.records, x.tag = tag → x.state ≠ .waiting) : Spares tag s (settle s) :=
  attempts _ h

end Spares

end Sys2Proof.Machine

namespace Sys2Proof.Machine

/-! ### The wait, hold and pause timers (R43, R94, R110, R112) -/

section Expiries

variable {s : State} {tag : Nat} {r : Record} (hf : s.find tag = some r)

include hf

theorem exec_waitTimerExpiry (hw : r.state = .waiting) (hh : r.held = false) : exec (.waitTimerExpiry tag) s =
    .next (settle (endRecord tag .expired (s.upTo (r.waitSince + Config.waitLimit)))) := by
  change execWaitTimerExpiry tag s = _
  rw [execWaitTimerExpiry, hf]
  exact if_pos ⟨hw, hh⟩

theorem exec_holdTimerExpiry (hr : r.holdRuns = true) : exec (.holdTimerExpiry tag) s =
    .next (settle (holdStop .holdLapse r (s.upTo (r.lastRefresh + Config.holdLimit)))) := by
  change execHoldTimerExpiry tag s = _
  rw [execHoldTimerExpiry, hf]
  exact if_pos hr

theorem exec_pauseWindowExpiry (hp : r.state = .paused) : exec (.pauseWindowExpiry tag) s =
    .next (settle (endRecord tag .holdLapse (s.upTo (r.pauseSince + Config.pauseLimit)))) := by
  change execPauseWindowExpiry tag s = _
  rw [execPauseWindowExpiry, hf]
  exact if_pos hp

/-- R45: an end by a timer, with the attempts that it owes. -/
theorem endRecord_late (res : Result) (n : Nat) :
    let t := settle (endRecord tag res (s.upTo n))
    Ended r res s t ∧ t.motion.axis = s.motion.axis ∧ Kept s t ∧ t.clock = max s.clock n := by
  have htag := find_tag hf
  subst htag
  have hend : Ended r res (s.upTo n) (endRecord r.tag res (s.upTo n)) := endRecord_ended res hf
  have hchange : ListChange (s.upTo n) (settle (endRecord r.tag res (s.upTo n))) :=
    (ListChange.endRecord r.tag res _).trans (.settle _)
  exact ⟨ListChange.ended hend (.settle _), hchange.axis, hchange.kept, hchange.clock⟩

end Expiries

/-- R93: the hold timer runs for a held record that is neither STOPPING nor PAUSED. -/
theorem holdRuns_of_running {r : Record} (hh : r.held = true)
    (h : r.state = .waiting ∨ r.state = .prewarn ∨ r.state = .starting ∨ r.state = .moving) : r.holdRuns = true := by
  obtain h | h | h | h := h <;> rw [Record.holdRuns, h] <;> exact hh

/-! What a hold lapse leaves under the tag of its record. -/

/-- STOPPING or PAUSED. -/
def Record.Rests (r : Record) : Prop := r.state = .stopping ∨ r.state = .paused

/-- Every record of the tag is STOPPING or PAUSED. -/
abbrev State.RestsAt (s : State) (tag : Nat) : Prop := ∀ x ∈ s.motion.records, x.tag = tag → x.Rests

theorem endRecord_restsAt (tag : Nat) (res : Result) (s : State) : (endRecord tag res s).RestsAt tag :=
  fun _ hx ht => absurd ht (mem_endRecord hx).2

theorem pauseRecord_restsAt (tag : Nat) (s : State) : (pauseRecord tag s).RestsAt tag := by
  intro x hx ht
  cases hf : s.find tag with
  | none =>
      rw [pauseRecord, hf] at hx
      exact absurd (decide_eq_true ht) (List.find?_eq_none.1 hf x hx)
  | some r =>
      obtain ⟨u, hu, -, -⟩ := pauseRecord_eq hf
      rw [hu] at hx
      obtain ⟨y, -, -, rfl⟩ | ⟨-, hne⟩ := mem_onRecord hx
      · exact .inr rfl
      · exact absurd ht hne

theorem enterStopping_restsAt {res : Result} (h : res ≠ .limited) (r : Record) (pause : Bool) (s : State) :
    (enterStopping r res pause s).RestsAt r.tag := by
  by_cases hd : r.dPrev = 0
  · rw [enterStopping, if_pos hd, finishStop, stopResult_stopping r pause h]
    split
    · rw [if_neg h]
      split
      · exact pauseRecord_restsAt r.tag _
      · exact endRecord_restsAt r.tag res _
    · exact endRecord_restsAt r.tag res _
  · rw [enterStopping_driven r res pause s hd]
    intro x hx ht
    obtain ⟨y, -, -, rfl⟩ | ⟨-, hne⟩ := mem_onRecord hx
    · exact .inl rfl
    · exact absurd ht hne

/-- R94, R108: a hold lapse leaves no record of the tag that runs. -/
theorem holdStop_restsAt {res : Result} (h : res ≠ .limited) {r : Record} (hr : r.holdRuns = true) (s : State) :
    (holdStop res r s).RestsAt r.tag := by
  have hrun : r.state ≠ .stopping ∧ r.state ≠ .paused := by
    unfold Record.holdRuns at hr
    constructor <;> intro hs <;> rw [hs] at hr <;> cases hr
  obtain ⟨hstopping, hpaused⟩ := hrun
  cases hs : r.state with
  | stopping => exact absurd hs hstopping
  | paused => exact absurd hs hpaused
  | waiting =>
      cases hq : r.seq with
      | none => exact holdStop_plain_standing res s hq (.inl hs) ▸ endRecord_restsAt r.tag res s
      | some q =>
          rw [holdStop_waiting res s hq hs]
          split
          · exact pauseRecord_restsAt r.tag s
          · exact endRecord_restsAt r.tag res s
  | prewarn =>
      cases hq : r.seq with
      | none => exact holdStop_plain_standing res s hq (.inr hs) ▸ endRecord_restsAt r.tag res s
      | some q => exact holdStop_prewarn res s hq hs ▸ pauseRecord_restsAt r.tag s
  | starting | moving =>
      have hdriven : r.state = .starting ∨ r.state = .moving := by simp [hs]
      cases hq : r.seq with
      | none => exact holdStop_plain_driven res s hq hdriven ▸ enterStopping_restsAt h r false s
      | some q => exact holdStop_driven res s hq hdriven ▸ enterStopping_restsAt h r (!r.reversing) s

theorem State.RestsAt.settle {s : State} {tag : Nat} (h : s.RestsAt tag) : (settle s).RestsAt tag := by
  have hspares : Spares tag s (Machine.settle s) := Spares.settle fun x hx ht hw => by
    obtain hs | hs := h x hx ht <;> exact nomatch hw.symm.trans hs
  exact fun x hx ht => h x (hspares x hx ht) ht

/-- A record that is not driven keeps its outputs and its prewarn claims as it enters PAUSED. -/
theorem pauseRecord_drive {s : State} {tag : Nat} {r : Record} (hf : s.find tag = some r) (hm : r.inMotion = false) :
    (pauseRecord tag s).drive = s.drive := by
  have heq : pauseRecord tag s =
      (if r.state = .prewarn then prewarnCancel tag (leaveMotion r s) else leaveMotion r s).onRecord tag (pausedAt s.clock) := by
    rw [pauseRecord, hf]
    rfl
  rw [heq, leaveMotion_still s hm]
  split <;> rfl

/-- Settles O33: each expiry by the end or the pause that it makes, and the attempts after it. -/
theorem recordTimersEndOrPause : Obligations.RecordTimersEndOrPause := by
  unfold Obligations.RecordTimersEndOrPause
  intro s tag r hf
  have htag := find_tag hf
  refine ⟨fun hw hh => ?_, fun hst hh hq => ?_, fun hp => ?_, fun hh hst => ?_, fun q ha hq hh hst => ?_⟩
  · exact ⟨_, exec_waitTimerExpiry hf hw hh, endRecord_late hf .expired _⟩
  · have hr : r.holdRuns = true := holdRuns_of_running hh (hst.imp_right .inl)
    refine ⟨_, exec_holdTimerExpiry hf hr, ?_⟩
    rw [holdStop_plain_standing .holdLapse _ hq hst, htag]
    exact endRecord_late hf .holdLapse _
  · exact ⟨_, exec_pauseWindowExpiry hf hp, endRecord_late hf .holdLapse _⟩
  · have hr : r.holdRuns = true := holdRuns_of_running hh hst
    have hchange : ListChange (s.upTo (r.lastRefresh + Config.holdLimit)) _ :=
      (ListEffects.holdStop .holdLapse r _).listChange.trans (.settle _)
    exact ⟨_, exec_holdTimerExpiry hf hr, hchange.kept, (htag ▸ holdStop_restsAt (by decide) hr _ : State.RestsAt _ tag).settle⟩
  · have hr : r.holdRuns = true := holdRuns_of_running hh (hst.elim (.inr ∘ .inl) fun h => .inl h.1)
    let s1 := s.upTo (r.lastRefresh + Config.holdLimit)
    have hf1 : s1.find tag = some r := hf
    have hstop : holdStop .holdLapse r s1 = pauseRecord tag s1 := by
      obtain hst | ⟨hst, hg⟩ := hst
      · rw [holdStop_prewarn .holdLapse s1 hq hst, htag]
      · rw [holdStop_waiting .holdLapse s1 hq hst, if_pos hg, htag]
    have hstill : r.inMotion = false := by
      obtain hst | ⟨hst, -⟩ := hst <;> rw [Record.inMotion, hst]
    obtain ⟨⟨x, hx, hpaused, hsince, hpending, haxis, hseq⟩, hbank, hlink, hdue⟩ := pauseRecord_spec hf1 hq
    have ht : settle (holdStop .holdLapse r s1) = pauseRecord tag s1 := by
      rw [hstop]
      exact settle_of_settled (hdue.trans ha)
    have hchange : ListChange s1 (pauseRecord tag s1) := .pauseRecord tag s1
    refine ⟨_, exec_holdTimerExpiry hf hr, ?_⟩
    rw [ht]
    exact ⟨hchange.clock, ⟨x, hx, hpaused, hsince.trans hchange.clock.symm, hpending, hseq, haxis⟩, hbank, hchange.axis,
      congrArg (fun d => d.out) (pauseRecord_drive hf1 hstill), hlink, hchange.kept⟩

end Sys2Proof.Machine

namespace Sys2Proof.Machine

/-! ### The attempt that finds one record waiting (R39 to R41, R102) -/

/-- The record alone waits in its list, and its motion is formed. -/
structure State.Candidate (s : State) (r : Record) : Prop where
  place : ∃ a b, s.motion.records = a ++ r :: b ∧ (∀ x ∈ a, x.tag ≠ r.tag) ∧ ∀ x ∈ b, x.tag ≠ r.tag
  waiting : r.state = .waiting
  formed : ∀ q ∈ r.seq, formStep s r q = some r
  others : ∀ x ∈ s.motion.records, x.tag ≠ r.tag → x.state ≠ .waiting

/-- The scan passes over the tags of records that do not wait. -/
theorem foldl_scanRecord_passes : ∀ (l : List Nat) {sc : Scan},
    (∀ t ∈ l, ∀ x ∈ sc.state.motion.records, x.tag = t → x.state ≠ .waiting) → l.foldl scanRecord sc = sc
  | [], _, _ => rfl
  | t :: l, sc, h => by
      have ht : scanRecord sc t = sc := by
        unfold scanRecord
        split
        · rfl
        · next x hx => exact if_neg (h t List.mem_cons_self x (mem_of_find hx) (find_tag hx))
      rw [List.foldl_cons, ht]
      exact foldl_scanRecord_passes l fun u hu => h u (List.mem_cons_of_mem t hu)

/-! The entry of a granted record to its motion. -/

/-- R41 stage 4, R73: a record as it begins its motion, on an axis with this prewarn time. -/
def Record.begun (s : State) (prewarn : Nat) (r : Record) : Record :=
  let x : Record := { formMarks s r with waitReason := none }
  if 0 < prewarn then { x with state := .prewarn } else started false x

/-- What the entry to a motion leaves of a record. -/
structure Begun (prewarn : Nat) (r x : Record) : Prop where
  tag : x.tag = r.tag
  source : x.source = r.source
  station : x.station = r.station
  kind : x.kind = r.kind
  held : x.held = r.held
  axis : x.axis = r.axis
  dir : x.dir = r.dir
  target : x.target = r.target
  speed : x.speed = r.speed
  draw : x.draw = r.draw
  arrival : x.arrival = r.arrival
  lastRefresh : x.lastRefresh = r.lastRefresh
  seq : x.seq = r.seq
  waitReason : x.waitReason = none
  state : x.state = if prewarn = 0 then .starting else .prewarn

theorem begun_spec (s : State) (prewarn : Nat) (r : Record) : Begun prewarn r (r.begun s prewarn) := by
  unfold Record.begun formMarks
  by_cases hp : 0 < prewarn
  · rw [if_pos hp]
    have hstate : RecordState.prewarn = if prewarn = 0 then RecordState.starting else .prewarn :=
      (if_neg (Nat.ne_of_gt hp)).symm
    split <;> exact ⟨rfl, rfl, rfl, rfl, rfl, rfl, rfl, rfl, rfl, rfl, rfl, rfl, rfl, rfl, hstate⟩
  · rw [if_neg hp]
    have hstate : RecordState.starting = if prewarn = 0 then RecordState.starting else .prewarn :=
      (if_pos (Nat.eq_zero_of_not_pos hp)).symm
    split <;> exact ⟨rfl, rfl, rfl, rfl, rfl, rfl, rfl, rfl, rfl, rfl, rfl, rfl, rfl, rfl, hstate⟩

/-- R41 stage 4, R73: the entry to a motion that no strip stops. -/
theorem beginMotion_begins {s : State} {tag : Nat} {x : Record} (hf : s.find tag = some x)
    (hfree : 0 < (s.limits x.axis).prewarn ∨ stripPressed s x.axis = false) :
    let t := beginMotion tag s
    let prewarn := (s.limits x.axis).prewarn
    t.motion = (s.onRecord tag (Record.begun s prewarn)).motion ∧ t.link = s.link ∧ t.crew = s.crew
      ∧ (t.sense.get (.axis x.axis)).snapshotDue = (prewarn == 0 || (s.sense.get (.axis x.axis)).snapshotDue) := by
  intro t prewarn
  have htag := find_tag hf
  have hmarks (r : Record) (hr : r.tag = tag) : ({ formMarks s r with waitReason := none } : Record).tag = tag :=
    (formMarks_tag s r).trans hr
  have hcomp (g : Record → Record) (hg : ∀ r, g { formMarks s r with waitReason := none } = r.begun s prewarn) :
      ((s.onRecord tag (fun r => { formMarks s r with waitReason := none })).onRecord tag g).motion =
        (s.onRecord tag (Record.begun s prewarn)).motion := by
    rw [onRecord_motion_comp s tag g hmarks]
    exact congrArg (fun f => (s.onRecord tag f).motion) (funext hg)
  by_cases hp : 0 < prewarn
  · have ht : t = _ := beginMotion_prewarn hf hp
    rw [ht]
    have hne : (prewarn == 0) = false := beq_false_of_ne (Nat.ne_of_gt hp)
    refine ⟨hcomp (fun r => { r with state := .prewarn }) fun r => ?_, rfl, rfl, by rw [hne]; rfl⟩
    rw [Record.begun, if_pos hp]
  · have hstrip := hfree.resolve_left hp
    let w := s.onRecord tag (fun r => { formMarks s r with waitReason := none })
    have ht : t = startRecord x false w := by
      change beginMotion tag s = _
      have hw : stripPressed w x.axis = false := hstrip
      rw [beginMotion, hf]
      exact (if_neg hp).trans (enterStarting_free hw)
    have hzero : (prewarn == 0) = true := beq_iff_eq.2 (Nat.eq_zero_of_not_pos hp)
    rw [ht]
    refine ⟨?_, startRecord_link x false w, startRecord_keeps State.crew (fun _ _ _ => rfl) (fun _ _ _ => rfl) x false w, ?_⟩
    · refine (startRecord_keeps State.motion (fun _ _ _ => rfl) (fun _ _ _ => rfl) x false w).trans ?_
      rw [htag]
      refine hcomp (started false) fun r => ?_
      rw [Record.begun, if_neg hp]
    · rw [(startRecord_channel x false w).2.1, hzero]
      rfl

/-- R41 stage 1: the record as it takes its grant. -/
def Record.taken (r : Record) : Record :=
  { r with waitReason := none, seq := r.seq.map (fun q => { q with granted := true }) }

theorem takeGrant_find {s : State} {r : Record} (hf : s.find r.tag = some r) :
    (takeGrant r s).find r.tag = some r.taken := by
  have hfind : (s.onRecord r.tag Record.taken).find r.tag = some r.taken := find_onRecord_self hf fun _ h => h
  unfold takeGrant
  dsimp only
  split <;> exact hfind

/-- R40 stage 1 passes where the record needs no bank, or finds it free. -/
theorem bankFails_of_free {s : State} {r : Record}
    (h : r.needsBank = true → s.motion.bank = none ∧ s.bankWithheld = false) : bankFails s r false = false := by
  cases hn : r.needsBank with
  | false => rw [bankFails, hn]; rfl
  | true =>
      obtain ⟨hb, hw⟩ := h hn
      rw [bankFails, hn, hb, hw]
      rfl

namespace State.Candidate

variable {s : State} {r : Record} (h : s.Candidate r)

include h

theorem only {x : Record} (hx : x ∈ s.motion.records) (ht : x.tag = r.tag) : x = r := by
  obtain ⟨a, b, hl, ha, hb⟩ := h.place
  rw [hl] at hx
  obtain hx | hx := List.mem_append.1 hx
  · exact absurd ht (ha x hx)
  · obtain rfl | hx := List.mem_cons.1 hx
    · rfl
    · exact absurd ht (hb x hx)

theorem find : s.find r.tag = some r := by
  obtain ⟨a, b, hl, ha, -⟩ := h.place
  have hnone : a.find? (fun x => x.tag = r.tag) = none :=
    List.find?_eq_none.2 fun x hx => by simpa using ha x hx
  rw [State.find, hl, List.find?_append, hnone]
  simp

/-- A change of the record to itself is none. -/
theorem onRecord_self : s.onRecord r.tag (fun _ => r) = s := by
  have hmap : s.motion.records.map (fun x => if x.tag = r.tag then r else x) = s.motion.records := by
    refine (List.map_congr_left (g := id) fun x hx => ?_).trans (List.map_id _)
    split
    · next ht => exact (h.only hx ht).symm
    · rfl
  rw [State.onRecord, State.onMotion, hmap]

theorem scanRecord (bank budget : Bool) (l : List (Nat × Result)) :
    scanRecord ⟨s, bank, budget, l⟩ r.tag = scanFormed r ⟨s, bank, budget, l⟩ s := by
  unfold Machine.scanRecord
  rw [h.find]
  dsimp only
  rw [if_pos h.waiting]
  split
  · rfl
  · next q hq =>
    rw [h.formed q hq]
    dsimp only
    rw [h.onRecord_self]

/-- R40: the scan of the list comes to nothing but the record. -/
theorem foldl_scanRecord : s.tags.foldl Machine.scanRecord ⟨s, false, false, []⟩ = scanFormed r ⟨s, false, false, []⟩ s := by
  obtain ⟨a, b, hl, ha, hb⟩ := h.place
  have hpass (sc : Scan) (hsc : sc = ⟨s, false, false, []⟩ ∨ sc = Machine.scanRecord ⟨s, false, false, []⟩ r.tag)
      (l : List Record) (hne : ∀ x ∈ l, x.tag ≠ r.tag) : (l.map Record.tag).foldl Machine.scanRecord sc = sc := by
    refine foldl_scanRecord_passes _ fun t ht x hx hxt => ?_
    obtain ⟨y, hy, rfl⟩ := List.mem_map.1 ht
    have hne := hne y hy
    have hothers (z : Record) (hz : z ∈ s.motion.records) (hzt : z.tag = y.tag) : z.state ≠ .waiting :=
      h.others z hz (hzt.trans_ne hne)
    obtain rfl | rfl := hsc
    · exact hothers x hx hxt
    · exact hothers x ((Spares.scanRecord (sc := ⟨s, false, false, []⟩) hothers r.tag).spares x hx hxt) hxt
  rw [State.tags, hl, List.map_append, List.map_cons, List.foldl_append, hpass _ (.inl rfl) a ha, List.foldl_cons,
    hpass _ (.inr rfl) b hb]
  exact h.scanRecord false false []

/-- R39: the one attempt that is owed, where it owes no other and finds no step complete. -/
theorem settle (hdue : s.motion.attemptsDue = 0) {u : State} {bank budget : Bool}
    (hscan : scanFormed r ⟨s, false, false, []⟩ s = ⟨u, bank, budget, []⟩) (hu : u.motion.attemptsDue = 0) :
    settle s.oweAttempt = u := by
  have hgrant : grantAttempt s.oweAttempt = u := by
    have hscanned := h.foldl_scanRecord.trans hscan
    unfold grantAttempt
    change ((s.tags.foldl Machine.scanRecord ⟨s, false, false, []⟩).complete.foldl _
      (s.tags.foldl Machine.scanRecord ⟨s, false, false, []⟩).state) = u
    rw [hscanned]
    rfl
  have howed : s.oweAttempt.motion.attemptsDue = 1 := congrArg (· + 1) hdue
  have hone (n : Nat) : attempts (n + 1) s.oweAttempt = u := by
    rw [attempts, if_neg (by rw [howed]; decide), hgrant]
    cases n with
    | zero => rfl
    | succ n => rw [attempts, if_pos hu]
  exact hone _

/-- R40 stage 1: a record that cannot have the bank waits for it. -/
theorem settle_bank (hdue : s.motion.attemptsDue = 0) (hneeds : r.needsBank = true) (hnot : s.motion.bank ≠ some r.tag)
    (hheld : s.bankWithheld = true ∨ s.motion.bank.isSome = true) :
    Machine.settle s.oweAttempt = s.onRecord r.tag (fun x => { x with waitReason := some .bank }) := by
  have hfails : bankFails s r false = true := by
    rw [bankFails, hneeds, bne_iff_ne.2 hnot]
    obtain hh | hh := hheld <;> simp [hh]
  refine h.settle hdue (bank := true) (budget := false) ?_ hdue
  rw [scanFormed, if_pos hfails]

/-- R40 stage 2: a record whose draw does not fit waits for the budget. -/
theorem settle_budget (hdue : s.motion.attemptsDue = 0) (hpass : bankFails s r false = false) (hdraw : 0 < r.draw)
    (hover : s.motion.budget < s.drawSum + r.draw) :
    Machine.settle s.oweAttempt = s.onRecord r.tag (fun x => { x with waitReason := some .budget }) := by
  have hfails : budgetFails s r false = true := by rw [budgetFails, decide_eq_true hdraw, decide_eq_true hover]; rfl
  refine h.settle hdue (bank := false) (budget := true) ?_ hdue
  rw [scanFormed, hpass, if_neg Bool.false_ne_true, if_pos hfails]

/-- R41: a record that passes every stage begins its motion. -/
theorem settle_granted (hdue : s.motion.attemptsDue = 0)
    (hbank : r.needsBank = true → s.motion.bank = none ∧ s.bankWithheld = false)
    (hfits : s.drawSum + r.draw ≤ s.motion.budget) (hlocks : interlocks s r.axis r.dir r.source = true)
    (hcomplete : completeAtGrant s r = none) (hfree : 0 < (s.limits r.axis).prewarn ∨ stripPressed s r.axis = false) :
    Machine.settle s.oweAttempt = beginMotion r.tag (takeGrant r s) := by
  have hpass : bankFails s r false = false := bankFails_of_free hbank
  have hfit : budgetFails s r false = false := by
    rw [budgetFails, decide_eq_false (Nat.not_lt.2 hfits), Bool.or_false, Bool.and_false]
  have hchange : ListChange s (takeGrant r s) := .takeGrant r s
  have hdue' : (takeGrant r s).motion.attemptsDue = 0 := by
    unfold takeGrant
    dsimp only
    split <;> exact hdue
  refine h.settle hdue (bank := false) (budget := false) ?_ ?_
  · rw [scanFormed, hpass, if_neg Bool.false_ne_true, hfit, if_neg Bool.false_ne_true, hlocks, if_neg (by decide), grantRecord,
      hcomplete]
  · have hkeeps := (beginMotion_begins (takeGrant_find h.find) (hchange.limits _ ▸ hchange.stripPressed _ ▸ hfree)).1
    rw [hkeeps]
    exact hdue'

end State.Candidate

/-- In a list with unique tags the place of a record is its own. -/
theorem candidate_of_nodup {s : State} {r : Record} (hn : s.tags.Nodup) (hf : s.find r.tag = some r) (hw : r.state = .waiting)
    (hform : ∀ q ∈ r.seq, formStep s r q = some r)
    (hothers : ∀ x ∈ s.motion.records, x.tag ≠ r.tag → x.state ≠ .waiting) : s.Candidate r := by
  obtain ⟨a, b, hl⟩ := List.append_of_mem (mem_of_find hf)
  rw [State.tags, hl, List.map_append, List.map_cons, List.nodup_append] at hn
  obtain ⟨-, hb, hab⟩ := hn
  exact ⟨⟨a, b, hl, fun x hx => hab _ (List.mem_map_of_mem hx) _ List.mem_cons_self,
    fun x hx ht => (List.nodup_cons.1 hb).1 (ht ▸ List.mem_map_of_mem hx)⟩, hw, hform, hothers⟩

end Sys2Proof.Machine

namespace Sys2Proof.Machine

/-! ### What becomes of an accepted request (R24, R28, R29, R40, R41) -/

/-- R24, R29: the list with an accepted record in its place. -/
def State.joined (s : State) (r : Record) : State :=
  s.onMotion (fun m => { m with records := insertRecord r m.records, arrivals := (m.arrivals + 1) % 65536 })

theorem acceptRecord_eq (r : Record) (s : State) : acceptRecord r s = (s.joined r).oweAttempt := rfl

/-- R37: a record that waits adds nothing to the draw sum. -/
theorem joined_drawSum (s : State) {r : Record} (h : r.state = .waiting) : (s.joined r).drawSum = s.drawSum := by
  have hload : r.load = 0 := Record.load_of_uncharged (Record.charged_of_waiting h)
  rw [drawSum_eq, drawSum_eq]
  change ((insertRecord r s.motion.records).map Record.load).sum = _
  rw [((insertRecord_perm r s.motion.records).map Record.load).sum_eq, List.map_cons, List.sum_cons, hload, Nat.zero_add]

theorem joined_candidate {s : State} {r : Record} (hfresh : r.tag ∉ s.tags) (hw : r.state = .waiting)
    (hform : ∀ q ∈ r.seq, formStep s r q = some r) (hothers : ∀ x ∈ s.motion.records, x.state ≠ .waiting) :
    (s.joined r).Candidate r where
  place := by
    obtain ⟨a, b, hl, hins, -, -⟩ := insertRecord_split r s.motion.records
    have hne (x : Record) (hx : x ∈ s.motion.records) : x.tag ≠ r.tag := fun ht =>
      hfresh (ht ▸ List.mem_map_of_mem hx)
    exact ⟨a, b, hins, fun x hx => hne x (hl ▸ List.mem_append_left b hx), fun x hx => hne x (hl ▸ List.mem_append_right a hx)⟩
  waiting := hw
  formed := hform
  others x hx ht := by
    obtain rfl | hx := (mem_insertRecord r x s.motion.records).1 hx
    · exact absurd rfl ht
    · exact hothers x hx

section Accept

variable {s : State} {r : Record} (hdue : s.motion.attemptsDue = 0) (hw : r.state = .waiting)
  (hform : ∀ q ∈ r.seq, formStep s r q = some r)

include hdue hw hform

/-- R40, R41: on an empty list an accepted record that passes every stage begins its motion. -/
theorem accept_begins (hrecords : s.motion.records = []) (hbank : s.motion.bank = none)
    (hheld : r.needsBank = true → s.bankWithheld = false) (hfits : r.draw ≤ s.motion.budget)
    (hlocks : interlocks s r.axis r.dir r.source = true) (hcomplete : completeAtGrant s r = none)
    (hfree : 0 < (s.limits r.axis).prewarn ∨ stripPressed s r.axis = false) :
    let t := settle (acceptRecord r s)
    let prewarn := (s.limits r.axis).prewarn
    ∃ x, t.motion.records = [x] ∧ Begun prewarn r.taken x
      ∧ t.motion.bank = (if r.needsBank then some r.tag else none) ∧ t.link = s.link ∧ t.crew = s.crew
      ∧ (t.sense.get (.axis r.axis)).snapshotDue = (prewarn == 0 || (s.sense.get (.axis r.axis)).snapshotDue) := by
  intro t prewarn
  have hc : (s.joined r).Candidate r := joined_candidate (by rw [State.tags, hrecords]; exact List.not_mem_nil) hw hform
    fun x hx => by rw [hrecords] at hx; cases hx
  have hone : (s.joined r).motion.records = [r] := by
    change insertRecord r s.motion.records = [r]
    rw [hrecords]
    rfl
  have hsum : (s.joined r).drawSum = 0 := by
    rw [joined_drawSum s hw, State.drawSum, hrecords]
    rfl
  have ht : t = beginMotion r.tag (takeGrant r (s.joined r)) :=
    hc.settle_granted hdue (fun hn => ⟨hbank, hheld hn⟩) (by rw [hsum, Nat.zero_add]; exact hfits) hlocks hcomplete hfree
  have hchange : ListChange (s.joined r) (takeGrant r (s.joined r)) := .takeGrant r _
  obtain ⟨hsense, hlink, hcrew⟩ : (takeGrant r (s.joined r)).sense = s.sense ∧ (takeGrant r (s.joined r)).link = s.link
      ∧ (takeGrant r (s.joined r)).crew = s.crew := by
    unfold takeGrant
    dsimp only
    split <;> exact ⟨rfl, rfl, rfl⟩
  have hmotion : (takeGrant r (s.joined r)).motion.records = [r.taken]
      ∧ (takeGrant r (s.joined r)).motion.bank = if r.needsBank then some r.tag else none := by
    have hmap : (s.joined r).motion.records.map (fun x => if x.tag = r.tag then x.taken else x) = [r.taken] := by
      rw [hone, List.map_singleton, if_pos rfl]
    unfold takeGrant
    dsimp only
    cases r.needsBank
    · exact ⟨hmap, hbank⟩
    · exact ⟨hmap, rfl⟩
  obtain ⟨hm, hl, hc', hs⟩ := beginMotion_begins (takeGrant_find hc.find) (hchange.limits _ ▸ hchange.stripPressed _ ▸ hfree)
  rw [← ht] at hm hl hc' hs
  refine ⟨r.taken.begun (takeGrant r (s.joined r)) prewarn, ?_, begun_spec _ _ _, ?_, hl.trans hlink, hc'.trans hcrew, ?_⟩
  · rw [hm, State.onRecord_motion, hmotion.1, List.map_singleton, if_pos (show r.taken.tag = r.tag from rfl)]
    exact congrArg (fun p => [r.taken.begun (takeGrant r (s.joined r)) p]) (by rw [hchange.limits]; rfl)
  · rw [hm]
    exact hmotion.2
  · refine hs.trans ?_
    rw [hsense, hchange.limits]
    rfl

variable (hfresh : r.tag ∉ s.tags) (hothers : ∀ x ∈ s.motion.records, x.state ≠ .waiting)

include hfresh hothers

/-- R40 stage 1: where no other record waits, an accepted record waits for a bank that it cannot have. -/
theorem accept_waits_bank (hneeds : r.needsBank = true) (hnot : s.motion.bank ≠ some r.tag)
    (hheld : s.bankWithheld = true ∨ s.motion.bank.isSome = true) :
    let t := settle (acceptRecord r s)
    t.find r.tag = some { r with waitReason := some .bank } ∧ t.motion.bank = s.motion.bank ∧ t.link = s.link
      ∧ t.drive = s.drive := by
  intro t
  have hc : (s.joined r).Candidate r := joined_candidate hfresh hw hform hothers
  have ht : t = (s.joined r).onRecord r.tag (fun x => { x with waitReason := some .bank }) :=
    hc.settle_bank hdue hneeds hnot hheld
  rw [ht]
  exact ⟨find_onRecord_self (f := fun x => { x with waitReason := some .bank }) hc.find fun _ h => h, rfl, rfl, rfl⟩

/-- R40 stage 2: and one whose draw does not fit waits for the budget. -/
theorem accept_waits_budget (hbank : r.needsBank = true → s.motion.bank = none ∧ s.bankWithheld = false) (hdraw : 0 < r.draw)
    (hover : s.motion.budget < s.drawSum + r.draw) :
    let t := settle (acceptRecord r s)
    t.find r.tag = some { r with waitReason := some .budget } ∧ t.motion.bank = s.motion.bank ∧ t.link = s.link
      ∧ t.drive = s.drive := by
  intro t
  have hc : (s.joined r).Candidate r := joined_candidate hfresh hw hform hothers
  have ht : t = (s.joined r).onRecord r.tag (fun x => { x with waitReason := some .budget }) :=
    hc.settle_budget hdue (bankFails_of_free hbank) hdraw (by rw [joined_drawSum s hw]; exact hover)
  rw [ht]
  exact ⟨find_onRecord_self (f := fun x => { x with waitReason := some .budget }) hc.find fun _ h => h, rfl, rfl, rfl⟩

end Accept

end Sys2Proof.Machine

namespace Sys2Proof.Machine

/-! ### The record of an accepted request (R23, R25, R31) -/

/-- The kind of the record that a request asks for. -/
def Demand.kind : Demand → RecordKind
  | .move _ _ _ => .move
  | .jog _ _ _ => .jog
  | .sequence _ _ => .sequence

/-- R23: whether that record is held. -/
def Demand.held : Demand → Bool
  | .move _ _ _ => false
  | .jog _ _ _ => true
  | .sequence _ held => held

/-- R25: what a request and the moment of its forming write into a record. -/
structure Stamped (s : State) (rq : Request) (r : Record) : Prop where
  kind : r.kind = rq.demand.kind
  held : r.held = rq.demand.held
  arrival : r.arrival = s.motion.arrivals
  lastRefresh : r.lastRefresh = s.clock
  waitSince : r.waitSince = s.clock

theorem formRequest_stamped {s : State} {rq : Request} {f : Formed} (h : formRequest s rq = some f) :
    Stamped s rq f.record := by
  unfold formRequest at h
  split at h
  · next hd =>
    cases h
    exact ⟨by rw [hd]; rfl, by rw [hd]; rfl, rfl, rfl, rfl⟩
  · next hd =>
    cases h
    exact ⟨by rw [hd]; rfl, by rw [hd]; rfl, rfl, rfl, rfl⟩
  · next n held hd =>
    split at h
    · cases h
    · next first rest hsteps =>
      cases h
      have hkind : RecordKind.sequence = rq.demand.kind := by rw [hd]; rfl
      have hheld : held = rq.demand.held := by rw [hd]; rfl
      unfold formSequence
      dsimp only
      split
      · next r1 hr1 =>
        unfold formStep at hr1
        split at hr1
        · cases hr1
        · obtain ⟨v, -, rfl⟩ := Option.map_eq_some_iff.1 hr1
          exact ⟨hkind, hheld, rfl, rfl, rfl⟩
      · exact ⟨hkind, hheld, rfl, rfl, rfl⟩

/-- An accepted request formed its record and passed its last checks. -/
theorem judgeRequest_formed {s : State} {rq : Request} {r : Record} (h : judgeRequest s rq = .accept r) :
    ∃ f, formRequest s rq = some f ∧ f.record = r ∧ firstInterlocks s f = true := by
  unfold judgeRequest at h
  split at h
  · cases h
  · next f hf =>
    obtain ⟨-, -, -, -, -, hinter, -, hr⟩ := judgeFormed_accept h
    exact ⟨f, hf, hr.symm, hinter⟩

theorem judgeRequest_stamped {s : State} {rq : Request} {r : Record} (h : judgeRequest s rq = .accept r) :
    Stamped s rq r := by
  obtain ⟨f, hf, rfl, -⟩ := judgeRequest_formed h
  exact formRequest_stamped hf

/-- R101: the first step of an accepted SEQUENCE. -/
theorem judgeRequest_firstStep {s : State} {rq : Request} {r : Record} {n : Nat} {held : Bool}
    (h : judgeRequest s rq = .accept r) (hd : rq.demand = .sequence n held) :
    ∃ first rest f, stepsOf s n = first :: rest ∧ FirstStep s rq n held first f ∧ f.record = r
      ∧ firstInterlocks s f = true := by
  obtain ⟨f, hf, hr, hinter⟩ := judgeRequest_formed h
  unfold formRequest at hf
  rw [hd] at hf
  dsimp only at hf
  split at hf
  · cases hf
  · next first rest hsteps =>
    cases hf
    exact ⟨first, rest, _, hsteps, formSequence_firstStep hsteps rq held, hr, hinter⟩

/-- R28 check 11: the interlocks of an accepted motion that can be formed. -/
theorem judgeRequest_interlocks {s : State} {rq : Request} {r : Record} (h : judgeRequest s rq = .accept r)
    (hform : ∀ q ∈ r.seq, formStep s r q = some r) : interlocks s r.axis r.dir r.source = true := by
  have hfirst {f : Formed} (hr : f.record = r) (hformable : f.formable = true) (hinter : firstInterlocks s f = true) :
      interlocks s r.axis r.dir r.source = true := by
    rw [firstInterlocks, if_pos hformable, hr] at hinter
    exact hinter
  cases hd : rq.demand with
  | move a target sp =>
      obtain ⟨f, hf, hr, hinter⟩ := judgeRequest_formed h
      rw [formRequest, hd] at hf
      cases hf
      exact hfirst hr rfl hinter
  | jog a d sp =>
      obtain ⟨f, hf, hr, hinter⟩ := judgeRequest_formed h
      rw [formRequest, hd] at hf
      cases hf
      exact hfirst hr rfl hinter
  | sequence n held =>
      obtain ⟨first, rest, f, hsteps, hf, hr, hinter⟩ := judgeRequest_firstStep h hd
      refine hfirst hr ?_ hinter
      cases htarget : requestedTarget s first with
      | some v => exact (hf.formed v htarget).1
      | none =>
          have hq := hf.seq
          rw [hr] at hq
          have hnone : formStep s r { seqFields n (stepsOf s n) with formed := f.formable } = none := by
            have hstep : (stepsOf s n)[0]? = some first := by rw [hsteps]; rfl
            rw [formStep]
            change (match (stepsOf s n)[0]? with
              | none => none
              | some st => (requestedTarget s st).map _) = none
            rw [hstep]
            dsimp only
            rw [htarget]
            rfl
          exact nomatch hnone.symm.trans (hform _ hq)

/-- R29, R40, R41: what becomes of an accepted CAB request whose motion can be formed. -/
theorem cab_enters {s : State} {tag : Byte} {d : Demand} {r : Record} (h : judgeRequest s (cabRequest tag d) = .accept r)
    (hdue : s.motion.attemptsDue = 0) (hform : ∀ q ∈ r.seq, formStep s r q = some r) (rp : Reply) :
    s.Enters tag.toNat d.kind d.held r.needsBank r (settle (acceptRecord r (s.answered rp))) := by
  obtain ⟨hnew, -, -, hfree⟩ := judgeRequest_accepted h
  have hst := judgeRequest_stamped h
  have htag : r.tag = tag.toNat := hnew.tag
  have hfresh : r.tag ∉ s.tags := find_eq_none_iff.1 (htag ▸ hfree tag.toNat rfl)
  have hseq : r.seq = r.seq.map fun q => { q with granted := false } := by
    cases hq : r.seq with
    | none => rfl
    | some q =>
        have hg := (hnew.sequence q hq).1
        rw [Option.map_some, ← hg]
  unfold State.Enters
  intro entered waits
  have hnotices : (s.answered rp).link.notices = s.link.notices := rfl
  have hwaits (reason : WaitReason) (ht : let t := settle (acceptRecord r (s.answered rp))
      t.find r.tag = some { r with waitReason := some reason } ∧ t.motion.bank = s.motion.bank
        ∧ t.link = (s.answered rp).link ∧ t.drive = s.drive) : waits reason := by
    obtain ⟨hfind, hbank, hlink, hdrive⟩ := ht
    refine ⟨⟨{ r with waitReason := some reason }, htag ▸ hfind, ⟨htag, hst.kind, hnew.source, hnew.station, hst.held,
      rfl, rfl, rfl, rfl, rfl, hst.arrival, hst.lastRefresh, hseq⟩, hnew.waiting, rfl, hst.waitSince⟩, hbank, ?_, hdrive⟩
    rw [hlink, hnotices]
  refine ⟨fun hrec hbank hheld hfits hcomplete hstrip => ?_, fun hothers => ⟨fun hneeds hnot hcause => ?_, fun hbank hdraw hover => ?_⟩⟩
  · have hlocks := judgeRequest_interlocks h hform
    obtain ⟨x, hx, hb, hbank', hlink, -, hsnap⟩ := accept_begins (s := s.answered rp) hdue hnew.waiting hform hrec hbank hheld hfits
      hlocks hcomplete (hstrip.imp_right And.right)
    refine ⟨x, hx, ⟨hb.tag.trans htag, hb.kind.trans hst.kind, hb.source.trans hnew.source, hb.station.trans hnew.station,
      hb.held.trans hst.held, hb.axis, hb.dir, hb.target, hb.speed, hb.draw, hb.arrival.trans hst.arrival,
      hb.lastRefresh.trans hst.lastRefresh, hb.seq⟩, hb.state, hb.waitReason, htag ▸ hbank', hsnap, by rw [hlink, hnotices]⟩
  · exact hwaits .bank (accept_waits_bank (s := s.answered rp) hdue hnew.waiting hform hfresh hothers hneeds (htag ▸ hnot) hcause)
  · exact hwaits .budget (accept_waits_budget (s := s.answered rp) hdue hnew.waiting hform hfresh hothers hbank hdraw hover)

end Sys2Proof.Machine

namespace Sys2Proof.Machine

/-! ### The requests that are accepted, amend or refresh (R28 to R30, R93, R187) -/

/-- A well-formed CAB motion request that is accepted. -/
theorem doMotion_accepted {s : State} {kind tag : Byte} {d : Demand} {r : Record}
    (h : judgeRequest s (cabRequest tag d) = .accept r) : doMotion kind tag d (countGood s) =
      settle (acceptRecord r (s.answered ⟨kind, tag, .ok, motionContent kind r⟩)) := by
  have h' : judgeRequest (countGood s) (cabRequest tag d) = .accept r := h
  unfold doMotion
  split
  · next hj => cases h'.symm.trans hj
  · next hj => cases h'.symm.trans hj; rfl
  · next hj => cases h'.symm.trans hj

/-- A well-formed CAB motion request that amends. -/
theorem doMotion_amended {s : State} {kind tag : Byte} {d : Demand} {old r : Record}
    (h : judgeRequest s (cabRequest tag d) = .amend old r) : doMotion kind tag d (countGood s) =
      settle (amendRecord old r (s.answered ⟨kind, tag, .amended, motionContent kind r⟩)) := by
  have h' : judgeRequest (countGood s) (cabRequest tag d) = .amend old r := h
  unfold doMotion
  split
  · next hj => cases h'.symm.trans hj
  · next hj => cases h'.symm.trans hj
  · next hj => cases h'.symm.trans hj; rfl

/-- R29: what every acceptance leaves. -/
theorem accept_change (s : State) (rp : Reply) (r : Record) :
    let t := settle (acceptRecord r (s.answered rp))
    t.motion.arrivals = (s.motion.arrivals + 1) % 65536 ∧ t.link.fifo = s.link.fifo ++ [rp]
      ∧ s.link.notices <+: t.link.notices ∧ t.motion.axis = s.motion.axis ∧ Kept s t := by
  intro t
  have h : ListChange ((s.answered rp).joined r) t := (ListChange.oweAttempt _).trans (.settle _)
  exact ⟨by rw [h.motion]; rfl, by rw [h.link]; rfl, h.notices, h.axis, h.kept⟩

theorem hostTag_of_range {tag : Byte} (h : 1 ≤ tag.toNat ∧ tag.toNat ≤ 199) : hostTag tag = true :=
  Bool.and_eq_true_iff.2 ⟨decide_eq_true h.1, decide_eq_true h.2⟩

/-! An amendment (R30). -/

/-- R30, R37: an amended record waits in the place of the old one, and adds as little to the draw sum. -/
theorem amended_candidate {s : State} {old : Record} (r : Record) (halone : s.AloneWaits old) (hf : s.find old.tag = some old)
    (hw : old.state = .waiting) (hq : old.seq = none) :
    (s.onRecord old.tag (·.amended r)).Candidate (old.amended r)
      ∧ (s.onRecord old.tag (·.amended r)).drawSum = s.drawSum := by
  obtain ⟨hn, -, hothers⟩ := halone
  have hold := Replaced.refl hn hf
  have hnew := hold.onRecord (·.amended r) fun _ h => h
  refine ⟨candidate_of_nodup (hnew.change.tags.nodup hn) hnew.find hw (fun q h => nomatch hq.symm.trans h) fun x hx ht =>
    hothers x (hnew.others x hx ht) ht, ?_⟩
  have hcharge : old.charged = false := Record.charged_of_waiting hw
  exact (hnew.drawSum hcharge).trans (hold.drawSum hcharge).symm

/-- R30, R40: an amended door that waits for its budget takes its new motion and waits on. -/
theorem amend_waits {s : State} {old r : Record} (halone : s.AloneWaits old) (hf : s.find old.tag = some old)
    (hw : old.state = .waiting) (hq : old.seq = none) (hdoor : isHydraulic old.axis = false) (hdraw : 0 < r.draw)
    (hover : s.motion.budget < s.drawSum + r.draw) :
    let t := settle (amendRecord old r s)
    t.motion = { s.motion with
        records := s.motion.records.map (fun x =>
          if x.tag = old.tag then
            { old with
              target := r.target, limitMark := r.limitMark, dir := r.dir, draw := r.draw, speed := r.speed
              clamped := r.clamped, degraded := r.degraded, waitReason := some .budget }
          else x) }
      ∧ t.link = s.link := by
  intro t
  obtain ⟨hc, hsum⟩ := amended_candidate r halone hf hw hq
  have hneeds : (old.amended r).needsBank = false := by
    change (match old.seq with
      | some q => q.needsBank
      | none => isHydraulic old.axis) = false
    rw [hq]
    exact hdoor
  have ht : t = (s.onRecord old.tag (·.amended r)).onRecord old.tag (fun x => { x with waitReason := some .budget }) :=
    hc.settle_budget halone.2.1 (bankFails_of_free fun h => nomatch hneeds.symm.trans h) hdraw (by rw [hsum]; exact hover)
  have honly : ∀ x ∈ s.motion.records, x.tag = old.tag → x = old := fun x hx hxt => eq_of_find halone.1 hf hx hxt
  have hmap : (s.motion.records.map fun x => if x.tag = old.tag then
      ((fun x : Record => { x with waitReason := some WaitReason.budget }) ∘ (·.amended r)) x else x) =
      s.motion.records.map fun x =>
        if x.tag = old.tag then { old.amended r with waitReason := some .budget } else x := by
    refine List.map_congr_left fun x hx => ?_
    split
    · next hxt => rw [honly x hx hxt]; rfl
    · rfl
  refine ⟨?_, by rw [ht]; rfl⟩
  rw [ht, onRecord_motion_comp s old.tag (f := (·.amended r)) _ fun _ h => h, State.onRecord_motion]
  exact congrArg (fun l => { s.motion with records := l }) hmap

/-- R28: the record that a MOVE amends claims the axis of the MOVE. -/
theorem judgeRequest_amend_move {s : State} {rq : Request} {a : Axis} {target : Int} {sp : Speed} {old r : Record}
    (h : judgeRequest s rq = .amend old r) (hd : rq.demand = .move a target sp) (hq : old.seq = none) :
    old.axis = a ∧ old.state = .waiting := by
  rw [judgeRequest, formRequest, hd] at h
  obtain ⟨hmem, hw, -⟩ := judgeFormed_amend h
  obtain ⟨-, b, hb, hob⟩ := mem_rivals.1 hmem
  exact ⟨((claims_iff_of_unsequenced hq b).1 hob).symm.trans ((claims_iff_of_unsequenced rfl b).1 hb), hw⟩

/-! JOG-REFRESH (R93). -/

theorem exec_jogRefresh {s : State} (h : s.Hears) (tag : Byte) :
    exec (.jogRefresh tag) s = .next (doJogRefresh tag (countGood s)) :=
  congrArg Host.Outcome.next (goodFrame_heard (doJogRefresh tag) h.1 h.2)

theorem doJogRefresh_unheld {s : State} {tag : Byte} (h : ∀ r, s.find tag.toNat = some r → r.source ≠ .cab ∨ r.held = false) :
    doJogRefresh tag (countGood s) = s.answered ⟨0x06, tag, .badField, []⟩ := by
  unfold doJogRefresh
  split
  · next r hf =>
    refine if_neg fun hc => ?_
    obtain hs | hh := h r hf
    · exact hs hc.1
    · exact Bool.false_ne_true (hh.symm.trans hc.2)
  · rfl

theorem doJogRefresh_held {s : State} {tag : Byte} {r : Record} (hf : s.find tag.toNat = some r) (hs : r.source = .cab)
    (hh : r.held = true) : doJogRefresh tag (countGood s) = refresh r (s.answered ⟨0x06, tag, .ok, []⟩) := by
  have hf' : (countGood s).find tag.toNat = some r := hf
  rw [doJogRefresh, hf']
  exact if_pos ⟨hs, hh⟩

/-- R93: a refresh of a record whose hold timer runs restarts it. -/
theorem refresh_running {r : Record} (s : State) (hh : r.held = true)
    (h : r.state = .waiting ∨ r.state = .prewarn ∨ r.state = .starting ∨ r.state = .moving) :
    refresh r s = s.onRecord r.tag (fun x => { x with lastRefresh := s.clock }) := by
  have hp : r.state ≠ .paused := by
    intro hp
    simp [hp] at h
  rw [refresh, if_neg hp, holdRuns_of_running hh h, if_pos rfl]

/-- Settles O57: each acceptance by the attempt that follows it, an amendment by the attempt on the amended record. -/
theorem acceptedRequestsAct : Obligations.AcceptedRequestsAct := by
  unfold Obligations.AcceptedRequestsAct
  intro s tag hears hdue rq goodTag
  refine ⟨fun axis speed target a sp ht ha hs => ⟨fun r hj => ?_, fun old r hj hq => ?_⟩,
    fun axis dir speed a d sp r ht ha hd hs hj => ?_, fun seq held r ht hlow hhigh hh hj => ?_, fun hnone => ?_,
    fun r hf hs hh hst => ?_⟩
  · have hexec : exec (.move tag axis target speed) s =
        .next (settle (acceptRecord r (s.answered ⟨0x04, tag, .ok, be16 r.target ++ [r.flags]⟩))) := by
      rw [exec_move hears, doMove_wellFormed (hostTag_of_range ht) ha hs, doMotion_accepted hj]
      rfl
    obtain ⟨harrivals, hfifo, hnotices, haxis, hkept⟩ := accept_change s ⟨0x04, tag, .ok, be16 r.target ++ [r.flags]⟩ r
    obtain ⟨f, hf, rfl, -⟩ := judgeRequest_formed hj
    cases hf
    exact ⟨_, hexec, harrivals, hfifo, hnotices, haxis, hkept, rfl, rfl, cab_enters hj hdue (fun q h => nomatch h) _⟩
  · have hexec : exec (.move tag axis target speed) s =
        .next (settle (amendRecord old r (s.answered ⟨0x04, tag, .amended, be16 r.target ++ [r.flags]⟩))) := by
      rw [exec_move hears, doMove_wellFormed (hostTag_of_range ht) ha hs, doMotion_amended hj]
      rfl
    let s1 := s.answered ⟨0x04, tag, .amended, be16 r.target ++ [r.flags]⟩
    have hchange : ListChange s1 (settle (amendRecord old r s1)) :=
      (ListEffects.amendRecord old r s1).listChange.trans (.settle _)
    obtain ⟨haxis, hkept, hfifo⟩ := answered_change _ hchange
    refine ⟨_, hexec, hfifo, by rw [hchange.motion]; rfl, haxis, hkept, fun hdoor halone hfind hdraw hover => ?_⟩
    obtain ⟨holdaxis, hw⟩ := judgeRequest_amend_move hj rfl hq
    obtain ⟨hmotion, hlink⟩ := amend_waits (s := s1) halone hfind hw hq (holdaxis ▸ hdoor) hdraw hover
    exact ⟨hmotion, by rw [hlink]; rfl⟩
  · have hexec : exec (.jog tag axis dir speed) s = .next (settle (acceptRecord r (s.answered ⟨0x05, tag, .ok, []⟩))) := by
      rw [exec_jog hears, doJog_wellFormed (hostTag_of_range ht) ha hd hs, doMotion_accepted hj]
      rfl
    obtain ⟨harrivals, hfifo, hnotices, haxis, hkept⟩ := accept_change s ⟨0x05, tag, .ok, []⟩ r
    obtain ⟨f, hf, rfl, -⟩ := judgeRequest_formed hj
    cases hf
    exact ⟨_, hexec, harrivals, hfifo, hnotices, haxis, hkept, rfl, rfl, rfl, cab_enters hj hdue (fun q h => nomatch h) _⟩
  · have hexec : exec (.runSequence tag seq held) s =
        .next (settle (acceptRecord r (s.answered ⟨0x07, tag, .ok, []⟩))) := by
      rw [exec_runSequence hears, doRunSequence_wellFormed (hostTag_of_range ht) hlow hhigh hh, doMotion_accepted hj]
      rfl
    obtain ⟨harrivals, hfifo, hnotices, haxis, hkept⟩ := accept_change s ⟨0x07, tag, .ok, []⟩ r
    obtain ⟨first, rest, f, -, hf, rfl, -⟩ := judgeRequest_firstStep hj rfl
    refine ⟨_, hexec, harrivals, hfifo, hnotices, haxis, hkept, _, hf.seq, rfl, rfl, rfl, rfl, List.any_eq_true,
      fun a _ => seqFields_claims seq.toNat _ a, fun hform => ?_⟩
    have henters := cab_enters hj hdue (fun q hq => by cases hf.seq.symm.trans hq; exact hform) ⟨0x07, tag, .ok, []⟩
    have hneeds : f.record.needsBank = (stepsOf s seq.toNat).any (fun st => isHydraulic st.axis) := by
      rw [Record.needsBank, hf.seq]
      rfl
    rw [hneeds] at henters
    exact henters
  · rw [exec_jogRefresh hears, doJogRefresh_unheld hnone]
  · rw [exec_jogRefresh hears, doJogRefresh_held hf hs hh, refresh_running _ hh hst, find_tag hf]
    rfl

end Sys2Proof.Machine

namespace Sys2Proof.Machine

/-! ### What a release leaves (R94, R96, R106, R108) -/

section LetGo

variable {s : State} {r : Record} (hf : s.find r.tag = some r)

include hf

theorem release_ends_plain (hq : r.seq = none)
    (h : r.state = .waiting ∨ r.state = .prewarn ∨ (r.state = .starting ∨ r.state = .moving) ∧ r.dPrev = 0) :
    Ended r .released s (holdStop .released r s) := by
  obtain h | h | ⟨h, hd⟩ := h
  · exact holdStop_plain_standing .released s hq (.inl h) ▸ endRecord_ended .released hf
  · exact holdStop_plain_standing .released s hq (.inr h) ▸ endRecord_ended .released hf
  · exact holdStop_plain_driven .released s hq h ▸ enterStopping_ends (by decide) hd hf

variable {q : SeqFields}

theorem release_ends_sequence (hq : r.seq = some q)
    (h : r.state = .waiting ∧ q.granted = false
      ∨ ((r.state = .starting ∨ r.state = .moving) ∧ r.dPrev = 0) ∧ r.reversing = true) :
    Ended r .released s (holdStop .released r s) := by
  obtain ⟨h, hg⟩ | ⟨⟨h, hd⟩, hrev⟩ := h
  · rw [holdStop_waiting .released s hq h, hg]
    exact endRecord_ended .released hf
  · rw [holdStop_driven .released s hq h, hrev]
    exact enterStopping_ends (by decide) hd hf

theorem release_pauses (hq : r.seq = some q)
    (h : r.state = .waiting ∧ q.granted = true ∨ r.state = .prewarn
      ∨ ((r.state = .starting ∨ r.state = .moving) ∧ r.dPrev = 0) ∧ r.reversing = false) :
    let t := holdStop .released r s
    (∃ x, t.find r.tag = some x ∧ x.state = .paused ∧ x.pauseSince = s.clock ∧ x.pendingResult = none
        ∧ x.axis = r.axis ∧ x.seq = some { q with pause := false })
      ∧ t.motion.bank = s.motion.bank ∧ t.link = s.link ∧ t.motion.attemptsDue = s.motion.attemptsDue := by
  obtain ⟨h, hg⟩ | h | ⟨⟨h, hd⟩, hrev⟩ := h
  · rw [holdStop_waiting .released s hq h, if_pos hg]
    exact pauseRecord_spec hf hq
  · rw [holdStop_prewarn .released s hq h]
    exact pauseRecord_spec hf hq
  · rw [holdStop_driven .released s hq h, hrev]
    exact enterStopping_pauses hf hq hd

omit hf in
/-- R83, R106: a driven record begins its controlled stop, a SEQUENCE that is not reversing to pause. -/
theorem release_driven (h : r.state = .starting ∨ r.state = .moving) (hd : r.dPrev ≠ 0) :
    holdStop .released r s = s.onRecord r.tag (fun _ => { r with
      state := .stopping, pendingResult := some .released, stall := none, overload := none, currentSince := none
      seq := r.seq.map (fun q => { q with pause := !r.reversing }) }) := by
  cases hq : r.seq with
  | none =>
      rw [holdStop_plain_driven .released s hq h, enterStopping_driven r .released false s hd, Record.stopping, hq]
      rfl
  | some q =>
      rw [holdStop_driven .released s hq h, enterStopping_driven r .released _ s hd, Record.stopping, hq]

/-- R108: in STOPPING only a SEQUENCE with LIMITED pending changes. -/
theorem release_stopping (h : r.state = .stopping) (hn : s.tags.Nodup) :
    let t := holdStop .released r s
    t.motion = { s.motion with
        records := s.motion.records.map (fun y =>
          if y.tag = r.tag then
            { r with
              seq := r.seq.map (fun q =>
                { q with pause := q.pause || decide (r.pendingResult = some .limited ∧ r.reversing = false) }) }
          else y) }
      ∧ t.link = s.link ∧ t.drive = s.drive ∧ t.motion.attemptsDue = s.motion.attemptsDue := by
  cases hq : r.seq with
  | none =>
      have hself : s.motion.records.map (fun y => if y.tag = r.tag then r else y) = s.motion.records := by
        refine (List.map_congr_left (g := id) fun y hy => ?_).trans (List.map_id _)
        split
        · next ht => exact (eq_of_find hn hf hy ht).symm
        · rfl
      have hr : { r with seq := none } = r := by rw [← hq]
      intro t
      have ht : t = s := holdStop_plain_stopping .released s hq h
      rw [ht]
      refine ⟨?_, rfl, rfl, rfl⟩
      change s.motion = { s.motion with
        records := s.motion.records.map (fun y => if y.tag = r.tag then { r with seq := none } else y) }
      rw [hr, hself]
  | some q =>
      obtain ⟨hdrive, hlink, hdue⟩ := holdStop_stopping_frame (s := s) .released hq h
      exact ⟨holdStop_stopping_motion hf hq h hn, hlink, hdrive, hdue⟩

/-- R94, R108: what becomes of a record that is let go, with the attempts that follow. -/
theorem release_letGo (ha : s.motion.attemptsDue = 0) : s.LetGo r (settle (holdStop .released r s)) := by
  have hends {t : State} (h : Ended r .released s t) : Ended r .released s (settle t) := ListChange.ended h (.settle _)
  refine ⟨fun hq h => hends (release_ends_plain hf hq h), fun q hq => ⟨fun h => hends (release_ends_sequence hf hq h), fun h => ?_⟩,
    fun h hd => ?_, fun h hn => ?_, fun h => ?_⟩
  · obtain ⟨hx, hb, hl, hdue⟩ := release_pauses hf hq h
    rw [settle_of_settled (hdue.trans ha)]
    exact ⟨hx, hb, hl⟩
  · rw [release_driven h hd, settle_onRecord _ _ ha]
    exact ⟨rfl, rfl, rfl⟩
  · obtain ⟨hm, hl, hd, hdue⟩ := release_stopping hf h hn
    rw [settle_of_settled (hdue.trans ha)]
    exact ⟨hm, hl, hd⟩
  · have hsame : holdStop .released r s = s := by
      rw [holdStop]
      split <;> rw [h]
    rw [hsame, settle_of_settled ha]
    exact ⟨rfl, rfl, rfl⟩

end LetGo

end Sys2Proof.Machine

namespace Sys2Proof.Machine

/-! ### What a resume leaves (R99, R103 to R105, R111) -/

/-- R99: a formed step is formed again as it stands. -/
theorem formStep_again {s : State} {r x : Record} {q : SeqFields} (h : formStep s r q = some x) (w : Option WaitReason)
    (n : Nat) : ∀ q' ∈ x.seq, formStep s { x with waitReason := w, waitSince := n } q' =
      some { x with waitReason := w, waitSince := n } := by
  intro q' hq'
  have hdir (a : Axis) (t : Int) (d : Dir) : stepDir s a t (stepDir s a t d) = stepDir s a t d := by
    unfold stepDir
    split <;> rfl
  have hmark (a c : Bool) : (c || a || a) = (c || a) := by rw [Bool.or_assoc, Bool.or_self]
  have hmarks (a b c : Bool) : (c || a || b || a || b) = (c || a || b) := by
    rw [Bool.or_assoc (c || a || b), Bool.or_assoc c, Bool.or_assoc, Bool.or_self]
  unfold formStep at h ⊢
  split at h
  · cases h
  · next st hst =>
    obtain ⟨v, hv, rfl⟩ := Option.map_eq_some_iff.1 h
    cases hq'
    dsimp only [formWith]
    rw [hst]
    dsimp only
    rw [hv]
    simp only [Option.map_some, formWith, hdir, if_true, hmark, hmarks]

theorem formStep_seq {s : State} {r x : Record} {q : SeqFields} (h : formStep s r q = some x) :
    x.seq = some { q with formed := true } := by
  unfold formStep at h
  split at h
  · cases h
  · obtain ⟨_, _, rfl⟩ := Option.map_eq_some_iff.1 h
    rfl

/-- R155: a prewarn request leaves an entry of the tag whose timer runs and whose set holds the lamps of the axis. -/
theorem prewarnRequest_entry (tag : Nat) (a : Axis) (d : Dir) (time : Nat) (s : State) :
    ∃ e ∈ (prewarnRequest tag a d time s).beacon.prewarn, e.tag = tag ∧ e.timer.isSome = true
      ∧ ∀ l ∈ axisLamps a, e.set.get l = true := by
  have hset (l : List Lamp) : ∀ (p : PerLamp Bool) (x : Lamp), (x ∈ l ∨ p.get x = true) →
      (l.foldl (fun p l => p.set l true) p).get x = true := by
    induction l with
    | nil => exact fun p x h => h.resolve_left List.not_mem_nil
    | cons y l ih =>
        intro p x h
        refine ih _ x ?_
        by_cases hxy : x = y
        · exact .inr (by rw [hxy, PerLamp.get_set_self])
        · rw [PerLamp.get_set_of_ne _ _ _ _ hxy]
          exact h.imp_left fun hx => (List.mem_cons.1 hx).resolve_left hxy
  simp only [prewarnRequest, State.onBeacon_beacon]
  split
  · next hany =>
    obtain ⟨e, he, ht⟩ := List.any_eq_true.1 hany
    have ht : e.tag = tag := of_decide_eq_true ht
    refine ⟨_, List.mem_map_of_mem he, ?_⟩
    rw [if_pos ht]
    exact ⟨ht, rfl, fun l hl => hset _ _ l (.inl hl)⟩
  · exact ⟨_, List.mem_append_right _ (List.mem_singleton.2 rfl), rfl, rfl, fun l hl => hset _ _ l (.inl hl)⟩

/-- R105: the last step of a SEQUENCE ends its record. -/
theorem stepAdvance_last {s : State} {tag : Nat} {x : Record} {q : SeqFields} (res : Result) (hf : s.find tag = some x)
    (hq : x.seq = some q) (hm : x.inMotion = false) (hlast : (stepsOf s q.number).length ≤ q.index) :
    stepAdvance tag res s = endRecord tag (if q.limited || res == .limited then .limited else .arrived)
      (s.onRecord tag (betweenSteps { q with limited := q.limited || res == .limited })) := by
  rw [stepAdvance, hf]
  dsimp only
  rw [hq]
  dsimp only
  rw [if_pos hlast, leaveMotion_still s hm]
  rfl

/-- R103, R105: a step start whose step is complete ends a record on its last step. -/
theorem stepStart_completes {s : State} {fuel tag : Nat} {r x : Record} {q : SeqFields} (hf : s.find tag = some r)
    (hq : r.seq = some q) (hform : formStep s r q = some x) {w : State} (hw : s.onRecord tag (fun _ => x) = w)
    (hm : x.inMotion = false) (hwf : w.find tag = some x) (hlocks : interlocks w x.axis x.dir x.source = true)
    (hcomplete : envelopeBlocked w x.axis x.dir = true
      ∨ w.positionIs x.axis false (fun p => withinDeadband w x.axis p x.target) = true)
    (hlast : (stepsOf w q.number).length ≤ q.index) :
    ∃ q' : SeqFields, q'.fixed = q.fixed ∧ stepStart (fuel + 1) tag s =
      endRecord tag (if q.limited = true ∨ envelopeBlocked w x.axis x.dir = true ∨ x.limitMark = true then .limited else .arrived)
        (w.onRecord tag (betweenSteps q')) := by
  subst hw
  let w := s.onRecord tag (fun _ => x)
  have hends (res : Result) : (if between (stepAdvance tag res w) tag then stepStart fuel tag (stepAdvance tag res w)
      else stepAdvance tag res w) = endRecord tag (if q.limited || res == .limited then .limited else .arrived)
        (w.onRecord tag (betweenSteps { q with formed := true, limited := q.limited || res == .limited })) := by
    rw [stepAdvance_last res hwf (formStep_seq hform) hm hlast, between, endRecord_find]
    rfl
  have hstart : ∃ res : Result, (res = .limited ↔ envelopeBlocked w x.axis x.dir = true ∨ x.limitMark = true)
      ∧ stepStart (fuel + 1) tag s = (if between (stepAdvance tag res w) tag then stepStart fuel tag (stepAdvance tag res w)
        else stepAdvance tag res w) := by
    rw [stepStart, hf]
    dsimp only
    rw [hq]
    dsimp only
    rw [hform]
    dsimp only
    rw [hlocks, if_neg (by decide)]
    by_cases hb : envelopeBlocked w x.axis x.dir = true
    · exact ⟨.limited, iff_of_true rfl (.inl hb), if_pos hb⟩
    · refine ⟨if x.limitMark then .limited else .arrived, ?_, (if_neg hb).trans (if_pos (hcomplete.resolve_left hb))⟩
      cases x.limitMark <;> simp [hb]
  obtain ⟨res, hres, hstart⟩ := hstart
  refine ⟨{ q with formed := true, limited := q.limited || res == .limited }, rfl, ?_⟩
  rw [hstart, hends]
  congr 1
  refine if_congr ?_ rfl rfl
  rw [Bool.or_eq_true, beq_iff_eq, hres]

theorem formStep_kept {s : State} {r x : Record} {q : SeqFields} (h : formStep s r q = some x) :
    x.kind = r.kind ∧ x.lastRefresh = r.lastRefresh := by
  unfold formStep at h
  split at h
  · cases h
  · obtain ⟨_, _, rfl⟩ := Option.map_eq_some_iff.1 h
    exact ⟨rfl, rfl⟩

/-- R99: what forming a step leaves of a record's notice of its end. -/
theorem recordEndNotice_formed {s w u : State} {r x : Record} {q : SeqFields} (res : Result) (hq : r.seq = some q)
    (hform : formStep u r q = some x) (haxis : w.motion.axis = s.motion.axis) :
    recordEndNotice x res w = recordEndNotice r res s := by
  exact recordEndNotice_congr res (formStep_tag hform) (formStep_kept hform).1 (subject_of_seq hq (formStep_seq hform) rfl)
    (formStep_claims hq hform) haxis

end Sys2Proof.Machine

namespace Sys2Proof.Machine

/-! ### A resume, stage by stage (R103, R111) -/

theorem positionIs_iff {s : State} {a : Axis} {p : Int → Bool} :
    s.positionIs a false p = true ↔ ∃ y ∈ s.position a, p y = true := by
  rw [State.positionIs]
  cases s.position a with
  | none => exact ⟨fun h => absurd h Bool.false_ne_true, fun ⟨_, h, _⟩ => nomatch h⟩
  | some y => exact ⟨fun h => ⟨y, rfl, h⟩, fun ⟨z, hz, h⟩ => by cases hz; exact h⟩

section StepStart

variable {s : State} {fuel tag : Nat} {r : Record} {q : SeqFields} (hf : s.find tag = some r) (hq : r.seq = some q)

include hf hq

/-- R99: a step that cannot be formed ends its record. -/
theorem stepStart_unformed (hform : formStep s r q = none) : stepStart (fuel + 1) tag s = endRecord tag .noReference s := by
  rw [stepStart, hf]
  dsimp only
  rw [hq]
  dsimp only
  rw [hform]

variable {x : Record} (hform : formStep s r q = some x)

include hform

theorem stepStart_refused (hlocks : interlocks (s.onRecord tag fun _ => x) x.axis x.dir x.source = false) :
    stepStart (fuel + 1) tag s = endRecord tag .interlock (s.onRecord tag fun _ => x) := by
  rw [stepStart, hf]
  dsimp only
  rw [hq]
  dsimp only
  rw [hform]
  dsimp only
  rw [hlocks]
  rfl

/-- R103: a step whose draw does not fit waits for the budget. -/
theorem stepStart_waits {w : State} (hw : s.onRecord tag (fun _ => x) = w)
    (hlocks : interlocks w x.axis x.dir x.source = true) (hfree : envelopeBlocked w x.axis x.dir = false)
    (haway : w.positionIs x.axis false (fun p => withinDeadband w x.axis p x.target) = false)
    (hover : w.motion.budget < w.drawSum + x.draw) : stepStart (fuel + 1) tag s =
      w.onRecord tag (fun y => { y with state := .waiting, waitReason := some .budget, waitSince := s.clock }) := by
  subst hw
  rw [stepStart, hf]
  dsimp only
  rw [hq]
  dsimp only
  rw [hform]
  dsimp only
  rw [hlocks, hfree, haway, if_neg (Nat.not_le.2 hover)]
  rfl

end StepStart

section Resume

variable {s : State} {r : Record} {q : SeqFields} (hf : s.find r.tag = some r) (hq : r.seq = some q) (hp : r.state = .paused)
  (halone : s.AloneWaits r)

/-- R111: a PAUSED record as its resume takes it up. -/
def resuming (now : Nat) (r : Record) : Record := { r with state := .waiting, lastRefresh := now }

/-- The list as the step start of a resume finds it. -/
def State.resumed (s : State) (r : Record) : State := s.onRecord r.tag (resuming s.clock)

theorem resumeRecord_eq (r : Record) (s : State) :
    resumeRecord r.tag s = (stepStart stepFuel r.tag (s.resumed r)).oweAttempt := rfl

theorem resumed_tag {x : Record} (hform : formStep s (resuming s.clock r) q = some x) : x.tag = r.tag := (formStep_tag hform).trans rfl

section Found

include hf halone

theorem resumed_replaced : Replaced r.tag s (s.resumed r) (resuming s.clock r) :=
  (Replaced.refl halone.1 hf).onRecord (resuming s.clock) fun _ h => h

end Found

/-- R111: the end of a record by its resume. -/
theorem resume_ends {w : State} {x : Record} {res : Result} (h : Replaced r.tag s w x)
    (hx : recordEndNotice x res w = recordEndNotice r res s)
    (ht : stepStart stepFuel r.tag (s.resumed r) = endRecord r.tag res w) :
    Ended r res s (settle (resumeRecord r.tag s)) := by
  rw [resumeRecord_eq, ht]
  exact ended_by h.find hx (congrArg Link.notices h.link) ((ListChange.oweAttempt _).trans (.settle _))

include hf halone hq

/-- R99: a resume whose step cannot be formed. -/
theorem resume_unformed (hform : formStep s (resuming s.clock r) q = none) :
    Ended r .noReference s (settle (resumeRecord r.tag s)) := by
  have h := resumed_replaced hf halone
  refine resume_ends h (recordEndNotice_congr _ rfl rfl rfl rfl h.change.axis) ?_
  exact stepStart_unformed (fuel := 8) h.find hq ((h.change.formStep _ _).trans hform)

variable {x : Record} (hform : formStep s (resuming s.clock r) q = some x)

include hform

omit hq in
/-- R99, R111: the list once the step of a resume is formed. -/
theorem resume_formed : Replaced r.tag s ((s.resumed r).onRecord r.tag fun _ => x) x :=
  (resumed_replaced hf halone).onRecord (fun _ => x) fun _ _ => resumed_tag hform

theorem resume_refused (hlocks : interlocks s x.axis x.dir x.source = false) :
    Ended r .interlock s (settle (resumeRecord r.tag s)) := by
  have h0 := resumed_replaced hf halone
  have h := resume_formed hf halone hform
  refine resume_ends h (recordEndNotice_formed (r := resuming s.clock r) _ hq hform h.change.axis) ?_
  exact stepStart_refused (fuel := 8) h0.find hq ((h0.change.formStep _ _).trans hform) ((h.change.interlocks ..).trans hlocks)

/-- R105: a resume whose step stands complete ends the record on its last step. -/
theorem resume_completes (hlocks : interlocks s x.axis x.dir x.source = true)
    (hcomplete : envelopeBlocked s x.axis x.dir = true ∨ ∃ p ∈ s.position x.axis, withinDeadband s x.axis p x.target = true)
    (hlast : (stepsOf s q.number).length ≤ q.index) :
    Ended r (if q.limited = true ∨ envelopeBlocked s x.axis x.dir = true ∨ x.limitMark = true then .limited else .arrived) s
      (settle (resumeRecord r.tag s)) := by
  have h0 := resumed_replaced hf halone
  have h := resume_formed hf halone hform
  have hstill : x.inMotion = false := by
    rw [Record.inMotion, formStep_state hform]
    rfl
  have hcomplete' : envelopeBlocked ((s.resumed r).onRecord r.tag fun _ => x) x.axis x.dir = true
      ∨ ((s.resumed r).onRecord r.tag fun _ => x).positionIs x.axis false
        (fun p => withinDeadband ((s.resumed r).onRecord r.tag fun _ => x) x.axis p x.target) = true := by
    refine hcomplete.imp (h.change.envelopeBlocked ..).trans fun ⟨p, hpos, hd⟩ => ?_
    rw [h.change.positionIs]
    exact positionIs_iff.2 ⟨p, hpos, (h.change.withinDeadband ..).trans hd⟩
  obtain ⟨q', hfixed, hstart⟩ := stepStart_completes (fuel := 8) h0.find hq ((h0.change.formStep _ _).trans hform) rfl hstill
    h.find ((h.change.interlocks ..).trans hlocks) hcomplete' (by rw [h.change.stepsOf]; exact hlast)
  rw [h.change.envelopeBlocked] at hstart
  have hbetween := h.onRecord (betweenSteps q') fun _ ht => ht
  have hnumber : q'.number = q.number := congrArg (fun p => p.1) hfixed
  have hclaimed : q'.claimed = q.claimed := congrArg (fun p => p.2.1) hfixed
  have hseq : (betweenSteps q' x).seq = some q' := rfl
  have hxt : x.tag = r.tag := resumed_tag hform
  refine resume_ends hbetween (recordEndNotice_congr _ hxt ?_ ?_ ?_ hbetween.change.axis) hstart
  · exact (formStep_kept hform).1
  · exact subject_of_seq hq hseq hnumber
  · funext a
    rw [claims_of_seq hseq, claims_of_seq hq, hclaimed]

variable (hp : r.state = .paused) (hlocks : interlocks s x.axis x.dir x.source = true)
  (haway : ¬(envelopeBlocked s x.axis x.dir = true ∨ ∃ p ∈ s.position x.axis, withinDeadband s x.axis p x.target = true))

include haway

omit hf hq halone hform in
/-- R103: a step that stands neither at a limit nor at its target goes on, in any state that the list has come to. -/
theorem away_after {w : State} (h : ListChange s w) : envelopeBlocked w x.axis x.dir = false
    ∧ w.positionIs x.axis false (fun p => withinDeadband w x.axis p x.target) = false := by
  refine ⟨(h.envelopeBlocked ..).trans (Bool.eq_false_iff.2 fun hb => haway (.inl hb)), Bool.eq_false_iff.2 fun hb => ?_⟩
  rw [h.positionIs] at hb
  obtain ⟨p, hpos, hd⟩ := positionIs_iff.1 hb
  exact haway (.inr ⟨p, hpos, (h.withinDeadband ..).symm.trans hd⟩)

include hp hlocks

omit hq hlocks haway in
/-- R37: the draw sum while the step of a resume stands formed. -/
theorem resume_drawSum : ((s.resumed r).onRecord r.tag fun _ => x).drawSum = s.drawSum := by
  have hx : x.charged = false := Record.charged_of_waiting (formStep_state hform)
  have hr : r.charged = false := by rw [Record.charged, hp]
  exact ((resume_formed hf halone hform).drawSum hx).trans ((Replaced.refl halone.1 hf).drawSum hr).symm

/-- R103: a resume whose step passes every stage begins its motion. -/
theorem resume_begins (hfits : s.drawSum + x.draw ≤ s.motion.budget) :
    resumeRecord r.tag s = (beginMotion r.tag ((s.resumed r).onRecord r.tag fun _ => x)).oweAttempt := by
  have h0 := resumed_replaced hf halone
  have h := resume_formed hf halone hform
  obtain ⟨hfree, hoff⟩ := away_after haway h.change
  rw [resumeRecord_eq, stepFuel, stepStart_begins h0.find hq ((h0.change.formStep _ _).trans hform) rfl
    ((h.change.interlocks ..).trans hlocks) hfree hoff]
  rw [resume_drawSum hf hp halone hform, h.change.budget]
  exact hfits

/-- R61, R103: a resume into PREWARN. -/
theorem resume_prewarns (hfits : s.drawSum + x.draw ≤ s.motion.budget) (hwarn : 0 < (s.limits x.axis).prewarn) :
    let t := settle (resumeRecord r.tag s)
    t.find r.tag = some { formMarks s x with state := .prewarn, waitReason := none }
      ∧ (∃ e ∈ t.beacon.prewarn, e.tag = r.tag ∧ e.timer.isSome = true ∧ ∀ l ∈ axisLamps x.axis, e.set.get l = true)
      ∧ t.motion.bank = s.motion.bank ∧ t.link.notices = s.link.notices ∧ t.drive.out = s.drive.out := by
  intro t
  have h := resume_formed hf halone hform
  let w := (s.resumed r).onRecord r.tag fun _ => x
  have hmotion : beginMotion r.tag w = _ := beginMotion_prewarn h.find (h.change.limits x.axis ▸ hwarn)
  have hprewarn := ((h.onRecord (fun r => { formMarks w r with waitReason := none }) fun _ ht => (formMarks_tag ..).trans ht).onRecord
    (fun r => { r with state := .prewarn }) fun _ ht => ht).prewarnRequest x.axis x.dir (w.limits x.axis).prewarn
  have hentry := prewarnRequest_entry r.tag x.axis x.dir (w.limits x.axis).prewarn
    ((w.onRecord r.tag (fun r => { formMarks w r with waitReason := none })).onRecord r.tag (fun r => { r with state := .prewarn }))
  rw [← hmotion] at hprewarn hentry
  have ht : t = (beginMotion r.tag w).onMotion (fun m => { m with attemptsDue := 0 }) := by
    change settle (resumeRecord r.tag s) = _
    rw [resume_begins hf hq hp halone hform hlocks haway hfits]
    exact hprewarn.settled (fun h => by cases h) halone.2.2
  rw [ht]
  refine ⟨hprewarn.find.trans ?_, hentry, hprewarn.bank, congrArg Link.notices hprewarn.link, congrArg Drive.out hprewarn.drive⟩
  rw [h.change.formMarks]

/-- R73, R103: a resume into STARTING. -/
theorem resume_starts (hfits : s.drawSum + x.draw ≤ s.motion.budget) (hwarn : (s.limits x.axis).prewarn = 0)
    (hstrip : stripPressed s x.axis = false) :
    let t := settle (resumeRecord r.tag s)
    (∃ r', t.find r.tag = some r' ∧ r'.state = .starting ∧ r'.axis = x.axis ∧ r'.target = x.target
        ∧ r'.dir = x.dir ∧ r'.draw = x.draw ∧ r'.seq = x.seq ∧ r'.lastRefresh = s.clock)
      ∧ (t.sense.get (.axis x.axis)).snapshotDue = true ∧ t.link.notices = s.link.notices := by
  intro t
  have h := resume_formed hf halone hform
  let w := (s.resumed r).onRecord r.tag fun _ => x
  have hwarn' : (w.limits x.axis).prewarn = 0 := h.change.limits x.axis ▸ hwarn
  obtain ⟨hm, hl, -, hsnap⟩ := beginMotion_begins h.find (.inr ((h.change.stripPressed _).trans hstrip))
  have hb := begun_spec w (w.limits x.axis).prewarn x
  have hstate : (x.begun w (w.limits x.axis).prewarn).state = .starting := hb.state.trans (if_pos hwarn')
  have hnone : (beginMotion r.tag w).oweAttempt.NoneWaits := fun y hy => by
    change y ∈ (beginMotion r.tag w).motion.records at hy
    rw [hm] at hy
    obtain ⟨z, hz, hzt, rfl⟩ | ⟨hy, hyt⟩ := mem_onRecord hy
    · rw [h.only z hz hzt, hstate]
      decide
    · exact halone.2.2 y (h.others y hy hyt) hyt
  have ht : t = (beginMotion r.tag w).onMotion (fun m => { m with attemptsDue := 0 }) := by
    change settle (resumeRecord r.tag s) = _
    rw [resume_begins hf hq hp halone hform hlocks haway hfits]
    exact settle_of_noneWaits hnone
  have hfind : t.find r.tag = some (x.begun w (w.limits x.axis).prewarn) := by
    have hrecords : t.motion.records = (w.onRecord r.tag (Record.begun w (w.limits x.axis).prewarn)).motion.records := by
      rw [ht, ← hm]
      rfl
    rw [State.find, hrecords]
    exact find_onRecord_self h.find fun y hy => (begun_spec w _ y).tag.trans hy
  refine ⟨⟨_, hfind, hstate, hb.axis, hb.target, hb.dir, hb.draw, hb.seq, hb.lastRefresh.trans (formStep_kept hform).2⟩, ?_, ?_⟩
  · rw [ht]
    refine hsnap.trans ?_
    rw [hwarn']
    rfl
  · rw [ht]
    exact congrArg Link.notices (hl.trans h.link)

/-- R103, R40: a resume whose draw does not fit waits for the budget, and keeps the bank. -/
theorem resume_waits (hover : s.motion.budget < s.drawSum + x.draw) (hdraw : 0 < x.draw)
    (hbank : r.needsBank = true → s.motion.bank = some r.tag) :
    let t := settle (resumeRecord r.tag s)
    (∃ r', t.find r.tag = some r' ∧ r'.state = .waiting ∧ r'.waitReason = some .budget
        ∧ r'.waitSince = s.clock ∧ r'.axis = x.axis ∧ r'.draw = x.draw)
      ∧ t.motion.bank = s.motion.bank ∧ t.link.notices = s.link.notices ∧ t.drive.out = s.drive.out := by
  intro t
  have h0 := resumed_replaced hf halone
  have h := resume_formed hf halone hform
  have hxt : x.tag = r.tag := resumed_tag hform
  let w := (s.resumed r).onRecord r.tag fun _ => x
  let y : Record := { x with state := .waiting, waitReason := some .budget, waitSince := s.clock }
  have hy : y = { x with waitReason := some .budget, waitSince := s.clock } := by
    have hxs : x.state = .waiting := formStep_state hform
    rw [hxs]
  have hw2 := h.onRecord (fun y => { y with state := .waiting, waitReason := some .budget, waitSince := s.clock }) fun _ ht => ht
  let w2 := w.onRecord r.tag (fun y => { y with state := .waiting, waitReason := some .budget, waitSince := s.clock })
  obtain ⟨hfree, hoff⟩ := away_after haway h.change
  have hstart : resumeRecord r.tag s = w2.oweAttempt := by
    rw [resumeRecord_eq, stepFuel, stepStart_waits h0.find hq ((h0.change.formStep _ _).trans hform) rfl
      ((h.change.interlocks ..).trans hlocks) hfree hoff]
    · rfl
    · rw [resume_drawSum hf hp halone hform, h.change.budget]
      exact hover
  have hc : w2.Candidate y := by
    refine candidate_of_nodup (hw2.change.tags.nodup halone.1) (by rw [show y.tag = r.tag from hxt]; exact hw2.find) rfl
      (fun q' hq' => ?_) fun z hz hzt => ?_
    · rw [hw2.change.formStep, hy]
      exact formStep_again hform _ _ q' hq'
    · have hne : z.tag ≠ r.tag := fun ht => hzt (ht.trans hxt.symm)
      exact halone.2.2 z (hw2.others z hz hne) hne
  have hsum : w2.drawSum = s.drawSum := by
    have hr : r.charged = false := by rw [Record.charged, hp]
    exact (hw2.drawSum rfl).trans ((Replaced.refl halone.1 hf).drawSum hr).symm
  have hpass : bankFails w2 y false = false := by
    have hseq : y.seq = some { q with formed := true } := (formStep_seq hform).trans rfl
    have hneeds : y.needsBank = r.needsBank := by
      rw [Record.needsBank, Record.needsBank, hseq, hq]
    rw [bankFails, hneeds]
    cases hn : r.needsBank with
    | false => rfl
    | true =>
        have hb : w2.motion.bank = some y.tag := (hw2.bank.trans (hbank hn)).trans (congrArg some hxt.symm)
        rw [hb, bne_self_eq_false]
        rfl
  have ht : t = w2.onRecord y.tag (fun z => { z with waitReason := some .budget }) := by
    change settle (resumeRecord r.tag s) = _
    rw [hstart]
    exact hc.settle_budget (hw2.due.trans halone.2.1) hpass hdraw (by rw [hsum, hw2.change.budget]; exact hover)
  rw [ht]
  refine ⟨⟨{ y with waitReason := some .budget }, ?_, rfl, rfl, rfl, rfl, rfl⟩, hw2.bank, congrArg Link.notices hw2.link,
    congrArg Drive.out hw2.drive⟩
  rw [← hxt]
  exact find_onRecord_self (f := fun z => { z with waitReason := some .budget }) hc.find fun _ h => h

end Resume

/-- R111: what becomes of a PAUSED SEQUENCE that is resumed while no other record waits. -/
theorem resume_resumed {s : State} {r : Record} {q : SeqFields} (hf : s.find r.tag = some r) (hq : r.seq = some q)
    (hp : r.state = .paused) (halone : s.AloneWaits r) : s.Resumed r q (settle (resumeRecord r.tag s)) := by
  refine ⟨fun hnone => resume_unformed hf hq halone hnone, fun x hx => ⟨fun hlocks => ?_, fun hlocks hcomplete hlast => ?_,
    fun hlocks haway hfits hwarn => ?_, fun hlocks haway hfits hwarn hstrip => ?_, fun hlocks haway hover hdraw hbank => ?_⟩⟩
  · exact resume_refused hf hq halone hx (Bool.eq_false_iff.2 hlocks)
  · exact resume_completes hf hq halone hx hlocks hcomplete hlast
  · exact resume_prewarns hf hq hp halone hx hlocks haway hfits hwarn
  · exact resume_starts hf hq hp halone hx hlocks haway hfits hwarn hstrip
  · exact resume_waits hf hq hp halone hx hlocks haway hover hdraw hbank

end Sys2Proof.Machine

namespace Sys2Proof.Machine

/-! ### The stations through changes of the list (R171) -/

/-- A change of the list clears button tags, and leaves the rest of every station. -/
def Retagged (s t : State) : Prop :=
  ∃ g : StationRecord → PerButton (Option Nat), (∀ st b, (g st).get b = none ∨ (g st).get b = st.tags.get b)
    ∧ t.crew.stations = s.crew.stations.map fun st => { st with tags := g st }

namespace Retagged

theorem of_crew {s t : State} (h : t.crew = s.crew) : Retagged s t :=
  ⟨StationRecord.tags, fun _ _ => .inr rfl, by rw [h]; exact (List.map_id _).symm⟩

theorem trans {s t u : State} (h : Retagged s u) (k : Retagged u t) : Retagged s t := by
  obtain ⟨g, hg, hs⟩ := h
  obtain ⟨g', hg', ht⟩ := k
  refine ⟨fun st => g' { st with tags := g st }, fun st b => ?_, ?_⟩
  · obtain h' | h' := hg' { st with tags := g st } b
    · exact .inl h'
    · exact (hg st b).imp h'.trans h'.trans
  · rw [ht, hs, List.map_map]
    rfl

theorem of_effect {s t : State} (h : ListEffect s t) : Retagged s t := by
  cases h with
  | rewrite f hf => exact of_crew rfl
  | grant h =>
      cases h with
      | buttons _ tag =>
          refine ⟨fun st => .ofFn (fun b => if st.tags.get b = some tag then none else st.tags.get b), fun st b => ?_, rfl⟩
          rw [PerButton.get_ofFn]
          split
          · exact .inl rfl
          · exact .inr rfl
      | notice n => exact of_crew (appendNotice_crew _ _)
      | _ => exact of_crew rfl

theorem of_effects {s t : State} (h : ListEffects s t) : Retagged s t := by
  induction h with
  | refl => exact of_crew rfl
  | tail _ hk ih => exact ih.trans (of_effect hk)

theorem station {s t : State} (h : Retagged s t) {n : Nat} {st : StationRecord} (hst : s.station n = some st) :
    ∃ tags, t.station n = some { st with tags := tags } ∧ ∀ b, tags.get b = none ∨ tags.get b = st.tags.get b := by
  obtain ⟨g, hg, ht⟩ := h
  refine ⟨g st, ?_, hg st⟩
  rw [State.station, ht, List.find?_map]
  exact congrArg (Option.map fun st => { st with tags := g st }) hst

end Retagged

/-- A change of a station's own record is found under its address. -/
theorem station_onStation {s : State} {n : Nat} {st : StationRecord} {f : StationRecord → StationRecord}
    (hst : s.station n = some st) (hf : ∀ v, (f v).address = v.address) : (s.onStation n f).station n = some (f st) := by
  have hp : (fun st : StationRecord => decide (st.address = n)) ∘ (fun st => if st.address = n then f st else st) =
      fun st => decide (st.address = n) := by
    funext v
    rw [Function.comp]
    split
    · rw [hf v]
    · rfl
  have hn : st.address = n := of_decide_eq_true (List.find?_some (p := fun v : StationRecord => decide (v.address = n)) hst)
  rw [State.station, State.onStation_crew, List.find?_map, hp]
  exact (congrArg (Option.map _) hst).trans (congrArg some (if_pos hn))

/-! ### The buttons of a set (R169) -/

/-- The set holds this button alone. -/
abbrev PerButton.Only (n : PerButton Bool) (b : Button) : Prop := ∀ c ∈ buttons, n.get c = decide (c = b)

theorem empty_iff {n : PerButton Bool} : n.empty = true ↔ ∀ c, n.get c = false := by
  rw [PerButton.empty, List.all_eq_true]
  exact ⟨fun h c => by simpa using h c (mem_buttons c), fun h c _ => by rw [h c]; rfl⟩

theorem filter_only {p : Button → Bool} {b : Button} (h : ∀ c, p c = decide (c = b)) : buttons.filter p = [b] := by
  rw [List.filter_congr fun c _ => h c]
  cases b <;> rfl

theorem filter_none {p : Button → Bool} (h : ∀ c, p c = false) : buttons.filter p = [] :=
  List.filter_eq_nil_iff.2 fun c _ => Bool.eq_false_iff.1 (h c)

theorem opposes_self (f : ButtonFunction) : opposes f f = false := by
  cases f with
  | jog a d sp => exact (congrArg (a == a && ·) (bne_self_eq_false d)).trans (Bool.and_false _)
  | unused => rfl
  | seq n => rfl
  | stop => rfl

/-- R169: a set of one button has no opposite pair. -/
theorem paired_only {f : PerButton ButtonFunction} {n : PerButton Bool} {b : Button} (h : n.Only b) (c : Button) :
    paired f n c = false := by
  rw [paired]
  by_cases hc : c = b
  · subst hc
    have hnone : (buttons.any fun d => n.get d && opposes (f.get c) (f.get d)) = false := by
      refine List.any_eq_false.2 fun d hd hp => ?_
      obtain ⟨hn, ho⟩ := Bool.and_eq_true_iff.1 hp
      rw [h d hd] at hn
      rw [of_decide_eq_true hn, opposes_self] at ho
      cases ho
    rw [hnone, Bool.and_false]
  · rw [h c (mem_buttons c), decide_eq_false hc, Bool.false_and]

theorem paired_empty {f : PerButton ButtonFunction} {n : PerButton Bool} (h : ∀ c, n.get c = false) (c : Button) :
    paired f n c = false := by rw [paired, h c, Bool.false_and]

/-! ### The decode of the frames that hold or let go of one button (R169) -/

section Decode

variable {st : StationRecord} {n : PerButton Bool} {b : Button}

/-- R169 stages 1 and 2: a frame that lets its station's one held button go. -/
theorem holdDecode_release (s : State) (hold : st.lastSet.Only b) (hn : n.empty = true) :
    holdDecode st n s = (releaseButton st.address s b).onStation st.address (newSet n) := by
  have hn := empty_iff.1 hn
  have hgone : buttons.filter (fun c => st.lastSet.get c && !n.get c) = [b] :=
    filter_only fun c => by rw [hn c, Bool.not_false, Bool.and_true, hold c (mem_buttons c)]
  have hpair : buttons.filter (paired st.function n) = [] := filter_none (paired_empty hn)
  have hkept : buttons.filter (fun c => n.get c && st.lastSet.get c && !paired st.function n c) = [] :=
    filter_none fun c => by rw [hn c]; rfl
  have hnew : buttons.filter (fun c => n.get c && !st.lastSet.get c) = [] := filter_none fun c => by rw [hn c]; rfl
  have hstop : (buttons.any fun c => n.get c && !st.lastSet.get c && st.function.get c == .stop) = false :=
    List.any_eq_false.2 fun c _ => by rw [hn c]; exact Bool.false_ne_true
  rw [holdDecode_eq, beforePresses, hgone, hpair, hkept, hnew, hstop]
  rfl

/-- R169 stage 3: a frame with the one button that its station held. -/
theorem holdDecode_refresh (s : State) (hold : st.lastSet.Only b) (hn : n.Only b) :
    holdDecode st n s = (refreshButton st.address s b).onStation st.address (newSet n) := by
  have hsame (c : Button) : n.get c = st.lastSet.get c := (hn c (mem_buttons c)).trans (hold c (mem_buttons c)).symm
  have hgone : buttons.filter (fun c => st.lastSet.get c && !n.get c) = [] :=
    filter_none fun c => by rw [hsame c, Bool.and_not_self]
  have hpair : buttons.filter (paired st.function n) = [] := filter_none (paired_only hn)
  have hkept : buttons.filter (fun c => n.get c && st.lastSet.get c && !paired st.function n c) = [b] :=
    filter_only fun c => by rw [hsame c, Bool.and_self, paired_only hn c, Bool.not_false, Bool.and_true, hold c (mem_buttons c)]
  have hnew : buttons.filter (fun c => n.get c && !st.lastSet.get c) = [] :=
    filter_none fun c => by rw [hsame c, Bool.and_not_self]
  have hstop : (buttons.any fun c => n.get c && !st.lastSet.get c && st.function.get c == .stop) = false :=
    List.any_eq_false.2 fun c _ => by rw [hsame c, Bool.and_not_self]; exact Bool.false_ne_true
  rw [holdDecode_eq, beforePresses, hgone, hpair, hkept, hnew, hstop]
  rfl

/-- R169 stages 4 and 5: a frame with one newly held button. -/
theorem holdDecode_press (s : State) (hold : st.lastSet.empty = true) (hn : n.Only b) :
    holdDecode st n s =
      (pressButton st.address n (if st.function.get b = .stop then settle (stopEvery .stopped s) else s) b).onStation
        st.address (newSet n) := by
  have hold := empty_iff.1 hold
  have hgone : buttons.filter (fun c => st.lastSet.get c && !n.get c) = [] := filter_none fun c => by rw [hold c]; rfl
  have hpair : buttons.filter (paired st.function n) = [] := filter_none (paired_only hn)
  have hkept : buttons.filter (fun c => n.get c && st.lastSet.get c && !paired st.function n c) = [] :=
    filter_none fun c => by rw [hold c, Bool.and_false, Bool.false_and]
  have hfresh (c : Button) : (n.get c && !st.lastSet.get c) = decide (c = b) := by
    rw [hold c, Bool.not_false, Bool.and_true, hn c (mem_buttons c)]
  have hnew : buttons.filter (fun c => n.get c && !st.lastSet.get c) = [b] := filter_only hfresh
  have hstop : (buttons.any fun c => n.get c && !st.lastSet.get c && st.function.get c == .stop) = true ↔
      st.function.get b = .stop := by
    rw [List.any_eq_true]
    refine ⟨fun ⟨c, _, hc⟩ => ?_, fun h => ⟨b, mem_buttons b, ?_⟩⟩
    · rw [hfresh c] at hc
      obtain ⟨hcb, hf⟩ := Bool.and_eq_true_iff.1 hc
      exact of_decide_eq_true hcb ▸ eq_of_beq hf
    · rw [hfresh b, h]
      exact Bool.and_eq_true_iff.2 ⟨decide_eq_true rfl, rfl⟩
  rw [holdDecode_eq, beforePresses, hgone, hpair, hkept, hnew]
  simp only [List.foldl_nil, List.foldl_cons, hstop]

/-- The two buttons of a pair, in the order in which they are taken. -/
theorem filter_pair {p : Button → Bool} {c : Button} (hc : c ≠ b) (h : ∀ x, p x = decide (x = b ∨ x = c)) :
    buttons.filter p = [b, c] ∨ buttons.filter p = [c, b] := by
  rw [List.filter_congr fun x _ => h x]
  revert hc
  cases b <;> cases c <;> decide

/-- R169 stages 2 and 5: a frame that adds to its station's one held button the one opposite to it. -/
theorem holdDecode_pair {c : Button} (s : State) (hc : c ≠ b) (hold : st.lastSet.Only b)
    (hn : ∀ x ∈ buttons, n.get x = decide (x = b ∨ x = c)) (hbc : opposes (st.function.get b) (st.function.get c) = true)
    (hcb : opposes (st.function.get c) (st.function.get b) = true) (hjog : st.function.get c ≠ .stop)
    (hfree : releaseButton st.address s c = s)
    (hthen : releaseButton st.address (releaseButton st.address s b) c = releaseButton st.address s b) :
    paired st.function n c = true
      ∧ holdDecode st n s =
        (pressButton st.address n (releaseButton st.address s b) c).onStation st.address (newSet n) := by
  have hn (x : Button) : n.get x = decide (x = b ∨ x = c) := hn x (mem_buttons x)
  have hold (x : Button) : st.lastSet.get x = decide (x = b) := hold x (mem_buttons x)
  have hpaired (x : Button) : paired st.function n x = decide (x = b ∨ x = c) := by
    rw [paired, hn x]
    by_cases hx : x = b ∨ x = c
    · have hany : (buttons.any fun y => n.get y && opposes (st.function.get x) (st.function.get y)) = true := by
        obtain rfl | rfl := hx
        · exact List.any_eq_true.2 ⟨c, mem_buttons c, by rw [hn c, hbc, Bool.and_true]; exact decide_eq_true (.inr rfl)⟩
        · exact List.any_eq_true.2 ⟨b, mem_buttons b, by rw [hn b, hcb, Bool.and_true]; exact decide_eq_true (.inl rfl)⟩
      rw [hany, Bool.and_true]
    · rw [decide_eq_false hx, Bool.false_and]
  have hgone : buttons.filter (fun x => st.lastSet.get x && !n.get x) = [] := filter_none fun x => by
    rw [hold x, hn x]
    by_cases hx : x = b
    · rw [decide_eq_true (.inl hx : x = b ∨ x = c), Bool.not_true, Bool.and_false]
    · rw [decide_eq_false hx, Bool.false_and]
  have hkept : buttons.filter (fun x => n.get x && st.lastSet.get x && !paired st.function n x) = [] :=
    filter_none fun x => by
      rw [hpaired x, hn x]
      cases decide (x = b ∨ x = c)
      · rfl
      · exact Bool.and_false _
  have hfresh (x : Button) : (n.get x && !st.lastSet.get x) = decide (x = c) := by
    rw [hold x, hn x]
    by_cases hx : x = b
    · subst hx
      rw [decide_eq_true rfl, Bool.not_true, Bool.and_false, decide_eq_false hc.symm]
    · rw [decide_eq_false hx, Bool.not_false, Bool.and_true]
      exact decide_eq_decide.2 (or_iff_right hx)
  have hnew : buttons.filter (fun x => n.get x && !st.lastSet.get x) = [c] := filter_only hfresh
  have hstop : (buttons.any fun x => n.get x && !st.lastSet.get x && st.function.get x == .stop) = false :=
    List.any_eq_false.2 fun x _ h => by
      rw [hfresh x] at h
      obtain ⟨hx, hf⟩ := Bool.and_eq_true_iff.1 h
      exact hjog (of_decide_eq_true hx ▸ eq_of_beq hf)
  have hrelease : (buttons.filter (paired st.function n)).foldl (releaseButton st.address) s =
      releaseButton st.address s b := by
    obtain h | h := filter_pair hc hpaired <;> rw [h, List.foldl_cons, List.foldl_cons, List.foldl_nil]
    · exact hthen
    · rw [hfree]
  refine ⟨(hpaired c).trans (decide_eq_true (.inr rfl)), ?_⟩
  rw [holdDecode_eq, beforePresses, hgone, List.foldl_nil, hrelease, hkept, hnew, hstop]
  rfl

end Decode

/-- R169: a frame leaves the axis records. -/
theorem holdDecode_axis (st : StationRecord) (n : PerButton Bool) (s : State) :
    (holdDecode st n s).motion.axis = s.motion.axis := by
  rw [holdDecode_eq]
  have hquit := (Quits.beforePresses st n s).change.axis
  generalize beforePresses st n s = u at hquit ⊢
  have hlisten : u.Listens st.address (u.terms (((u.station st.address).map StationRecord.role).getD .cab) False) :=
    ⟨rfl, fun st' h => by rw [h]; rfl⟩
  exact (Attends.foldl_pressButton n (buttons.filter fun b => n.get b && !st.lastSet.get b) u hlisten).steady.axis.trans hquit

end Sys2Proof.Machine

namespace Sys2Proof.Machine

/-! ### Buttons let go and buttons held (R94, R111, R169) -/

section Held

variable {s : State} {a : Nat} {v : StationRecord} {b : Button} {k : Nat} {r : Record} (hst : s.station a = some v)
  (htag : v.tags.get b = some k) (hf : s.find k = some r)

include hst

/-- A button with no record lets nothing go. -/
theorem releaseButton_free (h : (v.tags.get b).bind s.find = none) : releaseButton a s b = s := by
  rw [releaseButton, buttonTag, hst]
  change (match (v.tags.get b).bind s.find with
    | none => s
    | some r => settle (holdStop .released r s)) = s
  rw [h]

include htag hf

theorem releaseButton_found : releaseButton a s b = settle (holdStop .released r s) := by
  rw [releaseButton, buttonTag, hst]
  change (match (v.tags.get b).bind s.find with
    | none => s
    | some r => settle (holdStop .released r s)) = _
  rw [htag, Option.bind_some, hf]

theorem refreshButton_found (hr : v.refused.get b = false) (hp : r.state = .paused → v.releasePending = false) :
    refreshButton a s b = refresh r s := by
  rw [refreshButton, hst]
  dsimp only
  rw [hr, if_neg Bool.false_ne_true, htag, Option.bind_some, hf]
  dsimp only
  exact if_neg fun ⟨hs, hpend⟩ => Bool.false_ne_true ((hp hs).symm.trans hpend)

end Held

/-! ### Presses (R169 stage 5, R171) -/

/-- The request of a press, with the station as owner. -/
def stationRequest (v : StationRecord) (d : Demand) : Request :=
  { tag := none, source := v.role, station := some v.address, demand := d }

section Press

variable {s : State} {a : Nat} {v : StationRecord} {n : PerButton Bool} {b : Button} (hst : s.station a = some v)

include hst

theorem pressButton_idle (h : buttonDemand (v.function.get b) = none) : pressButton a n s b = s := by
  rw [pressButton, hst]
  dsimp only
  rw [h]

variable {d : Demand} (hd : buttonDemand (v.function.get b) = some d)

include hd

/-- A press of a button whose record is PAUSED. -/
theorem pressButton_paused {r : Record} (hp : pausedRecord v b s = some r) :
    pressButton a n s b = if v.releasePending then refuseButton a b s else refresh r s := by
  rw [pressButton, hst]
  dsimp only
  rw [hd]
  dsimp only
  rw [hp]

/-- Any other press is refused or judged. -/
theorem pressButton_fresh (hp : pausedRecord v b s = none) : pressButton a n s b =
    if paired v.function n b || v.releasePending || buttons.any (fun c => n.get c && v.function.get c == .stop) then
      refuseButton a b s
    else pressDemand v b d s := by
  rw [pressButton, hst]
  dsimp only
  rw [hd]
  dsimp only
  rw [hp]

/-- R169: with one button held, only release pending refuses a press before it is judged. -/
theorem pressButton_only (hp : pausedRecord v b s = none) (hn : n.Only b) : pressButton a n s b =
    if v.releasePending then refuseButton a b s else pressDemand v b d s := by
  have hstop : buttons.any (fun c => n.get c && v.function.get c == .stop) = false := by
    refine List.any_eq_false.2 fun c hc h => ?_
    obtain ⟨hnc, hf⟩ := Bool.and_eq_true_iff.1 h
    rw [hn c hc] at hnc
    rw [of_decide_eq_true hnc] at hf
    rw [eq_of_beq hf] at hd
    cases hd
  rw [pressButton_fresh hst hd hp, paired_only hn, hstop, Bool.or_false, Bool.false_or]

end Press

theorem pausedRecord_jog {v : StationRecord} {b : Button} {a : Axis} {d : Dir} {sp : Speed} (s : State)
    (h : v.function.get b = .jog a d sp) : pausedRecord v b s = none := by
  unfold pausedRecord
  rw [h]

theorem pausedRecord_seq {v : StationRecord} {b : Button} {m : Nat} (s : State) (h : v.function.get b = .seq m) :
    (∀ r, pausedRecord v b s = some r ↔ (v.tags.get b).bind s.find = some r ∧ r.state = .paused) := by
  intro r
  unfold pausedRecord
  rw [h]
  cases (v.tags.get b).bind s.find with
  | none => exact ⟨fun h => (nomatch h), fun h => (nomatch h.1)⟩
  | some r' =>
      dsimp only
      by_cases hp : r'.state = .paused
      · rw [if_pos hp]
        exact ⟨fun h => by cases h; exact ⟨rfl, hp⟩, fun h => h.1⟩
      · rw [if_neg hp]
        exact ⟨fun h => (nomatch h), fun ⟨h, hs⟩ => by cases h; exact absurd hs hp⟩

/-- R169: the mark of a refused press stands while the button is held. -/
theorem refuseButton_marks {s : State} {a : Nat} {v : StationRecord} {n : PerButton Bool} {b : Button}
    (hst : s.station a = some v) (hn : n.get b = true) :
    ∃ u, ((refuseButton a b s).onStation a (newSet n)).station a = some u ∧ u.refused.get b = true := by
  have hmark : (refuseButton a b s).station a = some { v with refused := v.refused.set b true } :=
    station_onStation hst fun _ => rfl
  refine ⟨_, station_onStation (f := newSet n) hmark fun _ => rfl, ?_⟩
  rw [newSet, PerButton.get_ofFn, PerButton.get_set_self, hn]
  rfl

/-- R99: forming a step does not read the tag. -/
theorem formStep_retag {s : State} {r x : Record} {q : SeqFields} (t : Nat) (h : formStep s r q = some x) :
    formStep s { r with tag := t } q = some { x with tag := t } := by
  unfold formStep at h ⊢
  split at h
  · cases h
  · next st hst =>
    obtain ⟨v, hv, rfl⟩ := Option.map_eq_some_iff.1 h
    rw [hv]
    rfl

section Accepted

variable {s : State} {v : StationRecord} {b : Button} {d : Demand} {r : Record}
  (hj : judgeRequest s (stationRequest v d) = .accept r)

/-- R27, R29: an accepted press takes an arrival number and a tag. -/
theorem acceptPress_takes (a : Nat) (b : Button) (r : Record) (s : State) :
    (acceptPress a b r s).motion.arrivals = (s.motion.arrivals + 1) % 65536
      ∧ (acceptPress a b r s).motion.nextTag = if 255 ≤ freeTag s then 200 else freeTag s + 1 := by
  have h : ListChange (pressed a b r s) (acceptPress a b r s) := .settle _
  rw [h.motion]
  exact ⟨rfl, rfl⟩

include hj

theorem pressDemand_accepted : pressDemand v b d s = acceptPress v.address b r s := by
  have hj' : judgeRequest s { tag := none, source := v.role, station := some v.address, demand := d } = .accept r := hj
  unfold pressDemand
  split
  · next h => cases hj'.symm.trans h; rfl
  · next h => cases hj'.symm.trans h
  · next h => cases hj'.symm.trans h

/-- R41, R171: on an empty list a press whose motion passes every stage enters PREWARN. -/
theorem acceptPress_prewarns {n : PerButton Bool} (hst : s.station v.address = some v) (hdue : s.motion.attemptsDue = 0)
    (hform : ∀ q ∈ r.seq, formStep s r q = some r) (hrecords : s.motion.records = []) (hbank : s.motion.bank = none)
    (hheld : r.needsBank = true → s.bankWithheld = false) (hfits : r.draw ≤ s.motion.budget)
    (hcomplete : completeAtGrant s r = none) (hwarn : 0 < (s.limits r.axis).prewarn) :
    let t := (acceptPress v.address b r s).onStation v.address (newSet n)
    ∃ x u, t.motion.records = [x] ∧ x.tag = freeTag s ∧ x.station = some v.address ∧ x.source = v.role ∧ x.kind = d.kind
      ∧ x.held = d.held ∧ x.axis = r.axis ∧ x.dir = r.dir ∧ x.target = r.target ∧ x.state = .prewarn
      ∧ x.arrival = s.motion.arrivals ∧ x.lastRefresh = s.clock
      ∧ x.seq = r.seq.map (fun q => { q with granted := true })
      ∧ t.motion.bank = (if r.needsBank then some (freeTag s) else none)
      ∧ t.station v.address = some u ∧ u.tags.get b = some (freeTag s) ∧ u.refused.get b = false := by
  intro t
  obtain ⟨hnew, -, -, -⟩ := judgeRequest_accepted hj
  have hstamp := judgeRequest_stamped hj
  let r' : Record := { r with tag := freeTag s }
  let mark (st : StationRecord) : StationRecord :=
    { st with tags := st.tags.set b (some (freeTag s)), refused := st.refused.set b false }
  let s1 := (takeTag (freeTag s) s).onStation v.address mark
  have hpress : acceptPress v.address b r s = settle (acceptRecord r' s1) := rfl
  have hlocks : interlocks s r.axis r.dir r.source = true := judgeRequest_interlocks hj hform
  obtain ⟨x, hx, hb, hbank', -, hcrew, -⟩ := accept_begins (s := s1) (r := r') hdue hnew.waiting
    (fun q hq => formStep_retag (freeTag s) (hform q hq)) hrecords hbank hheld hfits hlocks hcomplete
    (.inl hwarn)
  have hmark : s1.station v.address = some (mark v) := station_onStation (s := takeTag (freeTag s) s) hst fun _ => rfl
  have hmarked : (settle (acceptRecord r' s1)).station v.address = some (mark v) := by
    rw [State.station, hcrew]
    exact hmark
  have hu := station_onStation (f := newSet n) hmarked fun _ => rfl
  refine ⟨x, newSet n (mark v), hx, hb.tag, hb.station.trans hnew.station, hb.source.trans hnew.source,
    hb.kind.trans hstamp.kind, hb.held.trans hstamp.held, hb.axis, hb.dir, hb.target, ?_, hb.arrival.trans hstamp.arrival,
    hb.lastRefresh.trans hstamp.lastRefresh, hb.seq, hbank', hu, PerButton.get_set_self .., ?_⟩
  · exact hb.state.trans (if_neg (Nat.ne_of_gt hwarn))
  · rw [newSet, PerButton.get_ofFn, PerButton.get_set_self]
    rfl

end Accepted

theorem pressDemand_refused {s : State} {v : StationRecord} {d : Demand} {e : Status}
    (hj : judgeRequest s (stationRequest v d) = .refuse e) (b : Button) : pressDemand v b d s = refuseButton v.address b s := by
  have hj' : judgeRequest s { tag := none, source := v.role, station := some v.address, demand := d } = .refuse e := hj
  unfold pressDemand
  split
  · next h => cases hj'.symm.trans h
  · rfl
  · rfl

end Sys2Proof.Machine

namespace Sys2Proof.Machine

/-! ### What a HOLD frame does to the list (R169 to R171) -/

theorem execHoldFrame_eq {s : State} {st : StationRecord} {src dst : BitVec 4} (data : Byte) (hbus : busReceives s = true)
    (hst : s.station src.toNat = some st) (hdst : dst = 15 ∨ dst = 0) : exec (.holdFrame src dst data) s =
      .next (holdDecode st (buttonSet data)
        (heard src.toNat (frameStop (CrewFrame.bytes ⟨src, dst, .hold data⟩) s))) := by
  have hstop : (frameStop (CrewFrame.bytes ⟨src, dst, .hold data⟩) s).station src.toNat = some st := hst
  have hpart : toPart dst = true := by
    obtain rfl | rfl := hdst <;> rfl
  change Host.Outcome.next (atStop _ (handHold src dst data) s) = _
  rw [atStop, hbus, if_pos rfl, handHold, hstop]
  dsimp only
  rw [hpart, if_pos rfl]

/-! The list's operations read and leave what a frame changes in the crew block. -/

theorem letGo_withCrew {s t : State} {r : Record} (c c' : Crew) (h : s.LetGo r t) :
    State.LetGo { s with crew := c } r { t with crew := c' } := by
  cases s
  cases t
  exact h

theorem resumed_withCrew {s t : State} {r : Record} {q : SeqFields} (c c' : Crew) (h : s.Resumed r q t) :
    State.Resumed { s with crew := c } r q { t with crew := c' } := by
  cases s
  cases t
  exact h

theorem resumed_onStation {s t : State} {r : Record} {q : SeqFields} (a : Nat) (f : StationRecord → StationRecord)
    (h : s.Resumed r q t) : s.Resumed r q (t.onStation a f) := resumed_withCrew s.crew (t.onStation a f).crew h

theorem letGo_onStation {s t : State} {r : Record} (a : Nat) (f : StationRecord → StationRecord) (h : s.LetGo r t) :
    s.LetGo r (t.onStation a f) := letGo_withCrew s.crew (t.onStation a f).crew h

section Frame

/-! A good frame, decoded in a state in which its station has been heard. -/

variable {s : State} {st : StationRecord} {heardAt : Option Nat} {n : PerButton Bool} {b : Button}
  (hst : s.station st.address = some { st with silence := heardAt })

include hst

/-- R94, R169: the one button that was held is let go. -/
theorem frame_releases {k : Nat} {r : Record} (hold : st.lastSet.Only b) (hn : n.empty = true) (htag : st.tags.get b = some k)
    (hf : s.find k = some r) (hdue : s.motion.attemptsDue = 0) : s.LetGo r (holdDecode st n s) := by
  have hk := find_tag hf
  subst hk
  rw [holdDecode_release s hold hn, releaseButton_found hst htag hf]
  exact letGo_onStation _ _ (release_letGo hf hdue)

/-- R111: the one button that was held is held on. -/
theorem frame_refreshes {k : Nat} {r : Record} (hold : st.lastSet.Only b) (hn : n.Only b) (hr : st.refused.get b = false)
    (htag : st.tags.get b = some k) (hf : s.find k = some r) :
    (r.held = true → (r.state = .waiting ∨ r.state = .prewarn ∨ r.state = .starting ∨ r.state = .moving) →
        (holdDecode st n s).motion = { s.motion with
            records := s.motion.records.map (fun x => if x.tag = k then { x with lastRefresh := s.clock } else x) }
          ∧ (holdDecode st n s).link = s.link ∧ (holdDecode st n s).drive = s.drive)
      ∧ ∀ q, r.state = .paused → r.seq = some q → st.releasePending = false → s.AloneWaits r →
        s.Resumed r q (holdDecode st n s) := by
  have hk := find_tag hf
  subst hk
  refine ⟨fun hh hrun => ?_, fun q hp hq hpend halone => ?_⟩
  · have hnp : r.state = .paused → st.releasePending = false := fun hp => by simp [hp] at hrun
    rw [holdDecode_refresh s hold hn, refreshButton_found hst htag hf hr hnp, refresh_running s hh hrun]
    exact ⟨rfl, rfl, rfl⟩
  · rw [holdDecode_refresh s hold hn, refreshButton_found hst htag hf hr fun _ => hpend, refresh, if_pos hp]
    exact resumed_onStation _ _ (resume_resumed hf hq hp halone)

/-- R116: a newly held STOP button. -/
theorem frame_stops (hold : st.lastSet.empty = true) (hn : n.Only b) (hfun : st.function.get b = .stop)
    (hnodup : s.tags.Nodup) : ∀ r ∈ (holdDecode st n s).motion.records, r.state = .stopping := by
  have hchange : ListEffects s (settle (stopEvery .stopped s)) := Relation.ReflTransGen.trans (ListEffects.stopEvery _ _) (ListEffects.settle _)
  obtain ⟨tags, hst', -⟩ := (Retagged.of_effects hchange).station hst
  have hidle : buttonDemand (st.function.get b) = none := by rw [hfun]; rfl
  rw [holdDecode_press s hold hn, if_pos hfun, pressButton_idle hst' hidle]
  exact settle_stopEvery_stopping (by decide) hnodup

omit hst in
theorem frame_presses (hold : st.lastSet.empty = true) (hn : n.Only b) (hfun : st.function.get b ≠ .stop) :
    holdDecode st n s = (pressButton st.address n s b).onStation st.address (newSet n) := by
  rw [holdDecode_press s hold hn, if_neg hfun]

theorem frame_idles (hold : st.lastSet.empty = true) (hn : n.Only b) (hfun : st.function.get b = .unused) :
    (holdDecode st n s).motion = s.motion ∧ (holdDecode st n s).link = s.link := by
  have hidle : buttonDemand (st.function.get b) = none := by rw [hfun]; rfl
  rw [frame_presses hold hn (by rw [hfun]; decide), pressButton_idle hst hidle]
  exact ⟨rfl, rfl⟩

/-- A refused press: the list stands, and the button is marked. -/
abbrev Refused (s : State) (a : Nat) (b : Button) (t : State) : Prop :=
  t.motion = s.motion ∧ t.link = s.link ∧ ∃ u, t.station a = some u ∧ u.refused.get b = true

theorem refuseButton_refused (hn : n.get b = true) :
    Refused s st.address b ((refuseButton st.address b s).onStation st.address (newSet n)) :=
  ⟨rfl, rfl, refuseButton_marks hst hn⟩

/-- R171: a press that resumes no record is refused under release pending, and else as its request is judged. -/
theorem frame_judged {d : Demand} (hold : st.lastSet.empty = true) (hn : n.Only b)
    (hd : buttonDemand (st.function.get b) = some d) (hp : pausedRecord { st with silence := heardAt } b s = none)
    (hdue : s.motion.attemptsDue = 0) :
    let t := holdDecode st n s
    let rq := stationRequest st d
    (st.releasePending = true → Refused s st.address b t)
      ∧ (st.releasePending = false →
        (∀ e, judgeRequest s rq = .refuse e → Refused s st.address b t)
          ∧ ∀ r, judgeRequest s rq = .accept r →
            t.motion.arrivals = (s.motion.arrivals + 1) % 65536
              ∧ t.motion.nextTag = (if 255 ≤ freeTag s then 200 else freeTag s + 1)
              ∧ ((∀ q ∈ r.seq, formStep s r q = some r) → s.motion.records = [] → s.motion.bank = none →
                (r.needsBank = true → s.bankWithheld = false) → r.draw ≤ s.motion.budget → completeAtGrant s r = none →
                0 < (s.limits r.axis).prewarn →
                  ∃ x u, t.motion.records = [x] ∧ x.tag = freeTag s ∧ x.station = some st.address ∧ x.source = st.role
                    ∧ x.kind = d.kind ∧ x.held = d.held ∧ x.axis = r.axis ∧ x.dir = r.dir ∧ x.target = r.target
                    ∧ x.state = .prewarn ∧ x.arrival = s.motion.arrivals ∧ x.lastRefresh = s.clock
                    ∧ x.seq = r.seq.map (fun q => { q with granted := true })
                    ∧ t.motion.bank = (if r.needsBank then some (freeTag s) else none)
                    ∧ t.station st.address = some u ∧ u.tags.get b = some (freeTag s) ∧ u.refused.get b = false)) := by
  intro t rq
  have hfun : st.function.get b ≠ .stop := fun h => by rw [h] at hd; cases hd
  have hset : n.get b = true := (hn b (mem_buttons b)).trans (decide_eq_true rfl)
  have ht : t = (if st.releasePending then refuseButton st.address b s
      else pressDemand { st with silence := heardAt } b d s).onStation st.address (newSet n) := by
    change holdDecode st n s = _
    rw [frame_presses hold hn hfun, pressButton_only hst hd hp hn]
  refine ⟨fun hpend => ?_, fun hpend => ⟨fun e hj => ?_, fun r hj => ?_⟩⟩
  · rw [ht, if_pos hpend]
    exact refuseButton_refused hst hset
  · rw [ht, if_neg (Bool.eq_false_iff.1 hpend), pressDemand_refused (v := { st with silence := heardAt }) hj b]
    exact refuseButton_refused hst hset
  · have hj' : judgeRequest s (stationRequest { st with silence := heardAt } d) = .accept r := hj
    rw [ht, if_neg (Bool.eq_false_iff.1 hpend), pressDemand_accepted hj']
    obtain ⟨harrivals, hnext⟩ := acceptPress_takes st.address b r s
    exact ⟨harrivals, hnext, fun hform hrecords hbank hheld hfits hcomplete hwarn =>
      acceptPress_prewarns hj' hst hdue hform hrecords hbank hheld hfits hcomplete hwarn⟩

/-- R111: a press of the button of a PAUSED SEQUENCE. -/
theorem frame_presses_paused {m k : Nat} {r : Record} {q : SeqFields} (hold : st.lastSet.empty = true) (hn : n.Only b)
    (hfun : st.function.get b = .seq m) (htag : st.tags.get b = some k) (hf : s.find k = some r) (hp : r.state = .paused)
    (hq : r.seq = some q) :
    (st.releasePending = true → Refused s st.address b (holdDecode st n s))
      ∧ (st.releasePending = false → s.AloneWaits r → s.Resumed r q (holdDecode st n s)) := by
  have hk := find_tag hf
  subst hk
  have hset : n.get b = true := (hn b (mem_buttons b)).trans (decide_eq_true rfl)
  have hd : buttonDemand (st.function.get b) = some (.sequence m true) := by rw [hfun]; rfl
  have hpaused : pausedRecord { st with silence := heardAt } b s = some r :=
    (pausedRecord_seq (v := { st with silence := heardAt }) s hfun r).2 ⟨by rw [htag, Option.bind_some, hf], hp⟩
  have ht : holdDecode st n s = (if st.releasePending then refuseButton st.address b s else refresh r s).onStation
      st.address (newSet n) := by
    rw [frame_presses hold hn (by rw [hfun]; exact fun h => nomatch h), pressButton_paused hst hd hpaused]
  refine ⟨fun hpend => ?_, fun hpend halone => ?_⟩
  · rw [ht, if_pos hpend]
    exact refuseButton_refused hst hset
  · rw [ht, if_neg (Bool.eq_false_iff.1 hpend), refresh, if_pos hp]
    exact resumed_onStation _ _ (resume_resumed hf hq hp halone)

/-- R169: the button opposite to the one that was held is pressed. -/
theorem frame_pairs {c : Button} {a : Axis} {d d' : Dir} {sp sp' : Speed} {k : Nat} {r : Record} (hc : c ≠ b)
    (hn : ∀ x ∈ buttons, n.get x = decide (x = b ∨ x = c)) (hold : st.lastSet.Only b)
    (hb : st.function.get b = .jog a d sp) (hcf : st.function.get c = .jog a d' sp') (hdir : d ≠ d')
    (htag : st.tags.get b = some k) (hf : s.find k = some r) (hnone : (st.tags.get c).bind s.find = none)
    (hdue : s.motion.attemptsDue = 0) :
    s.LetGo r (holdDecode st n s)
      ∧ ∃ u, (holdDecode st n s).station st.address = some u ∧ u.refused.get c = true := by
  have hk := find_tag hf
  subst hk
  have hopposes {x y : Button} {dx dy : Dir} {sx sy : Speed} (hx : st.function.get x = .jog a dx sx)
      (hy : st.function.get y = .jog a dy sy) (hne : dx ≠ dy) : opposes (st.function.get x) (st.function.get y) = true := by
    rw [hx, hy]
    exact Bool.and_eq_true_iff.2 ⟨beq_self_eq_true a, bne_iff_ne.2 hne⟩
  have hrelease : releaseButton st.address s b = settle (holdStop .released r s) := releaseButton_found hst htag hf
  have heffects : ListEffects s (settle (holdStop .released r s)) :=
    Relation.ReflTransGen.trans (ListEffects.holdStop .released r s) (ListEffects.settle _)
  let u := settle (holdStop .released r s)
  obtain ⟨tags, hu, htags⟩ := (Retagged.of_effects heffects).station hst
  have hfreed : (tags.get c).bind u.find = none := by
    obtain h | h := htags c
    · rw [h]
      rfl
    · rw [h]
      change (st.tags.get c).bind u.find = none
      cases hk : st.tags.get c with
      | none => rfl
      | some k' =>
          rw [hk] at hnone
          exact heffects.listChange.find_none hnone
  obtain ⟨hpaired, ht⟩ := holdDecode_pair s hc hold hn (hopposes hb hcf hdir) (hopposes hcf hb hdir.symm)
    (by rw [hcf]; exact fun h => nomatch h) (releaseButton_free hst hnone) (by rw [hrelease]; exact releaseButton_free hu hfreed)
  have hset : n.get c = true := (hn c (mem_buttons c)).trans (decide_eq_true (.inr rfl))
  have hpress : pressButton st.address n u c = refuseButton st.address c u := by
    rw [pressButton_fresh (d := .jog a d' sp') hu (by rw [hcf]; rfl) (pausedRecord_jog u hcf), hpaired]
    rfl
  rw [ht, hrelease, hpress]
  exact ⟨letGo_onStation _ _ (letGo_onStation _ _ (release_letGo hf hdue)), refuseButton_marks hu hset⟩

end Frame

end Sys2Proof.Machine

namespace Sys2Proof.Machine

/-- R31: the record of an accepted JOG. -/
theorem judgeRequest_jog {s : State} {rq : Request} {r : Record} {a : Axis} {d : Dir} {sp : Speed}
    (hj : judgeRequest s rq = .accept r) (hd : rq.demand = .jog a d sp) : r.axis = a ∧ r.dir = d ∧ r.seq = none := by
  obtain ⟨f, hf, rfl, -⟩ := judgeRequest_formed hj
  rw [formRequest, hd] at hf
  cases hf
  exact ⟨rfl, rfl, rfl⟩

/-- Settles O48: each kind of frame by what its one button, or its pair, does in the state that has heard the station. -/
theorem holdFramesActOnTheList : Obligations.HoldFramesActOnTheList := by
  unfold Obligations.HoldFramesActOnTheList
  intro s st src dst data b hbus hst hdst hdue only refused
  let s0 := heard src.toNat (frameStop (CrewFrame.bytes ⟨src, dst, .hold data⟩) s)
  let t := holdDecode st (buttonSet data) s0
  have haddr : st.address = src.toNat :=
    of_decide_eq_true (List.find?_some (p := fun v : StationRecord => decide (v.address = src.toNat)) hst)
  have hown : s0.station src.toNat = some { st with silence := some s.clock } :=
    station_onStation (s := frameStop (CrewFrame.bytes ⟨src, dst, .hold data⟩) s)
      (f := fun v => { v with silence := some s.clock }) hst fun _ => rfl
  have hheard : s0.station st.address = some { st with silence := some s.clock } := (congrArg s0.station haddr).trans hown
  have hdue0 : s0.motion.attemptsDue = 0 := hdue
  have hletGo {r : Record} (h : s0.LetGo r t) : s.LetGo r t := letGo_withCrew s.crew t.crew h
  have hresumed {r : Record} {q : SeqFields} (h : s0.Resumed r q t) : s.Resumed r q t := resumed_withCrew s.crew t.crew h
  have hmarked {c : Button} (h : ∃ u, t.station st.address = some u ∧ u.refused.get c = true) : refused t c := by
    rw [haddr] at h
    exact h
  have hrefused {c : Button} (h : Refused s0 st.address c t) : t.motion = s.motion ∧ t.link = s.link ∧ refused t c := by
    obtain ⟨hm, hl, hmark⟩ := h
    exact ⟨hm, hl, hmarked hmark⟩
  refine ⟨t, execHoldFrame_eq data hbus hst hdst, holdDecode_axis st (buttonSet data) s0, fun n r hold hn htag hf => ?_,
    fun n r hold hn hr htag hf => ?_, fun hold hn => ⟨fun hfun hnodup => ?_, fun hfun => ?_, fun a d sp hfun hpend => ?_,
      fun a d sp hfun hpend => ?_, fun m hfun hnot => ?_, fun m n r q hfun htag hf hp hq => ?_⟩,
    fun c a d d' sp sp' n r hc hn hold hb hcf hdir htag hf hnone => ?_⟩
  · exact hletGo (frame_releases hheard hold hn htag hf hdue0)
  · obtain ⟨hrun, hpaused⟩ := frame_refreshes hheard hold hn hr htag hf
    exact ⟨hrun, fun q hp hq hpend halone => hresumed (hpaused q hp hq hpend halone)⟩
  · exact frame_stops hheard hold hn hfun hnodup
  · exact frame_idles hheard hold hn hfun
  · have hd : buttonDemand (st.function.get b) = some (.jog a d sp) := by rw [hfun]; rfl
    exact hrefused ((frame_judged hheard hold hn hd (pausedRecord_jog s0 hfun) hdue0).1 hpend)
  · have hd : buttonDemand (st.function.get b) = some (.jog a d sp) := by rw [hfun]; rfl
    obtain ⟨hrefuse, haccept⟩ := (frame_judged hheard hold hn hd (pausedRecord_jog s0 hfun) hdue0).2 hpend
    refine ⟨fun e hj => hrefused (hrefuse e hj), fun r hj => ?_⟩
    obtain ⟨harrivals, hnext, hprewarns⟩ := haccept r hj
    refine ⟨harrivals, hnext, fun hrecords hbank hheld hfits hcomplete hwarn => ?_⟩
    obtain ⟨haxis, hdir, hseq⟩ := judgeRequest_jog hj rfl
    have hneeds : r.needsBank = isHydraulic a := by rw [Record.needsBank, hseq, haxis]
    obtain ⟨x, u, hx, htag, hstation, hsource, hkind, hh, hxa, hxd, -, hstate, harrival, hlast, -, -, hu, hutag, hur⟩ :=
      hprewarns (fun q hq => nomatch hseq.symm.trans hq) hrecords hbank (hneeds ▸ hheld) hfits hcomplete (haxis ▸ hwarn)
    exact ⟨x, u, hx, htag, hstation, hsource, hkind, hh, hxa.trans haxis, hxd.trans hdir, hstate, harrival, hlast, haddr ▸ hu,
      hutag, hur⟩
  · have hd : buttonDemand (st.function.get b) = some (.sequence m true) := by rw [hfun]; rfl
    have hnone : pausedRecord { st with silence := some s.clock } b s0 = none := by
      refine Option.eq_none_iff_forall_not_mem.2 fun r hr => ?_
      obtain ⟨hfound, hp⟩ := (pausedRecord_seq (v := { st with silence := some s.clock }) s0 hfun r).1 hr
      obtain ⟨k, hk, hf⟩ := Option.bind_eq_some_iff.1 hfound
      exact hnot k r hk hf hp
    obtain ⟨hpends, hjudged⟩ := frame_judged hheard hold hn hd hnone hdue0
    refine ⟨fun hpend => hrefused (hpends hpend), fun hpend => ?_⟩
    obtain ⟨hrefuse, haccept⟩ := hjudged hpend
    refine ⟨fun e hj => hrefused (hrefuse e hj), fun r hj => ?_⟩
    obtain ⟨harrivals, hnext, hprewarns⟩ := haccept r hj
    refine ⟨harrivals, hnext, fun hrecords hbank hheld hfits hform hcomplete hwarn => ?_⟩
    obtain ⟨first, rest, f, -, hf, rfl, -⟩ := judgeRequest_firstStep hj rfl
    obtain ⟨x, u, hx, htag, hstation, hsource, hkind, hh, hxa, hxd, hxt, hstate, harrival, hlast, hseq, hxbank, hu, hutag, hur⟩ :=
      hprewarns hform hrecords hbank hheld hfits hcomplete hwarn
    rw [hf.seq] at hseq
    exact ⟨x, _, u, hx, htag, hstation, hsource, hkind, hh, hxa, hxd, hxt, hstate, harrival, hlast, hseq, rfl, rfl, rfl, rfl, rfl,
      hxbank, haddr ▸ hu, hutag, hur⟩
  · obtain ⟨hpends, hresumes⟩ := frame_presses_paused hheard hold hn hfun htag hf hp hq
    exact ⟨fun hpend => hrefused (hpends hpend), fun hpend halone => hresumed (hresumes hpend halone)⟩
  · obtain ⟨hgo, hmark⟩ := frame_pairs hheard hc hn hold hb hcf hdir htag hf hnone hdue0
    exact ⟨hletGo hgo, hmarked hmark⟩

end Sys2Proof.Machine
